-- ==== Sys2Proof/Word.lean ====
section
/-! DEFINITION. The word types of the F412 and the numbers of its fixed resources.

A bit vector stands where the manual gives a field of a fixed number of bits (a byte of a cell, a 16-bit
channel value, a wrapping counter, an argument word). A resource the manual numbers from 0 is a `Fin`,
so that a number outside the manual's range cannot be written. -/

namespace Sys2Proof

/-- One byte of a cell (section 11.7). -/
abbrev Byte := BitVec 8

/-- One argument or result word of a management cell (section 11.7). -/
abbrev Word := BitVec 32

/-- One 16-bit channel value, curve point, black offset or gain (R97, section 2.3). -/
abbrev Channel := BitVec 16

/-- A reel slot, 0–7 (R1). -/
abbrev Slot := Fin 8

/-- A head port H0–H3, by number (R5). -/
abbrev Head := Fin 4

/-- A link port: 0–3 for H0–H3 and 4 for S (R179, R186). -/
abbrev Port := Fin 5

/-- A frame buffer, 0–31 (R45). -/
abbrev Buf := Fin 32

/-- A gauge code, 0–3 (R34). -/
abbrev GaugeCode := Fin 4

/-- A grading profile, 0–7 (R97). -/
abbrev ProfileNo := Fin 8

/-- A delivery lane, 0–3 (R126). -/
abbrev Lane := Fin 4

/-- The index of a catalogue record, 0–511 (R145). -/
abbrev RecordNo := Fin 512

/-- A shelf position, 0–1023 (R159). -/
abbrev PositionNo := Fin 1024

/-- The store port S (R174). -/
abbrev portS : Port := 4

/-- The link port of a head (R174). -/
abbrev headPort (h : Head) : Port := h.castSucc

end Sys2Proof
end

