-- ==== Sys2Proof/Syntax.lean ====
section
/-! DEFINITION. The commands of the F412: one constructor of `Instr` for each row of spec/opcode_table.json.

The rows are the part's steps, each whole and indivisible (95_what_each_step_holds.md). They fall in five families:

* events of the reset input and of the five links;
* the arrival of a whole cell on a port, which carries the cell as it was received;
* the events of the part's own running work: a timer's expiry, the completion of a repair or of a send, and
  the sending of a cell;
* the taking of an order by the order unit (R180), one row for each order. The order itself, with its tag and
  argument words, came in an ORDER cell and waits in a port's order queue, so a taking has no operand of
  its own (log entry 2). -/

namespace Sys2Proof

/-- A cell as a port received it, less its kind byte, which the command names (R175, section 11.7). The payload
length field of the envelope is the length of `payload`. -/
structure RxCell where
  /-- The sender's sequence number, which the part reads and does not act on (section 11.2). -/
  seq : Byte
  /-- The payload bytes, in the order they were received. -/
  payload : List Byte
  /-- The value of the check field. -/
  check : Word
  deriving DecidableEq, Repr

/-- The commands, one for each row of spec/opcode_table.json, in the table's order. -/
inductive Instr where
  /-- POWER_ON (R174): the reset input is released. -/
  | powerOn
  /-- HEAD_LINK_LOSS (R43, R174): the link of a head port is lost. -/
  | headLinkLoss (h : Head)
  /-- HEAD_LINK_UP (R174): the link of a head port comes UP. -/
  | headLinkUp (h : Head)
  /-- STORE_LINK_LOSS (R136, R174): the link of port S is lost. -/
  | storeLinkLoss
  /-- STORE_LINK_UP (R137, R174): the link of port S comes UP. -/
  | storeLinkUp
  /-- FRAME_HEAD (R26): a FRAME-HEAD cell arrives on a head port. -/
  | frameHead (h : Head) (c : RxCell)
  /-- LINE (R29): a LINE cell arrives on a head port. -/
  | line (h : Head) (c : RxCell)
  /-- FRAME_END (R31): a FRAME-END cell arrives on a head port. -/
  | frameEnd (h : Head) (c : RxCell)
  /-- REEL_END (R32): a REEL-END cell arrives on a head port. -/
  | reelEnd (h : Head) (c : RxCell)
  /-- STORE_ACK (R138): a STORE-ACK cell arrives on port S. -/
  | storeAck (c : RxCell)
  /-- CREDIT (R130): a CREDIT cell arrives on port S. -/
  | credit (c : RxCell)
  /-- ORDER (R179): an ORDER cell arrives on any port. -/
  | order (p : Port) (c : RxCell)
  /-- OTHER_KIND_CELL (R176): a cell of a kind not handled on that port, or of an unknown code, arrives. -/
  | otherKindCell (p : Port) (kind : Byte) (c : RxCell)
  /-- REPAIR_WAIT_TIMER_EXPIRY (R78): the repair-wait timer of the frame in a buffer expires. -/
  | repairWaitTimerExpiry (b : Buf)
  /-- ACK_TIMER_EXPIRY (R139): the ack timer of a buffer expires. -/
  | ackTimerExpiry (b : Buf)
  /-- REPAIR_COMPLETION (R92): the repair in the engine completes. -/
  | repairCompletion
  /-- OUT_LINE (R134): the transmitter sends the next OUT-LINE cell. -/
  | outLine
  /-- SEND_COMPLETION (R135): the last OUT-LINE cell of the frame has gone. -/
  | sendCompletion
  /-- REPLY_SENT (R177): a REPLY cell leaves the transmit list of a port. -/
  | replySent (p : Port)
  /-- NOTICE_SENT (R185): the NOTICE cell in flight is sent. -/
  | noticeSent
  /-- FLOW_CELL_SENT (R177): the first flow cell due on a head port is sent. -/
  | flowCellSent (h : Head)
  /-- MOUNT_REEL (R5): a MOUNT-REEL order is taken. -/
  | mountReel
  /-- UNMOUNT_REEL_END (R17): an UNMOUNT-REEL order of form END is taken. -/
  | unmountReelEnd
  /-- UNMOUNT_REEL_ABORT (R18): an UNMOUNT-REEL order of form ABORT is taken. -/
  | unmountReelAbort
  /-- HOLD_REEL (R9): a HOLD-REEL order is taken. -/
  | holdReel
  /-- RESUME_REEL (R12): a RESUME-REEL order is taken. -/
  | resumeReel
  /-- SET_REEL_POLICY (R14): a SET-REEL-POLICY order is taken. -/
  | setReelPolicy
  /-- READ_REEL (R23): a READ-REEL order is taken. -/
  | readReel
  /-- SET_GAUGE (R35): a SET-GAUGE order is taken. -/
  | setGauge
  /-- READ_HEAD (R44): a READ-HEAD order is taken. -/
  | readHead
  /-- SET_POOL_MARKS (R59): a SET-POOL-MARKS order is taken. -/
  | setPoolMarks
  /-- READ_POOL (R60): a READ-POOL order is taken. -/
  | readPool
  /-- SET_DEFECT_LIMITS (R75): a SET-DEFECT-LIMITS order is taken. -/
  | setDefectLimits
  /-- SET_REPAIR_LIMITS (R96): a SET-REPAIR-LIMITS order is taken. -/
  | setRepairLimits
  /-- LOAD_PROFILE_CURVE (R101): a LOAD-PROFILE-CURVE order is taken. -/
  | loadProfileCurve
  /-- SET_PROFILE_LEVELS (R102): a SET-PROFILE-LEVELS order is taken. -/
  | setProfileLevels
  /-- READ_PROFILE (R103): a READ-PROFILE order is taken. -/
  | readProfile
  /-- SET_REEL_GRADE (R105): a SET-REEL-GRADE order is taken. -/
  | setReelGrade
  /-- SET_CUE (R107): a SET-CUE order is taken. -/
  | setCue
  /-- CLEAR_CUES (R108): a CLEAR-CUES order is taken. -/
  | clearCues
  /-- WRITE_LANE_MAP (R127): a WRITE-LANE-MAP order is taken. -/
  | writeLaneMap
  /-- SET_ACK_WAIT (R143): a SET-ACK-WAIT order is taken. -/
  | setAckWait
  /-- READ_LANES (R144): a READ-LANES order is taken. -/
  | readLanes
  /-- WRITE_CATALOGUE (R147): a WRITE-CATALOGUE order is taken. -/
  | writeCatalogue
  /-- ERASE_CATALOGUE (R149): an ERASE-CATALOGUE order is taken. -/
  | eraseCatalogue
  /-- READ_CATALOGUE (R150): a READ-CATALOGUE order is taken. -/
  | readCatalogue
  /-- DEFINE_SHELVES (R160): a DEFINE-SHELVES order is taken. -/
  | defineShelves
  /-- SHELF_LOCK (R161): a SHELF-LOCK order is taken. -/
  | shelfLock
  /-- SHELF_UNLOCK (R162): a SHELF-UNLOCK order is taken. -/
  | shelfUnlock
  /-- READ_SHELF (R163): a READ-SHELF order is taken. -/
  | readShelf
  /-- NEXT_TICKET (R170): a NEXT-TICKET order is taken. -/
  | nextTicket
  /-- CONFIRM_TICKET (R171): a CONFIRM-TICKET order is taken. -/
  | confirmTicket
  /-- REFUSE_TICKET (R172): a REFUSE-TICKET order is taken. -/
  | refuseTicket
  /-- IDENTIFY (R182): an IDENTIFY order is taken. -/
  | identify
  /-- SOFT_RESET (R183): a SOFT-RESET order is taken. -/
  | softReset
  /-- SET_NOTICE_LEVELS (R186): a SET-NOTICE-LEVELS order is taken. -/
  | setNoticeLevels
  /-- SET_NOTICE_PORT (R186): a SET-NOTICE-PORT order is taken. -/
  | setNoticePort
  /-- RESET_INPUT_LOW (R174, section 11.8): the reset input is driven low. -/
  | resetInputLow
  deriving DecidableEq, Repr

end Sys2Proof
end

