-- ==== Sys2Proof/Decode.lean ====
section
/-! DEFINITION. The commands that a word of table bits spells. -/

namespace Sys2Proof

/-- The command a word spells by the table's bits. The F412's commands are events on its ports and within it, no row of the
table has bits, and so no word spells a command (log entry 1). -/
def decodeTableWord (_nbits _w : Nat) : Option Instr := none

end Sys2Proof
end

