-- ==== Sys2Proof/Config.lean ====
section
/-! DEFINITION. What every F412 has fixed (the capacities of the introduction), and the values the manual leaves
open, each a constant without a body. -/

namespace Sys2Proof.Config

/-! ### Capacities (00_scope.md, "Capacities") -/

/-- The most lines a frame may have (R27). -/
def maxLines : Nat := 3072

/-- The most samples a line may have (R27). -/
def maxWidth : Nat := 4096

/-- The most runs a run list holds (R66). -/
def maxRuns : Nat := 8192

/-- The most entries a deferred order list holds (R15). -/
def maxDeferred : Nat := 4

/-- The most cues a cue list holds (R106). -/
def maxCues : Nat := 16

/-- The most tickets the ticket queue holds (R164). -/
def maxTickets : Nat := 16

/-- The most orders a port's order queue holds (R179). -/
def maxOrders : Nat := 4

/-- The most management cells a port's transmit list holds (R177). -/
def maxTransmit : Nat := 8

/-- The most credits a lane holds (R130). -/
def maxCredit : Nat := 15

/-- The curve points of one channel of a profile (R97). -/
def curvePoints : Nat := 257

/-! ### Open values -/

/-- The line index of a LINE cell that failed its check because its payload is too short to hold the index field
(R176 handles such a cell under R29, whose tests read the index). The manual states no index for it. Log entry 5. -/
opaque lineIndexOfShortPayload : List Byte → Nat

/-- Whether an abandoned repair had already written the `i`-th sample it was to fill when a reset abandoned it
(R94: samples already written are left in the DRAM). The first argument numbers the abandoned repairs.
Log entry 6. -/
opaque abandonedWrite : Nat → Nat → Bool

end Sys2Proof.Config
end

