-- ==== Sys2Proof/Machine/State.lean ====
section
/-! DEFINITION. The state of the F412 as plain data, block by block as the introduction's table of blocks gives it, and
the state right after reset. -/

namespace Sys2Proof.Machine

/-! ### Reels (chapter 1) -/

/-- The states of a reel slot, in the order of section 1.2. -/
inductive ReelState where
  | free | mounted | running | held | draining | closed
  deriving DecidableEq, Repr

/-- The heavy action of a reel's policy (R1). -/
inductive HeavyAction where
  | pass | hold
  deriving DecidableEq, Repr

/-- The close reasons of a reel and of a catalogue record, in the order of R145. A reel never has `reset`. -/
inductive CloseReason where
  | reelEnd | unmount | abort | reset
  deriving DecidableEq, Repr

/-- A grade: a profile and three trims (R104). -/
structure Grade where
  profile : ProfileNo
  trimR : Int
  trimG : Int
  trimB : Int
  deriving DecidableEq, Repr

/-- A cue of a reel's cue list (R106). -/
structure Cue where
  frame : Nat
  grade : Grade
  deriving DecidableEq, Repr

/-- The policy of a reel (R1). -/
structure Policy where
  settleCount : Nat
  irThreshold : Nat
  heavyAction : HeavyAction
  perfRunLimit : Nat
  deriving DecidableEq, Repr

/-- An entry of a reel's deferred order list: the order's kind, its arguments and its tag (R15). -/
inductive Deferred where
  | holdReel (tag : BitVec 16)
  | unmountEnd (tag : BitVec 16)
  | setPolicy (tag : BitVec 16) (policy : Policy)
  deriving DecidableEq, Repr

/-- The reel counters of R2, in its order. -/
structure ReelCounters where
  framesOpened : BitVec 32 := 0
  framesAssembled : BitVec 32 := 0
  framesLost : BitVec 32 := 0
  discardedOversize : BitVec 32 := 0
  discardedSettle : BitVec 32 := 0
  discardedSequence : BitVec 32 := 0
  discardedHeld : BitVec 32 := 0
  discardedAbort : BitVec 32 := 0
  heavyFrames : BitVec 32 := 0
  perfFaultFrames : BitVec 32 := 0
  shortFrames : BitVec 32 := 0
  badLines : BitVec 32 := 0
  samplesScanned : BitVec 64 := 0
  defectiveSamples : BitVec 64 := 0
  repairedSamples : BitVec 64 := 0
  unrepairedSamples : BitVec 64 := 0
  framesAcknowledged : BitVec 32 := 0
  framesTimedOut : BitVec 32 := 0
  deriving DecidableEq, Repr

/-- A reel record (R1). Its slot number is its place in the reel table. -/
structure Reel where
  state : ReelState := .free
  head : Head := 0
  record : RecordNo := 0
  gauge : GaugeCode := 0
  policy : Policy := ⟨2, 12000, .pass, 0⟩
  grade : Grade := ⟨0, 0, 0, 0⟩
  cues : List Cue := []
  deferred : List Deferred := []
  lastOpened : Option Nat := none
  settleRemaining : Nat := 2
  shrinkEstimate : Option Int := none
  lastOffset : Int := 0
  perfRun : Nat := 0
  latest : Option Buf := none
  closeReason : Option CloseReason := none
  counters : ReelCounters := {}
  deriving DecidableEq, Repr

/-! ### Frame intake (chapter 2) -/

/-- The perf-fault causes, in the order of R41. -/
inductive Cause where
  | noEdges | offsetClamped | tooFewEdges | edgesOutOfOrder | shrinkOutOfRange
  deriving DecidableEq, Repr

/-- The frame description of a head in ASSEMBLING (R24). -/
structure FrameDesc where
  frame : Nat
  lines : Nat
  width : Nat
  slot : Slot
  irThreshold : Nat
  causes : List Cause
  deriving DecidableEq, Repr

/-- The assembly state of a head, with the frame in hand and its description where it is ASSEMBLING (R24). -/
inductive Assembly where
  | idle
  | assembling (buf : Buf) (desc : FrameDesc)
  | sinking
  deriving DecidableEq, Repr

/-- The last measurement of a head (R24). -/
structure Measurement where
  frame : Nat
  slot : Slot
  offset : Int
  shrink : Option Int
  causes : List Cause
  deriving DecidableEq, Repr

/-- The intake of one head (R24). -/
structure HeadIntake where
  assembly : Assembly := .idle
  checkFailures : BitVec 32 := 0
  orphanFrames : BitVec 32 := 0
  duplicateLines : BitVec 32 := 0
  sunkCells : BitVec 32 := 0
  lastMeasurement : Option Measurement := none
  deriving DecidableEq, Repr

/-- An entry of the gauge table: nominal pitch P, anchor A and registration range R; P = 0 is undefined (R34). -/
structure Gauge where
  pitch : Nat := 0
  anchor : Nat := 0
  range : Nat := 0
  deriving DecidableEq, Repr

/-- The frame intake: the four heads and the gauge table they share (R24, R34). -/
structure Intake where
  heads : Vector HeadIntake 4 := Vector.replicate 4 {}
  gauges : Vector Gauge 4 := Vector.replicate 4 {}
  deriving DecidableEq, Repr

/-! ### The frame pool (chapter 3) -/

/-- One sample of a frame: its four channel values (section 2.3). -/
structure Sample where
  r : Channel
  g : Channel
  b : Channel
  ir : Channel
  deriving DecidableEq, Repr

/-- The sample with 0 in every channel, as a bad line stores it (R29). -/
abbrev Sample.zero : Sample := ⟨0, 0, 0, 0⟩

/-- A defect run (R63). -/
structure Run where
  line : Nat
  start : Nat
  length : Nat
  deriving DecidableEq, Repr

/-- The states of a buffer, in the order of section 3.2. -/
inductive BufferState where
  | free | filling | pending | repair | queued | sending | awaitAck | done
  deriving DecidableEq, Repr

/-- The delivery states of a buffer record (R45). -/
inductive Delivery where
  | neverSent | awaitingAck | resolved
  deriving DecidableEq, Repr

/-- The resolutions of a delivery (R45). -/
inductive Resolution where
  | acknowledged | timedOut | discarded
  deriving DecidableEq, Repr

/-- A buffer record (R45), with the two timers its frame may have running: the repair-wait timer (R78) and the ack
timer (R139), each with the wait in milliseconds it was set to. -/
structure Buffer where
  state : BufferState := .free
  slot : Slot := 0
  record : RecordNo := 0
  frame : Nat := 0
  lines : Nat := 1
  width : Nat := 1
  received : List Nat := []
  badLines : Nat := 0
  runs : List Run := []
  overflow : Bool := false
  defective : Nat := 0
  repaired : Nat := 0
  unrepaired : Nat := 0
  offset : Int := 0
  grade : Grade := ⟨0, 0, 0, 0⟩
  heavy : Bool := false
  successorHold : Bool := false
  neighbourHolds : Nat := 0
  lane : Option Lane := none
  delivery : Delivery := .neverSent
  resolution : Option Resolution := none
  repairTimer : Option Nat := none
  ackTimer : Option Nat := none
  deriving DecidableEq, Repr

/-- The contents of one buffer's region of the stacked DRAM: (sample address, sample) pairs, the address of sample j
of line L being 4096 × L + j. The list is kept in one canonical form (`Memory.wf` in Machine/Memory.lean): addresses
strictly rising, and no sample listed that equals what an unlisted address reads as (log entry 7). -/
abbrev Memory := List (Nat × Sample)

/-- The pacing state of the pool (section 3.7). -/
inductive Pacing where
  | open_ | paced
  deriving DecidableEq, Repr

/-- The frame pool (R45, R56, R59). The free count of R47 is the number of buffers in FREE, and is computed from the
records (`State.freeCount`). -/
structure Pool where
  buffers : Vector Buffer 32 := Vector.replicate 32 {}
  dram : Vector Memory 32 := Vector.replicate 32 []
  pacing : Pacing := .open_
  lowMark : Nat := 4
  resumeMark : Nat := 10
  deriving DecidableEq, Repr

/-! ### The defect unit and the repair engine (chapters 4 and 5) -/

/-- The limits of the defect unit (R74). -/
structure DefectLimits where
  heavyLimit : Nat := 20
  badLineLimit : Nat := 64
  deriving DecidableEq, Repr

/-- A repair request (R81). -/
structure RepairRequest where
  buf : Buf
  prev : Option Buf
  next : Option Buf
  deriving DecidableEq, Repr

/-- What a BUSY engine holds: the request, the span limit it captured (R83), and the mark that the frame's reel was
aborted while the repair was in flight (R93). -/
structure RepairJob where
  request : RepairRequest
  span : Nat
  aborted : Bool
  deriving DecidableEq, Repr

/-- The repair unit: the queue, the engine (IDLE when `none`) and the two limits (R82, R83, R95). -/
structure Repair where
  queue : List RepairRequest := []
  engine : Option RepairJob := none
  wait : Nat := 2000
  span : Nat := 64
  deriving DecidableEq, Repr

/-! ### Grading profiles (chapter 6) -/

/-- The fields a profile holds for one channel (R97). -/
structure ChannelProfile where
  black : Channel
  gain : Channel
  curve : Vector Channel 257
  deriving DecidableEq, Repr

/-- The output depths (R97). -/
inductive Depth where
  | d10 | d12 | d16
  deriving DecidableEq, Repr

/-- A grading profile (R97). The channels are R, G and B in that order. -/
structure Profile where
  channels : Vector ChannelProfile 3
  depth : Depth
  dither : Bool
  deriving DecidableEq, Repr

/-- The power-on curve: point i is min(65535, 256 × i) (R98). -/
def powerOnCurve : Vector Channel 257 :=
  ⟨((List.range 257).map fun i => BitVec.ofNat 16 (min 65535 (256 * i))).toArray, by simp⟩

/-- A profile as power-on leaves it (R98). -/
def powerOnProfile : Profile :=
  { channels := Vector.replicate 3 { black := 0, gain := 4096, curve := powerOnCurve }
    depth := .d16
    dither := false }

/-! ### Delivery (chapter 8) -/

/-- The store transmitter (R126). -/
inductive Transmitter where
  | idle
  | sending (buf : Buf) (nextLine : Nat)
  deriving DecidableEq, Repr

/-- The power-on lane map: entry i holds i mod 4 (R126). -/
def powerOnLaneMap : Vector Lane 32 :=
  ⟨((List.range 32).map fun i => Fin.ofNat 4 i).toArray, by simp⟩

/-- The delivery unit (R126). The ack timers stand in the buffer records. -/
structure DeliveryUnit where
  laneMap : Vector Lane 32 := powerOnLaneMap
  queues : Vector (List Buf) 4 := Vector.replicate 4 []
  credits : Vector Nat 4 := Vector.replicate 4 0
  lastServed : Lane := 3
  transmitter : Transmitter := .idle
  ackWait : Nat := 1000
  staleAcks : BitVec 32 := 0
  cutSends : BitVec 32 := 0
  deriving DecidableEq, Repr

/-! ### Catalogue (chapter 9) -/

/-- The states of a catalogue record, in the order of section 9.2. -/
inductive RecordState where
  | empty | shelved | out | onHead | pendingShelf
  deriving DecidableEq, Repr

/-- The film bases, in the order of their codes (R145). -/
inductive Base where
  | nitrate | acetate | polyester | unknown
  deriving DecidableEq, Repr

/-- The vault classes (R156). -/
inductive VaultClass where
  | classA | classB | classC | classD
  deriving DecidableEq, Repr

/-- A catalogue record (R145). Its index is its place in the catalogue. -/
structure Record where
  state : RecordState := .empty
  identity : Nat := 0
  base : Base := .unknown
  gauge : GaugeCode := 0
  vinegar : Nat := 0
  priorScore : Nat := 0
  lastScore : Option Nat := none
  lastClass : Option VaultClass := none
  lastShrink : Option Int := none
  lastPpm : Option Nat := none
  lastReason : Option CloseReason := none
  scanCount : Nat := 0
  position : Option PositionNo := none
  deriving DecidableEq, Repr

/-! ### Shelf map (chapter 10) -/

/-- The states of a shelf position, in the order of R159. -/
inductive PositionState where
  | undefined | free | occupied | reserved | blocked
  deriving DecidableEq, Repr

/-- A shelf position (R159). Class NONE is `none`. -/
structure Position where
  cls : Option VaultClass := none
  state : PositionState := .undefined
  owner : Option RecordNo := none
  lock : Bool := false
  deriving DecidableEq, Repr

/-- The states of a ticket, in the order of R164. -/
inductive TicketState where
  | issued | awaitingSpace | taken
  deriving DecidableEq, Repr

/-- A reshelving ticket (R164). -/
structure Ticket where
  number : BitVec 16
  record : RecordNo
  cls : VaultClass
  position : Option PositionNo
  state : TicketState
  deriving DecidableEq, Repr

/-- The shelf map: positions, the ticket queue, the next ticket number and the closed-reel wait list (R159, R164,
R169). -/
structure Shelf where
  positions : Vector Position 1024 := Vector.replicate 1024 {}
  tickets : List Ticket := []
  nextNumber : BitVec 16 := 0
  waitList : List Slot := []
  deriving DecidableEq, Repr

/-! ### Notices (section 11.5) -/

/-- The notice kinds, in the order of R184. -/
inductive NoticeKind where
  | reelHeld | reelClosed | frameLost | sequenceFault | heavyFrame | perfFault | storeTimeout
  | portDown | portUp | cellCheck | poolLow | poolRecovered | ticketIssued | ticketAwaitingSpace
  | storePortDown | storePortUp | orderOverflow
  deriving DecidableEq, Repr

/-- A notice of one source instance: its kind and instance number (0 for a kind with no instances), the catalogue
index where the kind carries one, the detail and the coalesce count (R184). -/
structure Notice where
  kind : NoticeKind
  inst : Nat
  record : Option RecordNo
  detail : Nat
  count : Nat
  deriving DecidableEq, Repr

/-- The notice in flight, with the port it was handed to (R185). -/
structure InFlight where
  notice : Notice
  port : Port
  deriving DecidableEq, Repr

/-- The power-on levels of the 17 kinds (R184). -/
def powerOnLevels : Vector Nat 17 :=
  ⟨#[2, 1, 2, 1, 1, 0, 2, 3, 1, 0, 2, 1, 1, 2, 3, 1, 0], rfl⟩

/-- The notice unit (R184 to R186). `waiting` holds the pending notices in the order of the table of R184 and, within a
kind, in instance order; an entry that is absent is not listed. -/
structure NoticeUnit where
  waiting : List Notice := []
  inFlight : Option InFlight := none
  levels : Vector Nat 17 := powerOnLevels
  mask : Nat := 0
  port : Port := portS
  deriving DecidableEq, Repr

/-! ### Link ports and the order unit (chapter 11) -/

/-- The state of a link (R174). -/
inductive Link where
  | up | down
  deriving DecidableEq, Repr

/-- The reply statuses, in the order of their codes (R181, section 11.7). -/
inductive Status where
  | done | deferred | badOrder | badArgument | wrongState | inUse | full | notFound | late | overflow
  deriving DecidableEq, Repr

/-- An order in an order queue: its tag, its code and its argument words (section 11.7). -/
structure Order where
  tag : BitVec 16
  code : Byte
  args : List Word
  deriving DecidableEq, Repr

/-- A management cell waiting in a transmit list (R177). -/
inductive MgmtCell where
  | reply (tag : BitVec 16) (code : Byte) (status : Status) (results : List Word)
  | notice (notice : Notice) (level : Nat)
  deriving DecidableEq, Repr

/-- The flow cells (R177). -/
inductive FlowCell where
  | halt | go | paceHold | paceGo
  deriving DecidableEq, Repr

/-- One link port: its link state, order queue, transmit list, flow cells due, outgoing sequence counter and its
dropped-cells and overflow counters (R174 to R179). Port S has no flow cells. -/
structure PortState where
  link : Link := .down
  orders : List Order := []
  transmit : List MgmtCell := []
  flow : List FlowCell := []
  seqOut : BitVec 8 := 0
  dropped : BitVec 32 := 0
  overflow : BitVec 32 := 0
  deriving DecidableEq, Repr

/-- The five link ports, the two counters of port S (R176), and whether a management cell has already gone out at the
cell boundary at which the frame being sent on S stands (R177: only one goes out at each boundary). -/
structure LinkPorts where
  ports : Vector PortState 5 := Vector.replicate 5 {}
  checkFailuresS : BitVec 32 := 0
  sunkCellsS : BitVec 32 := 0
  boundaryUsed : Bool := false
  deriving DecidableEq, Repr

/-- A cell the part has put on a port, byte by byte (section 11.7). -/
structure SentCell where
  port : Port
  bytes : List Byte
  deriving DecidableEq, Repr

/-! ### The whole part -/

/-- The state of the F412. Three fields are the model's own (INVENTORY.md): `pending`, the commands that wait, first in
first out; `wire`, the cells the part has sent, oldest first; and `abandoned`, the number of repairs that resets
have abandoned, which numbers the free values of `Config.abandonedWrite`. -/
structure State where
  reels : Vector Reel 8
  intake : Intake
  pool : Pool
  defect : DefectLimits
  repair : Repair
  profiles : Vector Profile 8
  delivery : DeliveryUnit
  catalogue : Vector Record 512
  shelf : Shelf
  notices : NoticeUnit
  links : LinkPorts
  /-- The last served port of the order unit (R180). -/
  lastPort : Port
  /-- Whether the reset input is held low (section 11.8). -/
  resetLow : Bool
  wire : List SentCell
  abandoned : Nat
  pending : List Instr
  deriving DecidableEq, Repr

/-- The part right after its reset input is released: every block at its power-on values (R174; R3, R24, R34, R61, R74,
R95, R98, R126, R152, R159, R164, R177 to R180, R184 to R186). -/
def State.reset : State :=
  { reels := Vector.replicate 8 {}
    intake := {}
    pool := {}
    defect := {}
    repair := {}
    profiles := Vector.replicate 8 powerOnProfile
    delivery := {}
    catalogue := Vector.replicate 512 {}
    shelf := {}
    notices := {}
    links := {}
    lastPort := portS
    resetLow := false
    wire := []
    abandoned := 0
    pending := [] }

/-- Why a command may stop the machine with a fault: never. The manual gives every event of the part an effect, and names
none after which the part stops, so the type has no constructor. -/
inductive Fault where
  deriving DecidableEq, Repr

/-- Why a command has no meaning in the model. -/
inductive Refusal where
  /-- The command's row of the table has no meaning yet. Raised only by a refused arm of `exec`; safe: the model stops
  where the part goes on. No arm of this model is refused. -/
  | notModelled (mnemonic : String)
  deriving DecidableEq, Repr

end Sys2Proof.Machine
end

