-- ==== Sys2Proof/Machine/Cells.lean ====
section
/-! DEFINITION. Cells as bytes: the kind codes, the byte order of fields, the cell check, the layouts of received cells and
the bytes of the cells the part sends (R175, R176, section 11.7). -/

namespace Sys2Proof.Machine

/-! ### Kind codes (section 11.7) -/

def kindFrameHead : Byte := 0x01
def kindLine : Byte := 0x02
def kindFrameEnd : Byte := 0x03
def kindReelEnd : Byte := 0x04
def kindHalt : Byte := 0x10
def kindGo : Byte := 0x11
def kindPaceHold : Byte := 0x12
def kindPaceGo : Byte := 0x13
def kindFrameOut : Byte := 0x20
def kindOutLine : Byte := 0x21
def kindStoreAck : Byte := 0x28
def kindCredit : Byte := 0x29
def kindOrder : Byte := 0x30
def kindReply : Byte := 0x31
def kindNotice : Byte := 0x32

/-! ### Byte order: multi-byte fields are sent least significant byte first (section 11.7) -/

/-- The bytes of a number in a field of `n` bytes. -/
def fieldBytes : Nat → Nat → List Byte
  | 0, _ => []
  | n + 1, v => BitVec.ofNat 8 v :: fieldBytes n (v / 256)

/-- The bytes of a signed number in a field of one byte, in two's complement. -/
def signedByte (v : Int) : List Byte := [BitVec.ofInt 8 v]

/-- The number in the `n`-byte field at an offset of a payload. -/
def fieldAt (payload : List Byte) (offset : Nat) : Nat → Nat
  | 0 => 0
  | n + 1 => (payload.getD offset 0).toNat + 256 * fieldAt payload (offset + 1) n

/-! ### The cell check (R175) -/

/-- The generator 0x04C11DB7. -/
def checkGenerator : Word := 0x04C11DB7

/-- The check register after one bit enters it. -/
def checkBit (reg : Word) (bit : Bool) : Word :=
  if reg.msb ^^ bit then (reg <<< 1) ^^^ checkGenerator else reg <<< 1

/-- The check register after one byte enters it, least significant bit first. -/
def checkByte (reg : Word) (b : Byte) : Word :=
  [0, 1, 2, 3, 4, 5, 6, 7].foldl (fun r i => checkBit r (b.getLsbD i)) reg

/-- The check value of a run of bytes: preset to all ones, reflected and complemented at the end. -/
def checkValue (bytes : List Byte) : Word :=
  ~~~ (bytes.foldl checkByte 0xFFFFFFFF).reverse

/-- The bytes a cell's check covers: from the kind field to the last payload byte. -/
def coveredBytes (kind seq : Byte) (payload : List Byte) : List Byte :=
  kind :: seq :: (fieldBytes 4 payload.length ++ payload)

/-- A whole cell, from the kind field to the check field. -/
def cellBytes (kind seq : Byte) (payload : List Byte) : List Byte :=
  coveredBytes kind seq payload ++ fieldBytes 4 (checkValue (coveredBytes kind seq payload)).toNat

/-! ### Layouts of received cells (R176, section 11.7) -/

/-- Whether a payload's length fits the layout of a kind. An unknown code has no layout. -/
def fitsLayout (kind : Byte) (p : List Byte) : Bool :=
  if kind = kindFrameHead then decide (8 ≤ p.length ∧ p.length = 8 + 2 * fieldAt p 7 1)
  else if kind = kindLine then decide (4 ≤ p.length ∧ p.length = 4 + 8 * fieldAt p 2 2)
  else if kind = kindFrameEnd ∨ kind = kindReelEnd ∨ kind = kindHalt ∨ kind = kindGo ∨ kind = kindPaceHold ∨
      kind = kindPaceGo then p.isEmpty
  else if kind = kindStoreAck then decide (p.length = 6)
  else if kind = kindCredit then decide (p.length = 2)
  else if kind = kindFrameOut then decide (p.length = 29)
  else if kind = kindOutLine then decide (4 ≤ p.length ∧ p.length = 4 + 6 * fieldAt p 2 2)
  else if kind = kindOrder then decide (4 ≤ p.length ∧ p.length = 4 + 4 * fieldAt p 3 1)
  else if kind = kindReply then decide (6 ≤ p.length ∧ p.length = 6 + 4 * fieldAt p 4 2)
  else if kind = kindNotice then decide (p.length = 10)
  else true

/-- Whether the fields of a STORE-ACK or CREDIT cell on port S lie in the ranges of R138 and R130 (R176). -/
def inRangeOnS (kind : Byte) (p : List Byte) : Bool :=
  if kind = kindStoreAck then decide (fieldAt p 0 1 < 4 ∧ fieldAt p 1 2 < 512)
  else if kind = kindCredit then decide (fieldAt p 0 1 < 4 ∧ fieldAt p 1 1 ≤ 15)
  else true

/-- Whether a received cell passes its check: the check field holds the computed value and the payload fits its layout
(R175, R176). -/
def passesCheck (kind : Byte) (c : RxCell) : Bool :=
  decide (c.check = checkValue (coveredBytes kind c.seq c.payload)) && fitsLayout kind c.payload

/-- Whether a cell received on port S passes its check, which there takes in the ranges of STORE-ACK and CREDIT
(R176). -/
def passesCheckOnS (kind : Byte) (c : RxCell) : Bool :=
  passesCheck kind c && inRangeOnS kind c.payload

/-- A cell as its sender forms it, with the right check value. -/
def goodCell (kind seq : Byte) (payload : List Byte) : RxCell :=
  { seq := seq, payload := payload, check := checkValue (coveredBytes kind seq payload) }

/-! ### Fields of received cells (section 11.7) -/

/-- The fields of a FRAME-HEAD cell. -/
structure FrameHeadFields where
  frame : Nat
  lines : Nat
  width : Nat
  edges : List Nat
  deriving DecidableEq, Repr

/-- The fields of a FRAME-HEAD payload. Of more than four edges the first four are used (R38). -/
def readFrameHead (p : List Byte) : FrameHeadFields :=
  { frame := fieldAt p 0 3
    lines := fieldAt p 3 2
    width := fieldAt p 5 2
    edges := (List.range (min (fieldAt p 7 1) 4)).map fun i => fieldAt p (8 + 2 * i) 2 }

/-- The line index of a LINE payload. A payload too short for the field gives the free value of log entry 5. -/
def readLineIndex (p : List Byte) : Nat :=
  if p.length < 2 then Config.lineIndexOfShortPayload p else fieldAt p 0 2

/-- The samples in a run of bytes, eight bytes each: R, G, B and IR. -/
def readSamples : List Byte → List Sample
  | r0 :: r1 :: g0 :: g1 :: b0 :: b1 :: i0 :: i1 :: rest => ⟨r1 ++ r0, g1 ++ g0, b1 ++ b0, i1 ++ i0⟩ :: readSamples rest
  | _ => []

/-- The words in a run of bytes, four bytes each. -/
def readWords : List Byte → List Word
  | a :: b :: c :: d :: rest => (d ++ c ++ b ++ a) :: readWords rest
  | _ => []

/-- The order an ORDER payload carries. -/
def readOrder (p : List Byte) : Order :=
  { tag := BitVec.ofNat 16 (fieldAt p 0 2)
    code := p.getD 2 0
    args := readWords (p.drop 4) }

/-! ### Codes of named values in sent cells (section 11.7) -/

/-- The status code of a REPLY. -/
def Status.code : Status → Nat
  | .done => 0
  | .deferred => 1
  | .badOrder => 2
  | .badArgument => 3
  | .wrongState => 4
  | .inUse => 5
  | .full => 6
  | .notFound => 7
  | .late => 8
  | .overflow => 9

/-- The place of a notice kind in the table of R184, counted from 0. -/
def NoticeKind.index : NoticeKind → Fin 17
  | .reelHeld => 0
  | .reelClosed => 1
  | .frameLost => 2
  | .sequenceFault => 3
  | .heavyFrame => 4
  | .perfFault => 5
  | .storeTimeout => 6
  | .portDown => 7
  | .portUp => 8
  | .cellCheck => 9
  | .poolLow => 10
  | .poolRecovered => 11
  | .ticketIssued => 12
  | .ticketAwaitingSpace => 13
  | .storePortDown => 14
  | .storePortUp => 15
  | .orderOverflow => 16

/-- The code of a notice kind (R184). -/
def NoticeKind.code (k : NoticeKind) : Nat := k.index.val + 1

/-- Whether a notice kind has instances (R184). -/
def NoticeKind.hasInstances : NoticeKind → Bool
  | .poolLow | .poolRecovered | .ticketIssued | .ticketAwaitingSpace | .storePortDown | .storePortUp
  | .orderOverflow => false
  | _ => true

/-- The kind code of a flow cell. -/
def FlowCell.kind : FlowCell → Byte
  | .halt => kindHalt
  | .go => kindGo
  | .paceHold => kindPaceHold
  | .paceGo => kindPaceGo

/-! ### Payloads of sent cells (section 11.7) -/

/-- The payload of a REPLY cell. -/
def replyPayload (tag : BitVec 16) (code : Byte) (status : Status) (results : List Word) : List Byte :=
  fieldBytes 2 tag.toNat ++ [code] ++ fieldBytes 1 status.code ++ fieldBytes 2 results.length ++
    results.flatMap fun w => fieldBytes 4 w.toNat

/-- The payload of a NOTICE cell: 0xFF stands for no instance and 0xFFFF for no catalogue index. -/
def noticePayload (n : Notice) (level : Nat) : List Byte :=
  fieldBytes 1 n.kind.code ++ fieldBytes 1 level ++ fieldBytes 1 (if n.kind.hasInstances then n.inst else 0xFF) ++
    fieldBytes 1 n.count ++ fieldBytes 2 (match n.record with | some r => r.val | none => 0xFFFF) ++
    fieldBytes 4 n.detail

/-- The number of bits of an output depth (R97). -/
def Depth.bits : Depth → Nat
  | .d10 => 10
  | .d12 => 12
  | .d16 => 16

/-- The payload of the FRAME-OUT cell of a frame on a lane, from its buffer record and the depth of its captured
profile (R133). -/
def frameOutPayload (lane : Lane) (b : Buffer) (depth : Depth) : List Byte :=
  fieldBytes 1 lane.val ++ fieldBytes 2 b.record.val ++ fieldBytes 3 b.frame ++ fieldBytes 2 b.lines ++
    fieldBytes 2 b.width ++ signedByte b.offset ++ fieldBytes 1 b.grade.profile.val ++
    signedByte b.grade.trimR ++ signedByte b.grade.trimG ++ signedByte b.grade.trimB ++
    fieldBytes 1 depth.bits ++ fieldBytes 1 (if b.heavy then 1 else 0) ++ fieldBytes 4 b.defective ++
    fieldBytes 4 b.repaired ++ fieldBytes 4 b.unrepaired

/-- The three values of one output sample (R114). -/
structure OutSample where
  r : Nat
  g : Nat
  b : Nat
  deriving DecidableEq, Repr

/-- The payload of an OUT-LINE cell. -/
def outLinePayload (k : Nat) (xs : List OutSample) : List Byte :=
  fieldBytes 2 k ++ fieldBytes 2 xs.length ++
    xs.flatMap fun x => fieldBytes 2 x.r ++ fieldBytes 2 x.g ++ fieldBytes 2 x.b

/-- The kind of a management cell. -/
def MgmtCell.kind : MgmtCell → Byte
  | .reply .. => kindReply
  | .notice .. => kindNotice

/-- The payload of a management cell. -/
def MgmtCell.payload : MgmtCell → List Byte
  | .reply tag code status results => replyPayload tag code status results
  | .notice n level => noticePayload n level

end Sys2Proof.Machine
end

