-- ==== Sys2Proof/Machine/Tables.lean ====
section
/-! DEFINITION. Operations on the part's fixed tables: the first entry that passes a test, the number of entries that
pass one, and the change of every entry. Each runs down the table's list, so that the kernel can evaluate it. -/

namespace Sys2Proof.Machine

variable {α β : Type} {n : Nat}

/-- The number of the first element of a list that passes a test, counting from `i`. -/
def firstFrom (p : Nat → α → Bool) : Nat → List α → Option Nat
  | _, [] => none
  | i, a :: l => if p i a then some i else firstFrom p (i + 1) l

/-- The number of the lowest entry of a table that passes a test of its number and contents. -/
def firstEntry (p : Nat → α → Bool) (v : Vector α n) : Option (Fin n) :=
  match firstFrom p 0 v.toList with
  | none => none
  | some i => if h : i < n then some ⟨i, h⟩ else none

/-- How many entries of a table pass a test. -/
def countEntries (p : α → Bool) (v : Vector α n) : Nat :=
  v.toList.countP p

/-- Every entry of a table changed by `f`, which is also told the entry's number. -/
def mapEntries (f : Nat → α → β) (v : Vector α n) : Vector β n :=
  ⟨(v.toList.zipIdx.map fun e => f e.2 e.1).toArray, by simp⟩

/-- One entry of a table changed by `f`. -/
def modEntry (v : Vector α n) (i : Fin n) (f : α → α) : Vector α n :=
  v.set i (f v[i])

end Sys2Proof.Machine
end

