-- ==== Sys2Proof/Machine/Ops.lean ====
section
/-! DEFINITION. The named operations on State that every block uses: the change of one entry of a table, the reading of a
link, the forming and sending of cells (R177, R178), and the notice unit (R184, R185). -/

namespace Sys2Proof.Machine

/-! ### One entry changed -/

/-- The state with one reel record changed. -/
def State.modReel (s : State) (r : Slot) (f : Reel → Reel) : State :=
  { s with reels := modEntry s.reels r f }

/-- The state with the counters of one reel changed (R2). -/
def State.countReel (s : State) (r : Slot) (f : ReelCounters → ReelCounters) : State :=
  s.modReel r fun x => { x with counters := f x.counters }

/-- The state with the intake of one head changed. -/
def State.modHead (s : State) (h : Head) (f : HeadIntake → HeadIntake) : State :=
  { s with intake := { s.intake with heads := modEntry s.intake.heads h f } }

/-- The state with one buffer record changed. -/
def State.modBuffer (s : State) (b : Buf) (f : Buffer → Buffer) : State :=
  { s with pool := { s.pool with buffers := modEntry s.pool.buffers b f } }

/-- The state with the region of one buffer changed. -/
def State.modMemory (s : State) (b : Buf) (f : Memory → Memory) : State :=
  { s with pool := { s.pool with dram := modEntry s.pool.dram b f } }

/-- The state with one catalogue record changed. -/
def State.modRecord (s : State) (i : RecordNo) (f : Record → Record) : State :=
  { s with catalogue := modEntry s.catalogue i f }

/-- The state with one shelf position changed. -/
def State.modPosition (s : State) (q : PositionNo) (f : Position → Position) : State :=
  { s with shelf := { s.shelf with positions := modEntry s.shelf.positions q f } }

/-- The state with one link port changed. -/
def State.modPort (s : State) (p : Port) (f : PortState → PortState) : State :=
  { s with links := { s.links with ports := modEntry s.links.ports p f } }

/-! ### Links and sending (R174, R177, R178) -/

/-- Whether the link of a port is UP. -/
def State.isUp (s : State) (p : Port) : Bool := decide (s.links.ports[p].link = .up)

/-- A flow cell formed for a head port: it joins the flow cells due, or is dropped and counted when the link is DOWN
(R177). -/
def State.formFlow (s : State) (h : Head) (c : FlowCell) : State :=
  if s.isUp (headPort h) then s.modPort (headPort h) fun q => { q with flow := q.flow ++ [c] }
  else s.modPort (headPort h) fun q => { q with dropped := q.dropped + 1 }

/-- A REPLY formed for a port: it joins the tail of the transmit list, or is dropped and counted when the link is DOWN or
the list holds 8 cells (R177). -/
def State.formReply (s : State) (p : Port) (tag : BitVec 16) (code : Byte) (status : Status) (results : List Word) :
    State :=
  if s.isUp p && decide (s.links.ports[p].transmit.length < Config.maxTransmit) then
    s.modPort p fun q => { q with transmit := q.transmit ++ [.reply tag code status results] }
  else s.modPort p fun q => { q with dropped := q.dropped + 1 }

/-- A cell put on a port: it carries the port's outgoing sequence number, which then advances, wrapping from 255 to 0
(R178). -/
def State.sendCell (s : State) (p : Port) (kind : Byte) (payload : List Byte) : State :=
  { s.modPort p (fun q => { q with seqOut := q.seqOut + 1 }) with
    wire := s.wire ++ [⟨p, cellBytes kind s.links.ports[p].seqOut payload⟩] }

/-! ### The notice unit (R184, R185) -/

/-- The place of a notice's entry in the table of R184: by kind, and within a kind by instance. -/
def Notice.key (n : Notice) : Nat := 8 * n.kind.index.val + n.inst

/-- A list of pending notices, in table order, after `n` comes to the entry it belongs to: a notice already pending there
is changed by `join`, and otherwise `n` takes its place in the order. -/
def placeNotice (n : Notice) (join : Notice → Notice) : List Notice → List Notice
  | [] => [n]
  | m :: rest =>
    if m.key = n.key then join m :: rest
    else if n.key < m.key then n :: m :: rest
    else m :: placeNotice n join rest

/-- A notice raised on an entry: a new pending notice, or the pending one with the raise's index and detail and its coalesce
count grown by one, up to 255 (R184). -/
def State.raise (s : State) (kind : NoticeKind) (inst : Nat) (record : Option RecordNo) (detail : Nat) : State :=
  { s with notices := { s.notices with
      waiting := placeNotice ⟨kind, inst, record, detail, 0⟩
        (fun m => { m with record := record, detail := detail, count := min 255 (m.count + 1) }) s.notices.waiting } }

/-- The level of a notice's kind. -/
def NoticeUnit.levelOf (u : NoticeUnit) (n : Notice) : Nat := u.levels[n.kind.index]

/-- Whether a pending notice is eligible: its kind's level is the mask or higher (R185). -/
def NoticeUnit.eligible (u : NoticeUnit) (n : Notice) : Bool := decide (u.mask ≤ u.levelOf n)

/-- The eligible notice of the highest level and, among those of one level, the first in the list (R185). -/
def NoticeUnit.choose (u : NoticeUnit) : List Notice → Option Notice
  | [] => none
  | n :: rest =>
    match NoticeUnit.choose u rest with
    | none => if u.eligible n then some n else none
    | some m => if u.eligible n && decide (u.levelOf m ≤ u.levelOf n) then some n else some m

/-- A chosen notice handed to the notice port: it leaves pending and becomes in flight, and its NOTICE cell joins the tail
of the port's transmit list with its kind's level as it stands (R185). -/
def State.giveNotice (s : State) (n : Notice) : State :=
  { s.modPort s.notices.port (fun q => { q with transmit := q.transmit ++ [.notice n (s.notices.levelOf n)] }) with
    notices := { s.notices with
      waiting := s.notices.waiting.filter fun m => decide (m.key ≠ n.key)
      inFlight := some ⟨n, s.notices.port⟩ } }

/-- The hand-over of R185, made at the end of every event: when no notice is in flight, the notice port is UP, its transmit
list holds fewer than 8 cells and some pending notice is eligible, the chosen notice is handed over (log entry 8). -/
def State.handOver (s : State) : State :=
  if s.notices.inFlight.isNone && s.isUp s.notices.port &&
      decide (s.links.ports[s.notices.port].transmit.length < Config.maxTransmit) then
    match s.notices.choose s.notices.waiting with
    | none => s
    | some n => s.giveNotice n
  else s

/-- The notice in flight on a port that loses its link goes back to pending. With a newer pending notice of its entry it
becomes one: the counts are added and one more, up to 255, and the index and detail are the newer notice's (R185). -/
def State.returnNotice (s : State) (p : Port) : State :=
  match s.notices.inFlight with
  | none => s
  | some f =>
    if f.port = p then
      { s with notices := { s.notices with
          waiting := placeNotice f.notice (fun m => { m with count := min 255 (m.count + f.notice.count + 1) })
            s.notices.waiting
          inFlight := none } }
    else s

/-! ### The end of an event -/

/-- The outcome of an event whose effects lead to `s`: the next state, after the notice unit's hand-over (R185). -/
def State.finish (s : State) : Host.Outcome State Fault Refusal := .next s.handOver

end Sys2Proof.Machine
end

