-- ==== Sys2Proof/Machine/ShelfOps.lean ====
section
/-! DEFINITION. The shelf map's shared operations: the allocation of a position, the outcome of an allocation, retry passes
and the formation of a ticket (R164 to R168). -/

namespace Sys2Proof.Machine

/-! ### Allocation (R166) -/

/-- The colder classes a class spills to, in the order they are tried (R166 step 3). -/
def VaultClass.spill : VaultClass → List VaultClass
  | .classA => [.classB, .classC]
  | .classB => [.classC]
  | .classC => []
  | .classD => []

/-- The lowest-numbered FREE unlocked position of a class, passing over an excluded one. -/
def firstFreeOfClass (ps : Vector Position 1024) (excluded : Option PositionNo) (c : VaultClass) : Option PositionNo :=
  firstEntry (fun i q => decide (q.cls = some c ∧ q.state = .free ∧ q.lock = false ∧ excluded.map Fin.val ≠ some i)) ps

/-- Whether a record's home may be reused for a class: the home's class is that class and its lock is clear (R166 step
1). -/
def homeUsable (ps : Vector Position 1024) (excluded : Option PositionNo) (c : VaultClass) (h : PositionNo) : Bool :=
  decide (ps[h].cls = some c ∧ ps[h].lock = false ∧ excluded ≠ some h)

/-- The position an allocation finds for a class and a home: the home, then the class, then the colder classes in turn
(R166). -/
def allocate (ps : Vector Position 1024) (excluded : Option PositionNo) (c : VaultClass) (home : Option PositionNo) :
    Option PositionNo :=
  match home.filter (homeUsable ps excluded c) with
  | some h => some h
  | none => (c :: c.spill).findSome? (firstFreeOfClass ps excluded)

/-! ### Tickets -/

/-- The tickets with the one that carries a number changed. -/
def State.modTicket (s : State) (number : BitVec 16) (f : Ticket → Ticket) : State :=
  { s with shelf := { s.shelf with tickets := s.shelf.tickets.map fun t => if t.number = number then f t else t } }

/-- A position that loses its owner and becomes FREE, its class and lock kept. -/
def Position.freed (q : Position) : Position := { q with state := .free, owner := none }

/-- The state after an allocation for a ticket found position `q` (the first three rows of R167): the record's home is
freed when `q` is not the home, `q` is RESERVED for the record, the record names it, and the ticket is ISSUED. -/
def State.issueTicket (s : State) (t : Ticket) (q : PositionNo) : State :=
  let s : State := match s.catalogue[t.record].position with
    | some h => if h = q then s else s.modPosition h Position.freed
    | none => s
  let s := s.modPosition q fun x => { x with state := .reserved, owner := some t.record }
  let s := s.modRecord t.record fun r => { r with position := some q }
  let s := s.modTicket t.number fun x => { x with state := .issued, position := some q }
  s.raise .ticketIssued 0 (some t.record) t.number.toNat

/-- The state after an allocation for a ticket found nothing (the last row of R167). -/
def State.leaveWaiting (s : State) (t : Ticket) : State :=
  (s.modTicket t.number fun x => { x with state := .awaitingSpace, position := none }).raise
    .ticketAwaitingSpace 0 (some t.record) t.number.toNat

/-- Whether giving position `q` to a ticket makes a position FREE: the record's home, locked or not, when it is another
position (R165 step 4, R167; log entry 9). -/
def State.freesHome (s : State) (t : Ticket) (q : PositionNo) : Bool :=
  match s.catalogue[t.record].position with
  | some h => decide (h ≠ q)
  | none => false

/-! ### Retry passes (R168) -/

/-- The position excluded for a ticket: the one a refusal of this event excluded for it (R172). -/
def excludedFor (excl : Option (BitVec 16 × PositionNo)) (t : Ticket) : Option PositionNo :=
  match excl with
  | some (n, q) => if n = t.number then some q else none
  | none => none

/-- What the allocation finds for a ticket as the shelf map stands. -/
def State.allocateFor (s : State) (excl : Option (BitVec 16 × PositionNo)) (t : Ticket) : Option PositionNo :=
  allocate s.shelf.positions (excludedFor excl t) t.cls s.catalogue[t.record].position

/-- The oldest ticket in AWAITING_SPACE for which the allocation finds a position, with that position. -/
def State.nextIssue (s : State) (excl : Option (BitVec 16 × PositionNo)) : Option (Ticket × PositionNo) :=
  s.shelf.tickets.findSome? fun t =>
    if t.state = .awaitingSpace then (s.allocateFor excl t).map fun q => (t, q) else none

/-- Retry passes with room for `n` issues. Each turn issues the oldest waiting ticket that finds a position, until none does.
This is R168's pass made again from the oldest ticket whenever a home is freed, and repeated until it issues no
ticket: going on behind a ticket whose issue freed no home, and starting again from the oldest, give the same, because a
ticket that found nothing still finds nothing when there are fewer FREE positions (log entry 9). -/
def retryPasses (excl : Option (BitVec 16 × PositionNo)) : Nat → State → State
  | 0, s => s
  | n + 1, s =>
    match s.nextIssue excl with
    | none => s
    | some (t, q) => retryPasses excl n (s.issueTicket t q)

/-- The retry pass of R168, repeated as it says. A pass issues each ticket of the queue at most once. -/
def State.retryPass (s : State) (excl : Option (BitVec 16 × PositionNo)) : State :=
  retryPasses excl s.shelf.tickets.length s

/-- The allocation for a ticket with its outcome applied, and the retry pass when it freed a home (R165 steps 2 to 4). -/
def State.allocateTicket (s : State) (excl : Option (BitVec 16 × PositionNo)) (t : Ticket) : State :=
  match s.allocateFor excl t with
  | none => s.leaveWaiting t
  | some q => if s.freesHome t q then (s.issueTicket t q).retryPass excl else s.issueTicket t q

/-! ### Formation (R164, R165) -/

/-- The first number from `n` on, wrapping from 65535 to 0, that is not among the numbers in use, looking past at most `k`
of them. -/
def unusedNumber (used : List (BitVec 16)) : Nat → BitVec 16 → BitVec 16
  | 0, n => n
  | k + 1, n => if n ∈ used then unusedNumber used k (n + 1) else n

/-- The number the next ticket takes (R164). -/
def Shelf.takeNumber (m : Shelf) : BitVec 16 :=
  unusedNumber (m.tickets.map Ticket.number) m.tickets.length m.nextNumber

/-- The ticket a closed slot's reel is given, before its allocation. Its class is the record's last class, which the close
wrote (R157, R165). -/
def State.newTicket (s : State) (r : Slot) : Ticket :=
  { number := s.shelf.takeNumber
    record := s.reels[r].record
    cls := (s.catalogue[s.reels[r].record].lastClass).getD .classA
    position := none
    state := .awaitingSpace }

/-- The formation of the ticket of a closed slot (R165): the ticket joins the tail of the queue, the record becomes
PENDING_SHELF, the allocation runs, and the slot becomes FREE. -/
def State.formTicket (s : State) (r : Slot) : State :=
  let t := s.newTicket r
  let s : State := { s with shelf := { s.shelf with tickets := s.shelf.tickets ++ [t], nextNumber := t.number + 1 } }
  let s := s.modRecord t.record fun x => { x with state := .pendingShelf }
  let s := s.allocateTicket none t
  s.modReel r fun x => { x with state := .free }

end Sys2Proof.Machine
end

