-- ==== Sys2Proof/Machine/CloseOps.lean ====
section
/-! DEFINITION. The close of a reel: the condition score, the class, the record at close (R153 to R157) and what the reel
table then does (R21, R22). -/

namespace Sys2Proof.Machine

/-- The damage density in samples per million: 0 when nothing was scanned (R154). -/
def damagePpm (c : ReelCounters) : Nat :=
  if c.samplesScanned = 0 then 0 else c.defectiveSamples.toNat * 1000000 / c.samplesScanned.toNat

/-- The shrink term Ts (R154). -/
def shrinkTerm : Option Int → Nat
  | none => 0
  | some e => if e < 0 then 0 else min 400 (2 * e.toNat)

/-- The condition score of a reel (R154), or the record's prior score when no frame was assembled (R155). -/
def conditionScore (reel : Reel) (rec : Record) : Nat :=
  let c := reel.counters
  let f := c.framesAssembled.toNat
  if f = 0 then rec.priorScore
  else min 1000 (shrinkTerm reel.shrinkEstimate + min 300 (damagePpm c / 100) + min 200 (c.heavyFrames.toNat * 1000 / f) +
    min 100 (c.perfFaultFrames.toNat * 1000 / f) + 50 * rec.vinegar)

/-- The class a score alone chooses (the last rows of R156). -/
def classOfScore (score : Nat) : VaultClass :=
  if score < 400 then .classA else if score < 700 then .classB else .classC

/-- The class chosen from base, vinegar grade and score (R156). -/
def chooseClass (base : Base) (vinegar score : Nat) : VaultClass :=
  match base with
  | .nitrate => .classD
  | .acetate | .unknown => if 2 ≤ vinegar then .classD else classOfScore score
  | .polyester => classOfScore score

/-- The catalogue record after the close of a reel (R157). -/
def closedRecord (reel : Reel) (rec : Record) : Record :=
  let score := conditionScore reel rec
  { rec with
    lastScore := some score
    lastClass := some (chooseClass rec.base rec.vinegar score)
    lastShrink := reel.shrinkEstimate
    lastPpm := some (damagePpm reel.counters)
    lastReason := reel.closeReason
    scanCount := min 255 (rec.scanCount + 1) }

/-- The code of a close reason (R145). -/
def CloseReason.code : CloseReason → Nat
  | .reelEnd => 0
  | .unmount => 1
  | .abort => 2
  | .reset => 3

/-- The detail of REEL_CLOSED: the code of the reason recorded when the reel entered DRAINING (R22). -/
def Reel.closeDetail (reel : Reel) : Nat :=
  match reel.closeReason with
  | some c => c.code
  | none => 0

/-- The close of a reel (R22): it becomes CLOSED, REEL_CLOSED is raised, the catalogue scores it and writes its record, and
its ticket is formed, or its slot joins the wait list when the ticket queue is full. -/
def State.closeReel (s : State) (r : Slot) : State :=
  let reel := s.reels[r]
  let s := s.modReel r fun x => { x with state := .closed }
  let s := s.raise .reelClosed r.val (some reel.record) reel.closeDetail
  let s := s.modRecord reel.record (closedRecord reel)
  if s.shelf.tickets.length < Config.maxTickets then s.formTicket r
  else { s with shelf := { s.shelf with waitList := s.shelf.waitList ++ [r] } }

/-- Whether a reel owns a buffer: a buffer in any state other than FREE names its slot (R4). -/
def State.ownsBuffer (s : State) (r : Slot) : Bool :=
  s.pool.buffers.toList.any fun b => decide (b.state ≠ .free ∧ b.slot = r)

/-- A DRAINING reel that owns no buffer becomes CLOSED (R21). -/
def State.closeIfEmpty (s : State) (r : Slot) : State :=
  if s.reels[r].state = .draining ∧ s.ownsBuffer r = false then s.closeReel r else s

end Sys2Proof.Machine
end

