-- ==== Sys2Proof/Machine/Operands.lean ====
section
/-! DEFINITION. The argument words of orders and the result words of replies (R181, section 11.7), and the taking of an order by
the order unit (R180). -/

namespace Sys2Proof.Machine

/-! ### Arguments -/

/-- An argument word as one of the numbers 0 to n − 1; none when it is out of range (R181 test 3). -/
def argFin (n : Nat) (w : Word) : Option (Fin n) := if h : w.toNat < n then some ⟨w.toNat, h⟩ else none

/-- An argument word as a number from `lo` to `hi`. -/
def argRange (lo hi : Nat) (w : Word) : Option Nat :=
  if lo ≤ w.toNat ∧ w.toNat ≤ hi then some w.toNat else none

/-- An argument word as a trim, −32 to 31, carried in two's complement (R104). -/
def argTrim (w : Word) : Option Int := if -32 ≤ w.toInt ∧ w.toInt ≤ 31 then some w.toInt else none

/-- An argument word as 0 or 1. -/
def argFlag (w : Word) : Option Bool :=
  if w = 0 then some false else if w = 1 then some true else none

/-- A profile word and three trim words as a grade (R104). -/
def argGrade (p r g b : Word) : Option Grade := do
  return ⟨← argFin 8 p, ← argTrim r, ← argTrim g, ← argTrim b⟩

/-- The four words of a policy, in the ranges of R5. The heavy action is 0 for PASS and 1 for HOLD. -/
def argPolicy (settle ir action limit : Word) : Option Policy := do
  let settle ← argRange 0 7 settle
  let ir ← argRange 0 65535 ir
  let action ← argFlag action
  let limit ← argRange 0 15 limit
  return ⟨settle, ir, if action then .hold else .pass, limit⟩

/-- The policy of a MOUNT-REEL that leaves the policy group out (R1). -/
def defaultPolicy : Policy := ⟨2, 12000, .pass, 0⟩

/-! ### Result words (section 11.7) -/

/-- A number as a result word. -/
def natWord (n : Nat) : Word := BitVec.ofNat 32 n

/-- A signed number as a result word, in two's complement. -/
def intWord (z : Int) : Word := BitVec.ofInt 32 z

/-- A flag as a result word: 1 when set or present, 0 when not. -/
def flagWord (b : Bool) : Word := if b then 1 else 0

/-- A 64-bit counter as two result words, low word first. -/
def longWords (v : BitVec 64) : List Word := [v.extractLsb' 0 32, v.extractLsb' 32 32]

/-- An archive number as two result words, low word first. -/
def identityWords (n : Nat) : List Word := [natWord n, natWord (n / 2 ^ 32)]

/-- A value given with a flag: 1 and the value, or 0 and 0. -/
def optionWords : Option Word → List Word
  | some w => [1, w]
  | none => [0, 0]

/-- A list: its length, then the words of each entry. -/
def listWords {α : Type} (f : α → List Word) (xs : List α) : List Word :=
  natWord xs.length :: xs.flatMap f

/-- A grade: profile and trims. -/
def gradeWords (g : Grade) : List Word :=
  [natWord g.profile.val, intWord g.trimR, intWord g.trimG, intWord g.trimB]

/-- The place of a reel state in the table of section 1.2. -/
def ReelState.place : ReelState → Nat
  | .free => 0
  | .mounted => 1
  | .running => 2
  | .held => 3
  | .draining => 4
  | .closed => 5

/-- The place of a buffer state in the table of section 3.2. -/
def BufferState.place : BufferState → Nat
  | .free => 0
  | .filling => 1
  | .pending => 2
  | .repair => 3
  | .queued => 4
  | .sending => 5
  | .awaitAck => 6
  | .done => 7

/-- The place of a delivery state in R45. -/
def Delivery.place : Delivery → Nat
  | .neverSent => 0
  | .awaitingAck => 1
  | .resolved => 2

/-- The place of a resolution in R45. -/
def Resolution.place : Resolution → Nat
  | .acknowledged => 0
  | .timedOut => 1
  | .discarded => 2

/-- The place of a record state in the table of section 9.2. -/
def RecordState.place : RecordState → Nat
  | .empty => 0
  | .shelved => 1
  | .out => 2
  | .onHead => 3
  | .pendingShelf => 4

/-- The place of a position state in R159. -/
def PositionState.place : PositionState → Nat
  | .undefined => 0
  | .free => 1
  | .occupied => 2
  | .reserved => 3
  | .blocked => 4

/-- The place of a ticket state in R164. -/
def TicketState.place : TicketState → Nat
  | .issued => 0
  | .awaitingSpace => 1
  | .taken => 2

/-- The code of a film base (R145). -/
def Base.code : Base → Nat
  | .nitrate => 0
  | .acetate => 1
  | .polyester => 2
  | .unknown => 3

/-- The film base an argument word names (R145). -/
def argBase (w : Word) : Option Base :=
  if w = 0 then some .nitrate else if w = 1 then some .acetate else if w = 2 then some .polyester
  else if w = 3 then some .unknown else none

/-- The code of a class (R159). -/
def VaultClass.code : VaultClass → Nat
  | .classA => 1
  | .classB => 2
  | .classC => 3
  | .classD => 4

/-- The code of a position's class, 0 for NONE (R159). -/
def classCode : Option VaultClass → Nat
  | none => 0
  | some c => c.code

/-- The class an argument word names, NONE included (R159). -/
def argClass (w : Word) : Option (Option VaultClass) :=
  if w = 0 then some none else if w = 1 then some (some .classA) else if w = 2 then some (some .classB)
  else if w = 3 then some (some .classC) else if w = 4 then some (some .classD) else none

/-- The place of a link state in R174: UP, then DOWN. -/
def Link.place : Link → Nat
  | .up => 0
  | .down => 1

/-! ### The taking of an order (R180, R181) -/

/-- What an order does: the state after its effects, its status and its result words. -/
abbrev OrderEffect := State × Status × List Word

/-- A refusal that changes nothing and reports nothing. -/
def State.refuse (s : State) (status : Status) : OrderEffect := (s, status, [])

/-- What the tests of R181 make of an order's argument words: a wrong number of words, a word out of its range, or the
arguments. -/
inductive Args (α : Type) where
  | badOrder
  | badArgument
  | ok (a : α)
  deriving DecidableEq, Repr

/-- Arguments whose number is right, in range or not. -/
def Args.ofRange {α : Type} : Option α → Args α
  | none => .badArgument
  | some a => .ok a

/-- An order applied after the tests of R181, refused with nothing to report when one fails. -/
def State.withArgs {α : Type} (s : State) (a : Args α) (k : α → OrderEffect) : OrderEffect :=
  match a with
  | .badOrder => s.refuse .badOrder
  | .badArgument => s.refuse .badArgument
  | .ok a => k a

/-- The ports in the order the order unit searches them: from the one after the last served, in the cycle H0, H1, H2, H3,
S (R180). -/
def portsAfter (p : Port) : List Port := [p + 1, p + 2, p + 3, p + 4, p]

/-- Whether a port is eligible: its order queue is not empty, its link is UP and its transmit list holds fewer than 8 cells
(R180). -/
def State.portEligible (s : State) (p : Port) : Bool :=
  !s.links.ports[p].orders.isEmpty && s.isUp p && decide (s.links.ports[p].transmit.length < Config.maxTransmit)

/-- The order the order unit takes next, with its port (R180). -/
def State.nextOrder (s : State) : Option (Port × Order) :=
  match (portsAfter s.lastPort).find? s.portEligible with
  | none => none
  | some p =>
    match s.links.ports[p].orders with
    | [] => none
    | o :: _ => some (p, o)

/-- The state after an order has left the head of its port's queue; the port becomes the last served (R180). -/
def State.popOrder (s : State) (p : Port) : State :=
  { s.modPort p (fun q => { q with orders := q.orders.drop 1 }) with lastPort := p }

/-- Whether a code names an order: 1 to 35 (R181 test 1). -/
def codeKnown (code : Byte) : Bool := decide (1 ≤ code.toNat ∧ code.toNat ≤ 35)

/-- The reply of an order formed, and the event ended (R180 step 2). -/
def State.answer (p : Port) (o : Order) (e : OrderEffect) : Host.Outcome State Fault Refusal :=
  (e.1.formReply p o.tag o.code e.2.1 e.2.2).finish

/-- The taking of an order (R180) as a command of one row. The order unit takes the order its search finds. An order whose
code names no order fails test 1 of R181, which every row's taking makes, and is answered BAD_ORDER. Another row's order is
not taken by this command, and with no order to take the event does not occur (log entries 2 and 3). -/
def State.takeOrder (s : State) (mine : Order → Bool) (apply : State → Order → OrderEffect) :
    Host.Outcome State Fault Refusal :=
  match s.nextOrder with
  | none => .next s
  | some (p, o) =>
    if codeKnown o.code = false then State.answer p o ((s.popOrder p).refuse .badOrder)
    else if mine o then State.answer p o (apply (s.popOrder p) o)
    else .next s

/-- Whether an order's code is the given one. -/
def hasCode (n : Nat) (o : Order) : Bool := decide (o.code.toNat = n)

end Sys2Proof.Machine
end

