-- ==== Sys2Proof/Machine/CatalogueOrders.lean ====
section
/-! DEFINITION. The catalogue's orders: WRITE-CATALOGUE, ERASE-CATALOGUE and READ-CATALOGUE (R147 to R150). -/

namespace Sys2Proof.Machine

/-! ### Records as result words -/

/-- The last fields of a record, each with its flag (R150). -/
def lastFieldWords (x : Record) : List Word :=
  optionWords (x.lastScore.map natWord) ++ optionWords (x.lastClass.map fun c => natWord c.code) ++
    optionWords (x.lastShrink.map intWord) ++ optionWords (x.lastPpm.map natWord) ++
    optionWords (x.lastReason.map fun c => natWord c.code)

/-- A record's state and the controller's account of the reel. -/
def accountWords (x : Record) : List Word :=
  [natWord x.state.place] ++ identityWords x.identity ++
    [natWord x.base.code, natWord x.gauge.val, natWord x.vinegar, natWord x.priorScore]

/-- A whole record as result words, every field of R145 in its order. DESIGN CHOICE (log entry 11): in WRITE-CATALOGUE's reply
the last fields and the position take a flag word and a value, both 0 when absent. -/
def recordWords (i : RecordNo) (x : Record) : List Word :=
  [natWord i.val] ++ accountWords x ++ lastFieldWords x ++ [natWord x.scanCount] ++
    optionWords (x.position.map fun q => natWord q.val)

/-! ### WRITE-CATALOGUE (R147, R148) -/

/-- The controller's account of a reel. -/
structure Account where
  identity : Nat
  base : Base
  gauge : GaugeCode
  vinegar : Nat
  priorScore : Nat
  deriving DecidableEq, Repr

/-- The six account words, in their ranges (R147). -/
def argAccount (lo hi base gauge vinegar score : Word) : Option Account := do
  let hi ← argRange 0 65535 hi
  return ⟨lo.toNat + 2 ^ 32 * hi, ← argBase base, ← argFin 4 gauge, ← argRange 0 3 vinegar, ← argRange 0 1000 score⟩

/-- A record with a new account. -/
def Record.write (x : Record) (a : Account) : Record :=
  { x with identity := a.identity, base := a.base, gauge := a.gauge, vinegar := a.vinegar, priorScore := a.priorScore }

/-- What a refused WRITE-CATALOGUE reports: the record, and the state of the position the order names (R147). -/
def State.refusedRecordWords (s : State) (i : RecordNo) (q : Option PositionNo) : List Word :=
  recordWords i s.catalogue[i] ++
  match q with
  | some q => [natWord s.shelf.positions[q].state.place]
  | none => []

/-- A record created SHELVED on a position, or OUT with none (R147). -/
def State.createRecord (s : State) (i : RecordNo) (a : Account) (q : Option PositionNo) : State :=
  let s : State := match q with
    | some q => s.modPosition q fun x => { x with state := .occupied, owner := some i }
    | none => s
  s.modRecord i fun _ =>
    { ({} : Record).write a with state := if q.isSome then .shelved else .out, position := q }

/-- Whether a position may be named for a new record: it is FREE and unlocked (R147). -/
def State.positionOpen (s : State) : Option PositionNo → Bool
  | some q => decide (s.shelf.positions[q].state = .free) && !s.shelf.positions[q].lock
  | none => true

/-- WRITE-CATALOGUE with every argument in range (R147, R148). -/
def State.writeRecord (s : State) (i : RecordNo) (a : Account) (q : Option PositionNo) : OrderEffect :=
  match s.catalogue[i].state with
  | .empty =>
    if s.positionOpen q then
      let s := s.createRecord i a q
      (s, .done, recordWords i s.catalogue[i])
    else (s, .inUse, s.refusedRecordWords i q)
  | .shelved | .out =>
    let s := s.modRecord i fun x => x.write a
    (s, .done, recordWords i s.catalogue[i])
  | .onHead | .pendingShelf => (s, .wrongState, s.refusedRecordWords i q)

/-- WRITE-CATALOGUE with the right number of words: `q` is the position group, out of range when the inner option is
none. -/
def State.writeOrder (s : State) (i : Option RecordNo) (a : Option Account) (q : Option (Option PositionNo)) : OrderEffect :=
  match i, a, q with
  | none, _, _ => s.refuse .badArgument
  | some i, some a, some q => s.writeRecord i a q
  | some i, _, q => (s, .badArgument, s.refusedRecordWords i q.join)

/-- WRITE-CATALOGUE. -/
def applyWriteCatalogue (s : State) (o : Order) : OrderEffect :=
  match o.args with
  | [i, lo, hi, base, gauge, vinegar, score] =>
    s.writeOrder (argFin 512 i) (argAccount lo hi base gauge vinegar score) (some none)
  | [i, lo, hi, base, gauge, vinegar, score, q] =>
    s.writeOrder (argFin 512 i) (argAccount lo hi base gauge vinegar score) ((argFin 1024 q).map some)
  | _ => s.refuse .badOrder

/-- WRITE_CATALOGUE (R147). -/
def execWriteCatalogue (s : State) : Host.Outcome State Fault Refusal := s.takeOrder (hasCode 22) applyWriteCatalogue

/-! ### ERASE-CATALOGUE (R149) -/

/-- The argument words of an order that takes a catalogue index only. -/
def recordArgs : List Word → Args RecordNo
  | [i] => .ofRange (argFin 512 i)
  | _ => .badOrder

/-- The effects of ERASE-CATALOGUE on a record in SHELVED or OUT (R149): its position is freed, the record takes the values of
R145, and an unlocked position makes a retry pass (R168). -/
def State.eraseRecord (s : State) (i : RecordNo) : State :=
  match s.catalogue[i].position with
  | some q =>
    let s := s.modPosition q Position.freed
    let s := s.modRecord i fun _ => {}
    if s.shelf.positions[q].lock then s else s.retryPass none
  | none => s.modRecord i fun _ => {}

/-- ERASE-CATALOGUE on a record (R149). -/
def State.eraseOrder (s : State) (i : RecordNo) : OrderEffect :=
  match s.catalogue[i].state with
  | .shelved | .out => (s.eraseRecord i, .done, optionWords (s.catalogue[i].position.map fun q => natWord q.val))
  | .empty | .onHead | .pendingShelf => s.refuse .wrongState

/-- ERASE-CATALOGUE. -/
def applyEraseCatalogue (s : State) (o : Order) : OrderEffect := s.withArgs (recordArgs o.args) s.eraseOrder

/-- ERASE_CATALOGUE (R149). -/
def execEraseCatalogue (s : State) : Host.Outcome State Fault Refusal := s.takeOrder (hasCode 23) applyEraseCatalogue

/-! ### READ-CATALOGUE (R150) -/

/-- The slot of a record ON_HEAD: the slot not FREE whose record names it (R150). -/
def State.slotOfRecord (s : State) (i : RecordNo) : Option Slot :=
  firstEntry (fun _ r => decide (r.state ≠ .free ∧ r.record = i)) s.reels

/-- The ticket of a record in PENDING_SHELF. -/
def State.ticketOfRecord (s : State) (i : RecordNo) : Option Ticket :=
  s.shelf.tickets.find? fun t => decide (t.record = i)

/-- The slot or the ticket number of a record, where its state has one (R150). -/
def State.whereaboutsWords (s : State) (i : RecordNo) : List Word :=
  match s.catalogue[i].state with
  | .onHead => ((s.slotOfRecord i).map fun r => natWord r.val).toList
  | .pendingShelf => ((s.ticketOfRecord i).map fun t => natWord t.number.toNat).toList
  | .empty | .shelved | .out => []

/-- A record's position with its flag, and when present its class, state and lock (R150). DESIGN CHOICE (log entry 11): the
lock is 1 for set and 0 for clear. -/
def State.positionOfWords (s : State) (x : Record) : List Word :=
  optionWords (x.position.map fun q => natWord q.val) ++
  match x.position with
  | some q =>
    let p := s.shelf.positions[q]
    [natWord (classCode p.cls), natWord p.state.place, flagWord p.lock]
  | none => []

/-- The number of records in a state. -/
def State.recordCount (s : State) (x : RecordState) : Nat := countEntries (fun r => decide (r.state = x)) s.catalogue

/-- The five record states, in the order of section 9.2. -/
def recordStates : List RecordState := [.empty, .shelved, .out, .onHead, .pendingShelf]

/-- The results of READ-CATALOGUE (R150). -/
def State.catalogueWords (s : State) (i : RecordNo) : List Word :=
  let x := s.catalogue[i]
  accountWords x ++ lastFieldWords x ++ [natWord x.scanCount] ++ s.positionOfWords x ++ s.whereaboutsWords i ++
    recordStates.map fun y => natWord (s.recordCount y)

/-- READ-CATALOGUE. -/
def applyReadCatalogue (s : State) (o : Order) : OrderEffect :=
  s.withArgs (recordArgs o.args) fun i => (s, .done, s.catalogueWords i)

/-- READ_CATALOGUE (R150). -/
def execReadCatalogue (s : State) : Host.Outcome State Fault Refusal := s.takeOrder (hasCode 24) applyReadCatalogue

end Sys2Proof.Machine
end

