-- ==== Sys2Proof/Machine/PoolOps.lean ====
section
/-! DEFINITION. The frame pool's shared operations: the free count, pacing, holds and release (R47, R52 to R58). -/

namespace Sys2Proof.Machine

/-- The free count: the number of buffers in FREE (R47). -/
def State.freeCount (s : State) : Nat := countEntries (fun b => decide (b.state = .free)) s.pool.buffers

/-- Whether a reel state binds the reel to its head (R4). -/
def ReelState.bound : ReelState → Bool
  | .mounted | .running | .held => true
  | .free | .draining | .closed => false

/-- The slot bound to a head (R4). -/
def State.boundSlot (s : State) (h : Head) : Option Slot :=
  firstEntry (fun _ r => decide (r.head = h) && r.state.bound) s.reels

/-- Whether a head is feeding the pool: it is bound to a reel slot in MOUNTED or RUNNING (R56, R58). -/
def State.feeding (s : State) (h : Head) : Bool :=
  match s.boundSlot h with
  | some r => decide (s.reels[r].state = .mounted ∨ s.reels[r].state = .running)
  | none => false

/-- The four heads, in order. -/
def allHeads : List Head := [0, 1, 2, 3]

/-! ### Pacing (R56, R57) -/

/-- A flow cell sent on every head that passes a test and whose link is UP. -/
def State.flowToHeads (s : State) (c : FlowCell) (p : Head → Bool) : State :=
  (allHeads.filter fun h => p h && s.isUp (headPort h)).foldl (fun s h => s.formFlow h c) s

/-- The pool becomes PACED: PACE-HOLD to every UP head that is feeding it, and POOL_LOW with the free count (R56). -/
def State.becomePaced (s : State) : State :=
  let s : State := { s with pool := { s.pool with pacing := .paced } }
  let s := s.flowToHeads .paceHold s.feeding
  s.raise .poolLow 0 none s.freeCount

/-- The pool becomes OPEN: PACE-GO to every UP head, and POOL_RECOVERED with the free count (R57). -/
def State.becomeOpen (s : State) : State :=
  let s : State := { s with pool := { s.pool with pacing := .open_ } }
  let s := s.flowToHeads .paceGo fun _ => true
  s.raise .poolRecovered 0 none s.freeCount

/-- The comparison made when an allocation lowers the free count (R56). -/
def State.paceFall (s : State) : State :=
  if s.pool.pacing = .open_ ∧ s.freeCount < s.pool.lowMark then s.becomePaced else s

/-- The comparison made when a release raises the free count (R57). -/
def State.paceRise (s : State) : State :=
  if s.pool.pacing = .paced ∧ s.freeCount = s.pool.resumeMark then s.becomeOpen else s

/-- PACE-HOLD to a head that comes to be feeding a PACED pool, when its link is UP (R58). -/
def State.tellPaced (s : State) (h : Head) : State :=
  if s.pool.pacing = .paced ∧ s.isUp (headPort h) = true then s.formFlow h .paceHold else s

/-! ### Release (R54, R55) -/

/-- A buffer record as its release to FREE leaves it: the state, hold and delivery fields at the values of R45, the others
kept. -/
def Buffer.released (b : Buffer) : Buffer :=
  { b with
    state := .free
    successorHold := false
    neighbourHolds := 0
    lane := none
    delivery := .neverSent
    resolution := none
    repairTimer := none
    ackTimer := none }

/-- The latest frame of a buffer's reel absent, when it names that buffer (R1, R55 step 3). -/
def State.forgetLatest (s : State) (b : Buf) : State :=
  let r := s.pool.buffers[b].slot
  if s.reels[r].latest = some b then s.modReel r fun x => { x with latest := none } else s

/-- The release of a buffer to FREE (R55): the record's fields, the reel's latest frame, the close of a DRAINING reel that
now owns no buffer, and the comparison with the resume mark. -/
def State.release (s : State) (b : Buf) : State :=
  let r := s.pool.buffers[b].slot
  let s := s.modBuffer b Buffer.released
  let s := s.forgetLatest b
  let s := s.closeIfEmpty r
  s.paceRise

/-- Whether a buffer still carries a hold. -/
def Buffer.held (b : Buffer) : Bool := b.successorHold || decide (0 < b.neighbourHolds)

/-- The release test (R54): nothing while the delivery is outstanding; otherwise DONE while a hold remains, and the release
to FREE when none does. -/
def State.releaseTest (s : State) (b : Buf) : State :=
  if s.pool.buffers[b].delivery ≠ .resolved then s
  else if s.pool.buffers[b].held then s.modBuffer b fun x => { x with state := .done }
  else s.release b

/-! ### Holds (R52, R53) -/

/-- The successor hold of a buffer cleared, with the release test that follows a clearing (R52). -/
def State.clearSuccessor (s : State) (b : Buf) : State :=
  if s.pool.buffers[b].successorHold then (s.modBuffer b fun x => { x with successorHold := false }).releaseTest b else s

/-- The successor hold of a reel's latest frame cleared (R10, R20, R27). -/
def State.clearLatestHold (s : State) (r : Slot) : State :=
  match s.reels[r].latest with
  | some b => s.clearSuccessor b
  | none => s

/-- One neighbour hold of a buffer released, with the release test when the count falls to 0 (R53). -/
def State.releaseNeighbour (s : State) (b : Buf) : State :=
  let s := s.modBuffer b fun x => { x with neighbourHolds := x.neighbourHolds - 1 }
  if s.pool.buffers[b].neighbourHolds = 0 then s.releaseTest b else s

/-- The neighbour holds a repair request took, released (R53). -/
def State.releaseNeighbours (s : State) (q : RepairRequest) : State :=
  let s : State := match q.prev with
    | some b => s.releaseNeighbour b
    | none => s
  match q.next with
  | some b => s.releaseNeighbour b
  | none => s

end Sys2Proof.Machine
end

