-- ==== Sys2Proof/Machine/DeliveryOps.lean ====
section
/-! DEFINITION. The delivery unit's shared operations: lane choice, the lane queues, the store arbiter and the start of a send
(R128 to R133). -/

namespace Sys2Proof.Machine

/-- The lane map index of a frame: (frame number + 8 × slot) mod 32 (R128). -/
def laneIndex (frame : Nat) (slot : Slot) : Fin 32 := Fin.ofNat 32 (frame + 8 * slot.val)

/-- The lane queues with one of them changed. -/
def State.modQueue (s : State) (l : Lane) (f : List Buf → List Buf) : State :=
  { s with delivery := { s.delivery with queues := modEntry s.delivery.queues l f } }

/-- The lanes in the order the arbiter searches them: from the one after the last served, wrapping from 3 to 0 (R131). -/
def lanesAfter (l : Lane) : List Lane := [l + 1, l + 2, l + 3, l]

/-- Whether a lane is eligible: its queue is not empty and its credit is at least 1 (R131). -/
def DeliveryUnit.eligible (d : DeliveryUnit) (l : Lane) : Bool :=
  !d.queues[l].isEmpty && decide (1 ≤ d.credits[l])

/-- The start of a send (R131, R133): the credit is spent, the lane becomes the last served, the buffer at the head of the
lane's queue leaves it and becomes SENDING, the transmitter becomes SENDING, and the FRAME-OUT cell is sent. -/
def State.startSend (s : State) (l : Lane) (b : Buf) : State :=
  let buf := s.pool.buffers[b]
  let s : State := { s with delivery := { s.delivery with
    credits := modEntry s.delivery.credits l fun c => c - 1
    lastServed := l
    queues := modEntry s.delivery.queues l fun q => q.drop 1
    transmitter := .sending b 0 } }
  let s := s.modBuffer b fun x => { x with state := .sending }
  let s : State := { s with links := { s.links with boundaryUsed := false } }
  s.sendCell portS kindFrameOut (frameOutPayload l buf s.profiles[buf.grade.profile].depth)

/-- The arbiter's search (R131, R132): with the transmitter IDLE and the store link UP, the first eligible lane in the round
robin starts its frame. While the reset input is held low nothing is sent, so no send starts (section 11.8, log
entry 4). -/
def State.arbiterSearch (s : State) : State :=
  if s.delivery.transmitter = .idle ∧ s.isUp portS = true ∧ s.resetLow = false then
    match (lanesAfter s.delivery.lastServed).find? s.delivery.eligible with
    | none => s
    | some l =>
      match s.delivery.queues[l] with
      | [] => s
      | b :: _ => s.startSend l b
  else s

/-- A frame that enters QUEUED (R128): its lane is chosen from the lane map, it joins the tail of that lane's queue, and the
arbiter searches (R132). -/
def State.joinLane (s : State) (b : Buf) : State :=
  let buf := s.pool.buffers[b]
  let l := s.delivery.laneMap[laneIndex buf.frame buf.slot]
  let s := s.modBuffer b fun x => { x with state := .queued, lane := some l }
  let s := s.modQueue l fun q => q ++ [b]
  s.arbiterSearch

/-- A buffer taken out of the lane queue it stands in; the buffers behind it keep their order (R141). -/
def State.leaveLanes (s : State) (b : Buf) : State :=
  { s with delivery := { s.delivery with
      queues := mapEntries (fun _ q => q.filter fun x => decide (x ≠ b)) s.delivery.queues } }

end Sys2Proof.Machine
end

