-- ==== Sys2Proof/Machine/Memory.lean ====
section
/-! DEFINITION. The stacked DRAM (R45): reading and writing one sample of a buffer's region, the canonical form of a region,
and the writing of whole lines. -/

namespace Sys2Proof.Machine

/-- What a sample that nothing has written reads as. The manual gives the DRAM no contents at power-on. DESIGN CHOICE,
unsafe: 0 in every channel (log entry 7). -/
def Memory.unwritten : Sample := Sample.zero

/-- The sample at an address of a region. -/
def Memory.read : Memory → Nat → Sample
  | [], _ => Memory.unwritten
  | (k, v) :: m, a => if k = a then v else Memory.read m a

/-- A region after a sample is written at an address. The canonical form is kept: the entry stands at its place in the
rising order, and a sample equal to an unwritten one is not listed. -/
def Memory.write : Memory → Nat → Sample → Memory
  | [], a, x => if x = Memory.unwritten then [] else [(a, x)]
  | (k, v) :: m, a, x =>
    if a < k then (if x = Memory.unwritten then (k, v) :: m else (a, x) :: (k, v) :: m)
    else if a = k then (if x = Memory.unwritten then m else (a, x) :: m)
    else (k, v) :: Memory.write m a x

/-- The canonical form from an address on: addresses strictly rising from `a`, and no unwritten sample listed. -/
def Memory.wfFrom : Nat → Memory → Bool
  | _, [] => true
  | a, (k, v) :: m => decide (a ≤ k) && decide (v ≠ Memory.unwritten) && Memory.wfFrom (k + 1) m

/-- The canonical form of a region. -/
def Memory.wf (m : Memory) : Bool := Memory.wfFrom 0 m

/-- The address of sample `j` of line `l` in a region of 4096 samples by 3072 lines (chapter 3, opening). -/
def sampleAddress (l j : Nat) : Nat := Config.maxWidth * l + j

/-- A region after samples are written one behind another from an address on. -/
def Memory.writeFrom (m : Memory) : Nat → List Sample → Memory
  | _, [] => m
  | a, x :: xs => Memory.writeFrom (m.write a x) (a + 1) xs

/-- A region after a line's samples are stored from its position 0 on (R29). -/
def Memory.writeLine (m : Memory) (l : Nat) (xs : List Sample) : Memory :=
  m.writeFrom (sampleAddress l 0) xs

end Sys2Proof.Machine
end

