-- ==== Sys2Proof/Machine/RepairOps.lean ====
section
/-! DEFINITION. The repair engine's shared operations: requests, the queue, the temporal and spatial rules, and the discard of
a buffer (R50, R77 to R94). -/

namespace Sys2Proof.Machine

/-! ### Requests (R80, R81, R83) -/

/-- The buffer a request for frame `n` of a reel names as prev: the buffer of the reel that holds frame n − 1 and carries the
successor hold (R80). -/
def State.prevOf (s : State) (r : Slot) (n : Nat) : Option Buf :=
  firstEntry (fun _ b => decide (b.state ≠ .free ∧ b.slot = r ∧ b.frame + 1 = n) && b.successorHold) s.pool.buffers

/-- The idle engine takes the request at the head of the queue and captures the span limit (R83). -/
def State.engineTake (s : State) : State :=
  match s.repair.engine, s.repair.queue with
  | none, q :: rest => { s with repair := { s.repair with queue := rest, engine := some ⟨q, s.repair.span, false⟩ } }
  | _, _ => s

/-- One neighbour hold added to a buffer (R53). -/
def State.addNeighbour (s : State) (b : Buf) : State :=
  s.modBuffer b fun x => { x with neighbourHolds := x.neighbourHolds + 1 }

/-- The repair of the PENDING frame in a buffer is requested, with the next frame the event allows (R81). Prev's successor
hold becomes a neighbour hold, so the release test after its clearing finds a hold and changes nothing (R52). -/
def State.requestRepair (s : State) (b : Buf) (next : Option Buf) : State :=
  let buf := s.pool.buffers[b]
  let prev := s.prevOf buf.slot buf.frame
  let s : State := match prev with
    | some p => s.modBuffer p fun x => { x with successorHold := false, neighbourHolds := x.neighbourHolds + 1 }
    | none => s
  let s : State := match next with
    | some n => s.addNeighbour n
    | none => s
  let s := s.modBuffer b fun x => { x with state := .repair, repairTimer := none }
  let s : State := { s with repair := { s.repair with queue := s.repair.queue ++ [⟨b, prev, next⟩] } }
  s.engineTake

/-- The reel's PENDING frame, if it has one (R77). -/
def State.pendingFrame (s : State) (r : Slot) : Option Buf :=
  firstEntry (fun _ b => decide (b.state = .pending ∧ b.slot = r)) s.pool.buffers

/-- The repair of the reel's PENDING frame requested with no next frame, if it has one (R10, R20, R27). -/
def State.requestPending (s : State) (r : Slot) : State :=
  match s.pendingFrame r with
  | some b => s.requestRepair b none
  | none => s

/-- A discarded next of a reel (R27): the latest frame's successor hold is cleared, and a PENDING frame's repair is
requested with no next frame. -/
def State.discardedNext (s : State) (r : Slot) : State :=
  (s.requestPending r).clearLatestHold r

/-! ### The values a repair writes (R85 to R91) -/

/-- Whether a run list covers a sample (R86). -/
def covers (runs : List Run) (l j : Nat) : Bool :=
  runs.any fun r => decide (r.line = l ∧ r.start ≤ j ∧ j < r.start + r.length)

/-- The sample of a neighbour at the registered coordinates of (l, j), when it is usable (R86). -/
def usableSample (cur nb : Buffer) (m : Memory) (l j : Nat) : Option Sample :=
  let ln : Int := (l : Int) - cur.offset + nb.offset
  if 0 ≤ ln ∧ ln < nb.lines ∧ j < nb.width ∧ covers nb.runs ln.toNat j = false then
    some (m.read (sampleAddress ln.toNat j))
  else none

/-- The mean of two channel values, (a + b + 1) div 2 (R87). -/
def meanChannel (a b : Channel) : Channel := BitVec.ofNat 16 ((a.toNat + b.toNat + 1) / 2)

/-- Two samples combined channel by channel in R, G and B; the IR value is that of the first. -/
def zipRGB (f : Channel → Channel → Channel) (x y : Sample) : Sample :=
  ⟨f x.r y.r, f x.g y.g, f x.b y.b, x.ir⟩

/-- The temporal value from the usable samples of prev and next (R87). -/
def temporalValue : Option Sample → Option Sample → Option Sample
  | some p, some n => some (zipRGB meanChannel p n)
  | some p, none => some p
  | none, some n => some n
  | none, none => none

/-- The interpolated value of one channel at step `k` of a run of a length, rounded down toward minus infinity (R89). -/
def interpolate (k length : Nat) (vl vr : Channel) : Channel :=
  BitVec.ofInt 16 ((vl.toNat : Int) + (((vr.toNat : Int) - vl.toNat) * k).fdiv (length + 1))

/-- The left endpoint of a run (R88). -/
def leftEndpoint (m : Memory) (r : Run) : Option Sample :=
  if 1 ≤ r.start then some (m.read (sampleAddress r.line (r.start - 1))) else none

/-- The right endpoint of a run in a frame of a width (R88). -/
def rightEndpoint (m : Memory) (width : Nat) (r : Run) : Option Sample :=
  if r.start + r.length < width then some (m.read (sampleAddress r.line (r.start + r.length))) else none

/-- The spatial value at step `k` of a run with the given endpoints and captured span limit (R89, R90); none for a run with
no endpoint (R91). -/
def spatialValue (span length k : Nat) : Option Sample → Option Sample → Option Sample
  | some vl, some vr =>
    if length ≤ span then some (zipRGB (interpolate k length) vl vr)
    else if k ≤ length + 1 - k then some vl else some vr
  | some vl, none => some vl
  | none, some vr => some vr
  | none, none => none

/-- A sample a repair has to fill: its address, and the value it is given, if any. -/
structure Fill where
  address : Nat
  value : Option Sample
  deriving DecidableEq, Repr

/-- The usable sample of a named neighbour, if there is one. -/
def State.neighbourSample (s : State) (cur : Buffer) (nb : Option Buf) (l j : Nat) : Option Sample :=
  match nb with
  | some b => usableSample cur s.pool.buffers[b] s.pool.dram[b] l j
  | none => none

/-- The value a repair gives to the sample at position `start + i` of a run: the temporal rule first, then the spatial rule
(R85). -/
def State.repairValue (s : State) (job : RepairJob) (r : Run) (i : Nat) : Option Sample :=
  let b := job.request.buf
  let cur := s.pool.buffers[b]
  let j := r.start + i
  match temporalValue (s.neighbourSample cur job.request.prev r.line j) (s.neighbourSample cur job.request.next r.line j) with
  | some v => some v
  | none => spatialValue job.span r.length (i + 1) (leftEndpoint s.pool.dram[b] r) (rightEndpoint s.pool.dram[b] cur.width r)

/-- Every sample covered by the frame's run list, with the value the repair gives it (R85). All values are computed from the
frames as they are stored before the repair writes. -/
def State.repairFills (s : State) (job : RepairJob) : List Fill :=
  s.pool.buffers[job.request.buf].runs.flatMap fun r =>
    (List.range r.length).map fun i => ⟨sampleAddress r.line (r.start + i), s.repairValue job r i⟩

/-- A region after one fill: R, G and B are written and the stored IR value is left (R85); a fill with no value changes
nothing (R91). -/
def Memory.fill (m : Memory) (f : Fill) : Memory :=
  match f.value with
  | some v => m.write f.address { v with ir := (m.read f.address).ir }
  | none => m

/-- How many fills have a value: the repaired count (R91). -/
def repairedCount (fs : List Fill) : Nat := fs.countP fun f => f.value.isSome

/-- How many fills have none: the unrepaired count (R91). -/
def unrepairedCount (fs : List Fill) : Nat := fs.countP fun f => f.value.isNone

/-- What an abandoned repair leaves in the DRAM (R94): the samples it had already written, an open choice among its fills
(log entry 6). -/
def State.abandonRepair (s : State) : State :=
  match s.repair.engine with
  | none => s
  | some job =>
    let written := (s.repairFills job).zipIdx.filter fun e => Config.abandonedWrite s.abandoned e.2
    { s.modMemory job.request.buf (fun m => (written.map Prod.fst).foldl Memory.fill m) with
      abandoned := s.abandoned + 1 }

/-! ### Discard (R50) -/

/-- The requests for a buffer withdrawn from the repair queue: each leaves the queue and the neighbour holds it took are
released (R93). -/
def State.withdrawRequests (s : State) (b : Buf) : State :=
  let mine := s.repair.queue.filter fun q => decide (q.buf = b)
  let s : State := { s with repair := { s.repair with queue := s.repair.queue.filter fun q => decide (q.buf ≠ b) } }
  mine.foldl State.releaseNeighbours s

/-- The discard of a buffer (R50): its timer is cancelled, its request is withdrawn and its holds released, it leaves its
lane queue, it is no longer its reel's latest frame (R1), its delivery is resolved as DISCARDED, and the release test is
made. -/
def State.discard (s : State) (b : Buf) : State :=
  let s := s.withdrawRequests b
  let s := s.leaveLanes b
  let s := s.forgetLatest b
  let s := s.modBuffer b fun x => { x with delivery := .resolved, resolution := some .discarded, repairTimer := none }
  s.releaseTest b

end Sys2Proof.Machine
end

