-- ==== Sys2Proof/Machine/DefectOps.lean ====
section
/-! DEFINITION. The defect unit's shared operations: the infrared test, runs, bad lines, and the heavy decision (R62 to
R69). -/

namespace Sys2Proof.Machine

/-- Whether a sample is defective: its IR value is less than the threshold (R62). -/
def isDefective (threshold : Nat) (x : Sample) : Bool := decide (x.ir.toNat < threshold)

/-- The maximal runs of a line's mask from position `j` on (R63). `open_` is the start of the run in progress, if any. -/
def runsFrom (l : Nat) : Option Nat → Nat → List Bool → List Run
  | none, _, [] => []
  | some a, j, [] => [⟨l, a, j - a⟩]
  | none, j, true :: m => runsFrom l (some j) (j + 1) m
  | none, j, false :: m => runsFrom l none (j + 1) m
  | some a, j, true :: m => runsFrom l (some a) (j + 1) m
  | some a, j, false :: m => ⟨l, a, j - a⟩ :: runsFrom l none (j + 1) m

/-- The runs of a good line, in ascending order of start (R63). -/
def lineRuns (threshold l : Nat) (xs : List Sample) : List Run :=
  runsFrom l none 0 (xs.map (isDefective threshold))

/-- A buffer record after the runs of one line come to its run list, with the number of the line's defective samples: the
runs that fit are appended, those that do not set the overflow flag, and once the flag is set none is recorded (R63, R66,
R67). -/
def Buffer.addRuns (b : Buffer) (runs : List Run) (defective : Nat) : Buffer :=
  { b with
    runs := if b.overflow then b.runs else b.runs ++ runs.take (Config.maxRuns - b.runs.length)
    overflow := b.overflow || decide (Config.maxRuns < b.runs.length + runs.length)
    defective := b.defective + defective }

/-- A line index entered in the lines-received set, which is kept in ascending order. -/
def enterLine (l : Nat) : List Nat → List Nat
  | [] => [l]
  | k :: ks => if l = k then k :: ks else if l < k then l :: k :: ks else k :: enterLine l ks

/-- A good line taken (R29, R62, R63): its samples are stored, it enters the lines-received set, and its runs and defective
samples are recorded. -/
def State.takeGoodLine (s : State) (b : Buf) (threshold l : Nat) (xs : List Sample) : State :=
  let s := s.modMemory b fun m => m.writeLine l xs
  s.modBuffer b fun x =>
    { x.addRuns (lineRuns threshold l xs) (xs.countP (isDefective threshold)) with received := enterLine l x.received }

/-- A bad line taken (R29, R64): it is stored as 0 in every channel, enters the lines-received set, is counted, and is taken
whole as one run. -/
def State.takeBadLine (s : State) (b : Buf) (l : Nat) : State :=
  let width := s.pool.buffers[b].width
  let s := s.modMemory b fun m => m.writeLine l (List.replicate width Sample.zero)
  s.modBuffer b fun x =>
    { x.addRuns [⟨l, 0, width⟩] width with received := enterLine l x.received, badLines := x.badLines + 1 }

/-- The line indices a frame has not received, in ascending order (R31 step 1). -/
def Buffer.missing (b : Buffer) : List Nat := (List.range b.lines).filter fun l => decide (l ∉ b.received)

/-- The heavy decision: density, bad lines or overflow (R69). -/
def heavyDecision (d : DefectLimits) (b : Buffer) : Bool :=
  decide (d.heavyLimit * b.lines * b.width < b.defective * 1000) || decide (d.badLineLimit < b.badLines) || b.overflow

/-- The reel counters after the counting at a frame's end (R68), the heavy frame included. -/
def countFrameEnd (b : Buffer) (heavy : Bool) (c : ReelCounters) : ReelCounters :=
  { c with
    samplesScanned := c.samplesScanned + BitVec.ofNat 64 (b.lines * b.width)
    defectiveSamples := c.defectiveSamples + BitVec.ofNat 64 b.defective
    badLines := c.badLines + BitVec.ofNat 32 b.badLines
    heavyFrames := if heavy then c.heavyFrames + 1 else c.heavyFrames }

end Sys2Proof.Machine
end

