-- ==== Sys2Proof/Machine/ReelOps.lean ====
section
/-! DEFINITION. The reel table's shared operations: holds, the entry to DRAINING, policy, deferred orders, and the frame gap
(R10 to R21, R31, R42, R70 to R72). -/

namespace Sys2Proof.Machine

/-! ### Holds and the end of a reel -/

/-- A hold that takes effect (R10), with its cause as detail. On a reel that is not MOUNTED or RUNNING it changes nothing. -/
def State.takeHold (s : State) (r : Slot) (cause : Nat) : State :=
  let reel := s.reels[r]
  if reel.state = .mounted ∨ reel.state = .running then
    let s := s.modReel r fun x => { x with state := .held }
    let s := s.formFlow reel.head .halt
    let s := s.raise .reelHeld r.val (some reel.record) cause
    let s := s.requestPending r
    s.clearLatestHold r
  else s

/-- The entry to DRAINING by REEL-END or UNMOUNT-REEL END (R20): the close reason is recorded, the cue list and the deferred
list are emptied (R15, R16), the PENDING frame's repair is requested, the latest frame's successor hold is cleared, and a
reel that owns no buffer becomes CLOSED (R21). -/
def State.enterDraining (s : State) (r : Slot) (reason : CloseReason) : State :=
  let s := s.modReel r fun x =>
    { x with state := .draining, closeReason := some reason, cues := [], deferred := [] }
  let s := s.requestPending r
  let s := s.clearLatestHold r
  s.closeIfEmpty r

/-- The policy of a reel replaced (R14): on a MOUNTED reel settle remaining is also set. -/
def State.applyPolicy (s : State) (r : Slot) (p : Policy) : State :=
  s.modReel r fun x =>
    { x with policy := p, settleRemaining := if x.state = .mounted then p.settleCount else x.settleRemaining }

/-- The deferred orders applied one by one, oldest first (R16 step 3): those behind an UNMOUNT-REEL END are discarded. -/
def applyDeferred (r : Slot) : List Deferred → State → State
  | [], s => s
  | .holdReel _ :: rest, s => applyDeferred r rest (s.takeHold r 0)
  | .setPolicy _ p :: rest, s => applyDeferred r rest (s.applyPolicy r p)
  | .unmountEnd _ :: _, s => s.enterDraining r .unmount

/-- The deferred orders of a reel applied and its list left empty (R16 steps 3 and 4). -/
def State.applyDeferredOrders (s : State) (r : Slot) : State :=
  applyDeferred r s.reels[r].deferred (s.modReel r fun x => { x with deferred := [] })

/-- The internal holds due at the gap of an assembled frame (R11): heavy by the heavy action, and the perf-fault run at its
limit, whose count is then set to 0. -/
def State.internalHolds (s : State) (r : Slot) (heavy perfFault : Bool) : State :=
  let reel := s.reels[r]
  let heavyDue := heavy && decide (reel.policy.heavyAction = .hold)
  let perfDue := perfFault && decide (reel.policy.perfRunLimit ≠ 0 ∧ reel.policy.perfRunLimit ≤ reel.perfRun)
  if reel.state = .mounted ∨ reel.state = .running then
    if heavyDue || perfDue then
      let s := s.takeHold r (if heavyDue then 1 else 2)
      if perfDue then s.modReel r fun x => { x with perfRun := 0 } else s
    else s
  else s

/-! ### The frame end (R31, R42, R68 to R72) -/

/-- The code of a perf-fault cause (R41). -/
def Cause.code : Cause → Nat
  | .noEdges => 1
  | .offsetClamped => 2
  | .tooFewEdges => 3
  | .edgesOutOfOrder => 4
  | .shrinkOutOfRange => 5

/-- The lowest code among a frame's causes, 0 when there is none; the causes of a frame stand in ascending order of code. -/
def lowestCause : List Cause → Nat
  | [] => 0
  | c :: _ => c.code

/-- The perf-fault run of a reel at the gap of an assembled frame (R42). -/
def State.perfUpdate (s : State) (r : Slot) (causes : List Cause) : State :=
  if causes.isEmpty then s.modReel r fun x => { x with perfRun := 0 }
  else
    let s := s.modReel r fun x =>
      { x with perfRun := min 255 (x.perfRun + 1)
               counters := { x.counters with perfFaultFrames := x.counters.perfFaultFrames + 1 } }
    s.raise .perfFault r.val (some s.reels[r].record) (lowestCause causes)

/-- The path of a heavy frame (R70): the flag and the successor hold, its lane, and HEAVY_FRAME. -/
def State.heavyPath (s : State) (b : Buf) (r : Slot) : State :=
  let buf := s.pool.buffers[b]
  let s := s.modBuffer b fun x => { x with heavy := true, successorHold := !x.overflow }
  let s := s.joinLane b
  s.raise .heavyFrame r.val (some s.reels[r].record) buf.frame

/-- The path of a frame that is not heavy (R71): PENDING, with its successor hold set and its repair-wait timer started. -/
def State.becomePending (s : State) (b : Buf) : State :=
  s.modBuffer b fun x => { x with state := .pending, successorHold := true, repairTimer := some s.repair.wait }

/-- What the end of the frame in `b` does for the frame before it, in buffer `p` (R72): a PENDING predecessor's repair is
requested, with this frame as next unless its run list overflowed, and the end of a heavy frame clears the predecessor's
successor hold. -/
def State.predecessorAtEnd (s : State) (b p : Buf) (heavy : Bool) : State :=
  let next := if s.pool.buffers[b].overflow then none else some b
  let s : State := if s.pool.buffers[p].state = .pending then s.requestRepair p next else s
  if heavy then s.clearSuccessor p else s

/-- The predecessor of the frame in `b` at its end: the latest frame of the reel, when it holds the frame numbered one
below (R72). -/
def State.predecessor (s : State) (r : Slot) (b : Buf) : Option Buf :=
  s.reels[r].latest.filter fun p => decide (s.pool.buffers[p].frame + 1 = s.pool.buffers[b].frame)

/-- Every missing line of a frame taken as a bad line, in ascending order (R31 step 1). -/
def State.takeMissing (s : State) (b : Buf) : State :=
  s.pool.buffers[b].missing.foldl (fun s l => s.takeBadLine b l) s

/-- Steps 1 to 3 of R31: the missing lines, the short count, the assembled count and the latest frame. -/
def State.assembleFrame (s : State) (b : Buf) (r : Slot) : State :=
  let short := !s.pool.buffers[b].missing.isEmpty
  let s := s.takeMissing b
  s.modReel r fun x =>
    { x with
      latest := some b
      counters := { x.counters with
        shortFrames := if short then x.counters.shortFrames + 1 else x.counters.shortFrames
        framesAssembled := x.counters.framesAssembled + 1 } }

/-- Step 5 of R31, the defect unit's frame end (R68 to R72). `p` is the predecessor's buffer. -/
def State.defectEnd (s : State) (b : Buf) (r : Slot) (p : Option Buf) (heavy : Bool) : State :=
  let s := s.countReel r (countFrameEnd s.pool.buffers[b] heavy)
  let s : State := if heavy then s.heavyPath b r else s.becomePending b
  match p with
  | some p => s.predecessorAtEnd b p heavy
  | none => s

/-- A frame in hand assembled at a frame gap, and the gap processed (R31, R16 steps 1 to 4). The head is then IDLE. -/
def State.closeFrame (s : State) (h : Head) (b : Buf) (d : FrameDesc) : State :=
  let r := d.slot
  let p := s.predecessor r b
  let s := s.assembleFrame b r
  let s := s.perfUpdate r d.causes
  let heavy := heavyDecision s.defect s.pool.buffers[b]
  let s := s.defectEnd b r p heavy
  let s := s.modHead h fun x => { x with assembly := .idle }
  let s := s.internalHolds r heavy (!d.causes.isEmpty)
  s.applyDeferredOrders r

/-- The frame in hand of a head, if any, closed at a frame gap; the head is then IDLE in every case (R32, R43). -/
def State.endAssembly (s : State) (h : Head) : State :=
  match s.intake.heads[h].assembly with
  | .assembling b d => s.closeFrame h b d
  | _ => s.modHead h fun x => { x with assembly := .idle }

/-- Whether a frame of a reel is being assembled (R4): its head is ASSEMBLING a frame of that reel. -/
def State.assemblingFor (s : State) (r : Slot) : Bool :=
  match s.intake.heads[s.reels[r].head].assembly with
  | .assembling _ d => decide (d.slot = r)
  | _ => false

/-! ### Abort (R18, R93, R141) -/

/-- A frame discarded by an abort: one more in discarded (abort), and the discard (R18, R50). -/
def State.abortFrame (s : State) (r : Slot) (b : Buf) : State :=
  (s.countReel r fun c => { c with discardedAbort := c.discardedAbort + 1 }).discard b

/-- What an abort does to one buffer of the reel, by its state (R18). -/
def State.abortBuffer (s : State) (r : Slot) (b : Buf) : State :=
  let buf := s.pool.buffers[b]
  if buf.slot ≠ r then s
  else
    match buf.state with
    | .filling | .pending | .queued => s.abortFrame r b
    | .repair =>
      match s.repair.engine with
      | some job =>
        if job.request.buf = b then { s with repair := { s.repair with engine := some { job with aborted := true } } }
        else s.abortFrame r b
      | none => s.abortFrame r b
    | .free | .sending | .awaitAck | .done => s

/-- The 32 buffers, in order. -/
def allBuffers : List Buf := List.finRange 32

/-- The successor hold cleared on every buffer of a reel that carries it (R52). -/
def State.clearAllHolds (s : State) (r : Slot) : State :=
  allBuffers.foldl (fun s b => if s.pool.buffers[b].slot = r then s.clearSuccessor b else s) s

/-- UNMOUNT-REEL ABORT on a reel in MOUNTED, RUNNING or HELD (R18, R20): the head sinks the rest of the frame in hand, every
buffer of the reel is dealt with by its state, and the reel enters DRAINING with close reason ABORT. -/
def State.abortReel (s : State) (r : Slot) : State :=
  let s : State := if s.assemblingFor r then s.modHead s.reels[r].head fun x => { x with assembly := .sinking } else s
  let s := s.clearAllHolds r
  let s := allBuffers.foldl (fun s b => s.abortBuffer r b) s
  let s := s.modReel r fun x =>
    { x with state := .draining, closeReason := some .abort, cues := [], deferred := [] }
  s.closeIfEmpty r

end Sys2Proof.Machine
end

