-- ==== Sys2Proof/Machine/IntakeOps.lean ====
section
/-! DEFINITION. The frame intake's shared operations: counting on a port, the registration offset and shrink measurement, the
opening of a frame, and the lines of a frame in hand (R25 to R43). -/

namespace Sys2Proof.Machine

/-! ### Counting at a port (R25, R176) -/

/-- A cell that fails its check on a head port: counted, and CELL_CHECK raised with detail 1 for a bad line and 0 for a
dropped cell (R25). -/
def State.headCheckFailure (s : State) (h : Head) (detail : Nat) : State :=
  (s.modHead h fun x => { x with checkFailures := x.checkFailures + 1 }).raise .cellCheck h.val none detail

/-- A cell sunk by the intake of a head (R25, R33). -/
def State.headSink (s : State) (h : Head) : State :=
  s.modHead h fun x => { x with sunkCells := x.sunkCells + 1 }

/-- A cell that fails its check on port S: dropped and counted, and CELL_CHECK raised for instance 4 with detail 0
(R176). -/
def State.storeCheckFailure (s : State) : State :=
  { s with links := { s.links with checkFailuresS := s.links.checkFailuresS + 1 } }.raise .cellCheck 4 none 0

/-- A cell sunk on port S (R176). -/
def State.storeSink (s : State) : State :=
  { s with links := { s.links with sunkCellsS := s.links.sunkCellsS + 1 } }

/-- The head whose port this is; none for port S. -/
def headOf (p : Port) : Option Head := if h : p.val < 4 then some ⟨p.val, h⟩ else none

/-! ### Registration offset (R36, R37) and shrink (R39, R40) -/

/-- Whether edges strictly increase in list order (R39). -/
def increasing : List Nat → Bool
  | a :: b :: rest => decide (a < b) && increasing (b :: rest)
  | _ => true

/-- The unclamped offset of a first edge: floor((e₁ − A + 8) / 16) (R36). -/
def rawOffset (g : Gauge) (e : Nat) : Int := ((e : Int) - g.anchor + 8).fdiv 16

/-- An offset limited to the registration range (R36). -/
def clampOffset (g : Gauge) (o : Int) : Int :=
  if (g.range : Int) < o then g.range else if o < -(g.range : Int) then -(g.range : Int) else o

/-- The registration offset of a frame: from its first edge, or the last offset when it has none (R36, R37). -/
def frameOffset (g : Gauge) (last : Int) : List Nat → Int
  | [] => last
  | e :: _ => clampOffset g (rawOffset g e)

/-- Whether the offset of a frame is clamped (R36). -/
def offsetIsClamped (g : Gauge) : List Nat → Bool
  | [] => false
  | e :: _ => decide (clampOffset g (rawOffset g e) ≠ rawOffset g e)

/-- The measured pitch of a list of edges: (eₙ − e₁) divided by (n − 1), truncated toward zero (R39). -/
def measuredPitch (edges : List Nat) : Int :=
  ((edges.getLastD 0 : Int) - edges.headD 0).tdiv (edges.length - 1)

/-- The frame shrink in basis points: ((P − p) × 10000) divided by P, truncated toward zero; none when the edges give no
measurement (R39). -/
def measuredShrink (g : Gauge) (edges : List Nat) : Option Int :=
  if 2 ≤ edges.length ∧ increasing edges = true then
    some ((((g.pitch : Int) - measuredPitch edges) * 10000).tdiv g.pitch)
  else none

/-- Whether a shrink is in range (R40). -/
def shrinkInRange (x : Int) : Bool := decide (-500 ≤ x ∧ x ≤ 2000)

/-- The shrink estimate after a frame's measured shrink (R40). -/
def updateEstimate (est : Option Int) (shrink : Option Int) : Option Int :=
  match shrink with
  | none => est
  | some x =>
    if shrinkInRange x then
      match est with
      | none => some x
      | some e => some (e + (x - e).tdiv 8)
    else est

/-- The shrink recorded in the last measurement: clamped to −500 or 2000 (R40). -/
def recordedShrink (shrink : Option Int) : Option Int :=
  shrink.map fun x => max (-500) (min 2000 x)

/-- The perf-fault causes of a frame, in ascending order of code (R41). -/
def perfCauses (g : Gauge) (edges : List Nat) : List Cause :=
  (if edges.isEmpty then [.noEdges] else []) ++
  (if offsetIsClamped g edges then [.offsetClamped] else []) ++
  (if edges.length = 1 then [.tooFewEdges] else []) ++
  (if increasing edges then [] else [.edgesOutOfOrder]) ++
  (match measuredShrink g edges with
   | some x => if shrinkInRange x then [] else [.shrinkOutOfRange]
   | none => [])

/-! ### Opening a frame (R26 to R28) -/

/-- A frame sunk: the head goes to SINKING. -/
def State.sinkFrame (s : State) (h : Head) : State :=
  s.modHead h fun x => { x with assembly := .sinking }

/-- The cues at or below a frame number consumed, and the current grade replaced by that of the last of them (R109). -/
def Reel.consumeCues (x : Reel) (f : Nat) : Reel :=
  let taken := x.cues.takeWhile fun c => decide (c.frame ≤ f)
  { x with
    cues := x.cues.dropWhile fun c => decide (c.frame ≤ f)
    grade := match taken.getLast? with
      | some c => c.grade
      | none => x.grade }

/-- The reel record at the opening of frame `f` (R27): last opened, frames opened, RUNNING from MOUNTED, and the cues. -/
def Reel.opened (x : Reel) (f : Nat) : Reel :=
  let y : Reel := { x with
    lastOpened := some f
    counters := { x.counters with framesOpened := x.counters.framesOpened + 1 }
    state := if x.state = .mounted then .running else x.state }
  y.consumeCues f

/-- The buffer record as the intake writes it when a buffered frame takes the buffer (R28). -/
def Buffer.taken (x : Buffer) (r : Slot) (reel : Reel) (f : FrameHeadFields) (offset : Int) : Buffer :=
  { x with
    state := .filling
    slot := r
    record := reel.record
    frame := f.frame
    lines := f.lines
    width := f.width
    received := []
    badLines := 0
    runs := []
    overflow := false
    defective := 0
    repaired := 0
    unrepaired := 0
    offset := offset
    grade := reel.grade
    heavy := false
    successorHold := false
    neighbourHolds := 0
    lane := none
    delivery := .neverSent
    resolution := none
    repairTimer := none
    ackTimer := none }

/-- A buffered frame (R28): the buffer is taken and its record written, the offset and shrink are measured, the head goes to
ASSEMBLING, the pool compares its free count, and a latest frame that does not hold the frame numbered one below makes a
discarded next. -/
def State.bufferFrame (s : State) (h : Head) (r : Slot) (b : Buf) (f : FrameHeadFields) : State :=
  let reel := s.reels[r]
  let g := s.intake.gauges[reel.gauge]
  let offset := frameOffset g reel.lastOffset f.edges
  let shrink := measuredShrink g f.edges
  let causes := perfCauses g f.edges
  let s := s.modBuffer b fun x => x.taken r reel f offset
  let s := s.modReel r fun x =>
    { x with lastOffset := offset, shrinkEstimate := updateEstimate x.shrinkEstimate shrink }
  let s := s.modHead h fun x =>
    { x with
      assembly := .assembling b ⟨f.frame, f.lines, f.width, r, reel.policy.irThreshold, causes⟩
      lastMeasurement := some ⟨f.frame, r, offset, recordedShrink shrink, causes⟩ }
  let s := s.paceFall
  match s.reels[r].latest with
  | some p => if s.pool.buffers[p].frame + 1 = f.frame then s else s.discardedNext r
  | none => s

/-- The lowest-numbered FREE buffer (R48). -/
def State.freeBuffer (s : State) : Option Buf :=
  firstEntry (fun _ b => decide (b.state = .free)) s.pool.buffers

/-- An opened frame's path (R27): settle, oversize, lost or buffered, the first that applies. -/
def State.openedFrame (s : State) (h : Head) (r : Slot) (f : FrameHeadFields) : State :=
  let s := s.modReel r fun x => x.opened f.frame
  if 0 < s.reels[r].settleRemaining then
    let s := s.modReel r fun x =>
      { x with settleRemaining := x.settleRemaining - 1
               counters := { x.counters with discardedSettle := x.counters.discardedSettle + 1 } }
    (s.sinkFrame h).discardedNext r
  else if ¬ (1 ≤ f.lines ∧ f.lines ≤ Config.maxLines ∧ 1 ≤ f.width ∧ f.width ≤ Config.maxWidth) then
    let s := s.countReel r fun c => { c with discardedOversize := c.discardedOversize + 1 }
    (s.sinkFrame h).discardedNext r
  else
    match s.freeBuffer with
    | none =>
      let s := s.countReel r fun c => { c with framesLost := c.framesLost + 1 }
      let s := s.raise .frameLost r.val (some s.reels[r].record) f.frame
      (s.sinkFrame h).discardedNext r
    | some b => s.bufferFrame h r b f

/-- Whether a frame number is not above the last opened number of a reel (R26 test 3). -/
def Reel.isSequenceFault (x : Reel) (f : Nat) : Bool :=
  match x.lastOpened with
  | some n => decide (f ≤ n)
  | none => false

/-- The opening tests of a FRAME-HEAD that passed its check, on a head that is IDLE or SINKING (R26). -/
def State.openingTests (s : State) (h : Head) (f : FrameHeadFields) : State :=
  match s.boundSlot h with
  | none => (s.modHead h fun x => { x with orphanFrames := x.orphanFrames + 1 }).sinkFrame h
  | some r =>
    if s.reels[r].state = .held then
      (s.countReel r fun c => { c with discardedHeld := c.discardedHeld + 1 }).sinkFrame h
    else if s.reels[r].isSequenceFault f.frame then
      let s := s.countReel r fun c => { c with discardedSequence := c.discardedSequence + 1 }
      (s.raise .sequenceFault r.val (some s.reels[r].record) f.frame).sinkFrame h
    else s.openedFrame h r f

/-- A FRAME-HEAD that passed its check: a frame in hand is closed short first (R28). -/
def State.takeFrameHead (s : State) (h : Head) (f : FrameHeadFields) : State :=
  let s : State := match s.intake.heads[h].assembly with
    | .assembling b d => s.closeFrame h b d
    | _ => s
  s.openingTests h f

/-! ### Lines (R29, R30, R33) -/

/-- The frame in hand discarded as oversize on a LINE cell (R30): counted, the buffer discarded, the head SINKING, a discarded
next for the latest frame, and the deferred orders applied at this frame gap (R16). -/
def State.oversizeDiscard (s : State) (h : Head) (b : Buf) (d : FrameDesc) : State :=
  let s := s.countReel d.slot fun c => { c with discardedOversize := c.discardedOversize + 1 }
  let s := s.discard b
  let s := s.sinkFrame h
  let s := s.discardedNext d.slot
  s.applyDeferredOrders d.slot

/-- A LINE cell on a head that is ASSEMBLING (R29): the first test that applies decides. -/
def State.takeLine (s : State) (h : Head) (b : Buf) (d : FrameDesc) (passed : Bool) (payload : List Byte) : State :=
  let l := readLineIndex payload
  if d.lines ≤ l then
    if passed then s.oversizeDiscard h b d else s.headCheckFailure h 0
  else if l ∈ s.pool.buffers[b].received then
    let s := s.modHead h fun x => { x with duplicateLines := x.duplicateLines + 1 }
    if passed then s else s.headCheckFailure h 0
  else if passed = false then (s.takeBadLine b l).headCheckFailure h 1
  else if fieldAt payload 2 2 ≠ d.width then s.takeBadLine b l
  else s.takeGoodLine b d.irThreshold l (readSamples (payload.drop 4))

/-- A LINE cell on a head that is IDLE or SINKING: sunk, and a failed check counted as well (R33). -/
def State.strayLine (s : State) (h : Head) (passed : Bool) : State :=
  let s := s.headSink h
  if passed then s else s.headCheckFailure h 0

/-- A FRAME-END cell that passed its check (R31, R33). -/
def State.takeFrameEnd (s : State) (h : Head) : State :=
  match s.intake.heads[h].assembly with
  | .assembling b d => s.closeFrame h b d
  | _ => (s.modHead h fun x => { x with assembly := .idle }).headSink h

/-- A REEL-END cell that passed its check (R19, R32): the frame in hand closed short, the head IDLE, and the bound reel, if
there is one, to DRAINING. -/
def State.takeReelEnd (s : State) (h : Head) : State :=
  let s := s.endAssembly h
  match s.boundSlot h with
  | some r => s.enterDraining r .reelEnd
  | none => s.headSink h

end Sys2Proof.Machine
end

