-- ==== Sys2Proof/Machine/ReceiveOps.lean ====
section
/-! DEFINITION. What a port does with a whole cell it receives, by kind (R25, R130, R138, R176, R179). -/

namespace Sys2Proof.Machine

/-- A cell that arrives on a port with the given effects. A cell reaches a block only while the port's link is UP (R136,
R174); on a DOWN port the event does not occur (log entry 3). -/
def State.arrival (s : State) (p : Port) (effects : State) : Host.Outcome State Fault Refusal :=
  if s.isUp p then effects.finish else .next s

/-! ### Head ports -/

/-- A FRAME-HEAD cell on a head port (R25, R26). -/
def State.onFrameHead (s : State) (h : Head) (c : RxCell) : State :=
  if passesCheck kindFrameHead c then s.takeFrameHead h (readFrameHead c.payload) else s.headCheckFailure h 0

/-- A LINE cell on a head port (R29, R33). -/
def State.onLine (s : State) (h : Head) (c : RxCell) : State :=
  match s.intake.heads[h].assembly with
  | .assembling b d => s.takeLine h b d (passesCheck kindLine c) c.payload
  | _ => s.strayLine h (passesCheck kindLine c)

/-- A FRAME-END cell on a head port (R25, R31, R33). -/
def State.onFrameEnd (s : State) (h : Head) (c : RxCell) : State :=
  if passesCheck kindFrameEnd c then s.takeFrameEnd h else s.headCheckFailure h 0

/-- A REEL-END cell on a head port (R25, R32). -/
def State.onReelEnd (s : State) (h : Head) (c : RxCell) : State :=
  if passesCheck kindReelEnd c then s.takeReelEnd h else s.headCheckFailure h 0

/-! ### Port S -/

/-- The buffer a STORE-ACK matches: one in AWAIT_ACK with the catalogue index and frame number it names (R138). -/
def State.ackMatch (s : State) (record frame : Nat) : Option Buf :=
  firstEntry (fun _ b => decide (b.state = .awaitAck ∧ b.record.val = record ∧ b.frame = frame)) s.pool.buffers

/-- A buffer's delivery resolved at the store (R138, R139): its ack timer is gone, and the release test is made. -/
def State.resolve (s : State) (b : Buf) (how : Resolution) : State :=
  (s.modBuffer b fun x => { x with delivery := .resolved, resolution := some how, ackTimer := none }).releaseTest b

/-- A STORE-ACK that passed its check (R138). -/
def State.takeStoreAck (s : State) (p : List Byte) : State :=
  match s.ackMatch (fieldAt p 1 2) (fieldAt p 3 3) with
  | none => { s with delivery := { s.delivery with staleAcks := s.delivery.staleAcks + 1 } }
  | some b =>
    let s := s.countReel s.pool.buffers[b].slot fun c => { c with framesAcknowledged := c.framesAcknowledged + 1 }
    s.resolve b .acknowledged

/-- Credits added to a lane, held at 15, and the arbiter's search (R130). -/
def State.addCredit (s : State) (l : Lane) (n : Nat) : State :=
  let s : State := { s with delivery := { s.delivery with
    credits := modEntry s.delivery.credits l fun c => min Config.maxCredit (c + n) } }
  s.arbiterSearch

/-- A STORE-ACK cell on port S (R138, R176). -/
def State.onStoreAck (s : State) (c : RxCell) : State :=
  if passesCheckOnS kindStoreAck c then s.takeStoreAck c.payload else s.storeCheckFailure

/-- A CREDIT cell on port S (R130, R176). -/
def State.onCredit (s : State) (c : RxCell) : State :=
  if passesCheckOnS kindCredit c then s.addCredit (Fin.ofNat 4 (fieldAt c.payload 0 1)) (fieldAt c.payload 1 1)
  else s.storeCheckFailure

/-! ### Any port -/

/-- A cell that fails its check on a port (R25, R176). -/
def State.onCheckFailure (s : State) (p : Port) : State :=
  match headOf p with
  | some h => s.headCheckFailure h 0
  | none => s.storeCheckFailure

/-- A cell sunk on a port (R25, R176). -/
def State.onSunk (s : State) (p : Port) : State :=
  match headOf p with
  | some h => s.headSink h
  | none => s.storeSink

/-- An order that reaches a port (R179): it joins the order queue, or is answered OVERFLOW, counted and reported when the
queue already holds 4. -/
def State.queueOrder (s : State) (p : Port) (o : Order) : State :=
  if s.links.ports[p].orders.length < Config.maxOrders then
    s.modPort p fun q => { q with orders := q.orders ++ [o] }
  else
    let s := s.formReply p o.tag o.code .overflow []
    let s := s.modPort p fun q => { q with overflow := q.overflow + 1 }
    s.raise .orderOverflow 0 none p.val

/-- An ORDER cell on a port (R25, R176, R179). -/
def State.onOrder (s : State) (p : Port) (c : RxCell) : State :=
  if passesCheck kindOrder c then s.queueOrder p (readOrder c.payload) else s.onCheckFailure p

/-- A cell of a kind not handled on its port, or of an unknown code (R25, R176). -/
def State.onOtherKind (s : State) (p : Port) (kind : Byte) (c : RxCell) : State :=
  if passesCheck kind c then s.onSunk p else s.onCheckFailure p

/-- Any cell on any port, handled by the port and by its kind as the kind field reads (the table of R176). -/
def State.onCell (s : State) (p : Port) (kind : Byte) (c : RxCell) : State :=
  if kind = kindOrder then s.onOrder p c
  else
    match headOf p with
    | some h =>
      if kind = kindFrameHead then s.onFrameHead h c
      else if kind = kindLine then s.onLine h c
      else if kind = kindFrameEnd then s.onFrameEnd h c
      else if kind = kindReelEnd then s.onReelEnd h c
      else s.onOtherKind p kind c
    | none =>
      if kind = kindStoreAck then s.onStoreAck c
      else if kind = kindCredit then s.onCredit c
      else s.onOtherKind p kind c

end Sys2Proof.Machine
end

