-- ==== Sys2Proof/Machine/CellArrivals.lean ====
section
/-! DEFINITION. The meanings of the commands by which a whole cell arrives on a port. -/

namespace Sys2Proof.Machine

/-- FRAME_HEAD (R26): the opening tests, after a frame in hand is closed short. -/
def execFrameHead (h : Head) (c : RxCell) (s : State) : Host.Outcome State Fault Refusal :=
  s.arrival (headPort h) (s.onFrameHead h c)

/-- LINE (R29): a good line, a bad line, a duplicate, an oversize frame, or a sunk cell. -/
def execLine (h : Head) (c : RxCell) (s : State) : Host.Outcome State Fault Refusal :=
  s.arrival (headPort h) (s.onLine h c)

/-- FRAME_END (R31): the frame in hand ends at its frame gap, sinking ends, or the cell is a stray. -/
def execFrameEnd (h : Head) (c : RxCell) (s : State) : Host.Outcome State Fault Refusal :=
  s.arrival (headPort h) (s.onFrameEnd h c)

/-- REEL_END (R32): any frame in hand is closed short and the bound reel enters DRAINING. -/
def execReelEnd (h : Head) (c : RxCell) (s : State) : Host.Outcome State Fault Refusal :=
  s.arrival (headPort h) (s.onReelEnd h c)

/-- STORE_ACK (R138): the matching buffer is resolved, or the acknowledgement is stale. -/
def execStoreAck (c : RxCell) (s : State) : Host.Outcome State Fault Refusal :=
  s.arrival portS (s.onStoreAck c)

/-- CREDIT (R130): credits are added to a lane and the arbiter searches. -/
def execCredit (c : RxCell) (s : State) : Host.Outcome State Fault Refusal :=
  s.arrival portS (s.onCredit c)

/-- ORDER (R179): the order joins the port's queue, or is answered OVERFLOW. -/
def execOrder (p : Port) (c : RxCell) (s : State) : Host.Outcome State Fault Refusal :=
  s.arrival p (s.onOrder p c)

/-- OTHER_KIND_CELL (R176): the cell is sunk and counted. A kind that its port does handle is handled as R176 gives. -/
def execOtherKindCell (p : Port) (kind : Byte) (c : RxCell) (s : State) : Host.Outcome State Fault Refusal :=
  s.arrival p (s.onCell p kind c)

end Sys2Proof.Machine
end

