-- ==== Sys2Proof/Machine/ResetOps.lean ====
section
/-! DEFINITION. The resets: power-on and SOFT-RESET, and the emptying of a port at the loss of its link (R174, R183 and the
reset rules of every chapter). -/

namespace Sys2Proof.Machine

/-- The state after the release of the reset input: the power-on state of every block (R174). The regions of the stacked DRAM
are not cleared (R45), and a repair that was in the engine is abandoned. The cells already sent and the commands
that wait are not the part's own state. -/
def State.powerOn (s : State) : State :=
  let a := s.abandonRepair
  { State.reset with
    pool := { State.reset.pool with dram := a.pool.dram }
    wire := s.wire
    abandoned := a.abandoned
    pending := s.pending }

/-- A catalogue record after SOFT-RESET (R152): a record ON_HEAD becomes OUT with last close reason RESET. -/
def Record.softReset (x : Record) : Record :=
  if x.state = .onHead then { x with state := .out, lastReason := some .reset } else x

/-- Whether a management cell is a REPLY. -/
def MgmtCell.isReply : MgmtCell → Bool
  | .reply .. => true
  | .notice .. => false

/-- A port after SOFT-RESET (R183): a NOTICE waiting in its transmit list is removed and its counters are 0. -/
def PortState.softReset (q : PortState) : PortState :=
  { q with transmit := q.transmit.filter MgmtCell.isReply, dropped := 0, overflow := 0 }

/-- The effects of SOFT-RESET on every block (R3, R24, R34, R61, R74, R94, R95, R98, R126, R142, R152, R159, R164, R183,
R186). -/
def State.softReset (s : State) : State :=
  let s := s.abandonRepair
  { s with
    reels := Vector.replicate 8 {}
    intake := { s.intake with heads := Vector.replicate 4 {} }
    pool := { s.pool with buffers := Vector.replicate 32 {}, pacing := .open_ }
    repair := { s.repair with queue := [], engine := none }
    delivery := { s.delivery with
      queues := Vector.replicate 4 []
      credits := Vector.replicate 4 0
      lastServed := 3
      transmitter := .idle
      staleAcks := 0
      cutSends := 0 }
    catalogue := mapEntries (fun _ x => x.softReset) s.catalogue
    shelf := { s.shelf with waitList := [] }
    notices := { s.notices with waiting := [], inFlight := none }
    links := { s.links with
      ports := mapEntries (fun _ q => q.softReset) s.links.ports
      checkFailuresS := 0
      sunkCellsS := 0
      boundaryUsed := false }
    lastPort := portS }

/-- A port emptied at the loss of its link (R174): its orders are discarded, every cell waiting in its transmit list or among
its flow cells is dropped and counted, and a notice in flight on it goes back to pending. -/
def State.emptyPort (s : State) (p : Port) : State :=
  (s.modPort p fun q =>
    { q with
      orders := []
      transmit := []
      flow := []
      dropped := q.dropped + BitVec.ofNat 32 (q.transmit.length + q.flow.length) }).returnNotice p

/-- The link of a port in a new state (R174). -/
def State.setLink (s : State) (p : Port) (l : Link) : State := s.modPort p fun q => { q with link := l }

end Sys2Proof.Machine
end

