-- ==== Sys2Proof/Machine/ControlOrders.lean ====
section
/-! DEFINITION. The orders of the part as a whole: IDENTIFY, SOFT-RESET, SET-NOTICE-LEVELS and SET-NOTICE-PORT (R182, R183,
R186). -/

namespace Sys2Proof.Machine

/-! ### IDENTIFY (R182) -/

/-- The capacities of the introduction, in the order of its table. -/
def capacityWords : List Word :=
  [4, 1, 8, 32, 3072, 4096, 4, 8192, 4, 16, 8, 257, 32, 32, 4, 15, 512, 1024, 16, 4]

/-- The five ports, in order. -/
def allPorts : List Port := [0, 1, 2, 3, 4]

/-- The results of IDENTIFY (R182). -/
def State.identityReply (s : State) : List Word :=
  [2731, 412, 3] ++ capacityWords ++
  allPorts.flatMap (fun p => [natWord s.links.ports[p].link.place, s.links.ports[p].overflow, s.links.ports[p].dropped]) ++
  [s.links.checkFailuresS, s.links.sunkCellsS]

/-- IDENTIFY. -/
def applyIdentify (s : State) (o : Order) : OrderEffect :=
  match o.args with
  | [] => (s, .done, s.identityReply)
  | _ => s.refuse .badOrder

/-- IDENTIFY (R182). -/
def execIdentify (s : State) : Host.Outcome State Fault Refusal := s.takeOrder (hasCode 32) applyIdentify

/-! ### SOFT-RESET (R183) -/

/-- SOFT-RESET. The reply is formed after every effect of the reset. -/
def applySoftReset (s : State) (o : Order) : OrderEffect :=
  match o.args with
  | [] => (s.softReset, .done, [])
  | _ => s.refuse .badOrder

/-- SOFT_RESET (R183). -/
def execSoftReset (s : State) : Host.Outcome State Fault Refusal := s.takeOrder (hasCode 33) applySoftReset

/-! ### SET-NOTICE-LEVELS (R186) -/

/-- A list of 17 levels as the table of levels; none of another length. -/
def levelTable (l : List Nat) : Option (Vector Nat 17) :=
  if h : l.length = 17 then some ⟨l.toArray, by simpa using h⟩ else none

/-- The argument words of SET-NOTICE-LEVELS: the mask and the 17 levels. -/
def noticeArgs : List Word → Args (Nat × Vector Nat 17)
  | mask :: levels =>
    if levels.length = 17 then .ofRange do
      let mask ← argRange 0 3 mask
      let levels ← levels.mapM (argRange 0 3)
      return (mask, ← levelTable levels)
    else .badOrder
  | _ => .badOrder

/-- The mask and the levels replaced. -/
def State.putLevels (s : State) (a : Nat × Vector Nat 17) : State :=
  { s with notices := { s.notices with mask := a.1, levels := a.2 } }

/-- The notice unit as result words: the mask, the levels, the number of pending notices and whether one is in flight, as
1 or 0 (R186; log entry 11). -/
def noticeWords (u : NoticeUnit) : List Word :=
  natWord u.mask :: u.levels.toList.map natWord ++ [natWord u.waiting.length, flagWord u.inFlight.isSome]

/-- SET-NOTICE-LEVELS. -/
def applySetNoticeLevels (s : State) (o : Order) : OrderEffect :=
  s.withArgs (noticeArgs o.args) fun a => (s.putLevels a, .done, noticeWords (s.putLevels a).notices)

/-- SET_NOTICE_LEVELS (R186). -/
def execSetNoticeLevels (s : State) : Host.Outcome State Fault Refusal := s.takeOrder (hasCode 34) applySetNoticeLevels

/-! ### SET-NOTICE-PORT (R186) -/

/-- The argument words of SET-NOTICE-PORT. -/
def portArgs : List Word → Args Port
  | [p] => .ofRange (argFin 5 p)
  | _ => .badOrder

/-- The notice port replaced. -/
def State.putNoticePort (s : State) (p : Port) : State := { s with notices := { s.notices with port := p } }

/-- SET-NOTICE-PORT. -/
def applySetNoticePort (s : State) (o : Order) : OrderEffect :=
  s.withArgs (portArgs o.args) fun p => (s.putNoticePort p, .done, [])

/-- SET_NOTICE_PORT (R186). -/
def execSetNoticePort (s : State) : Host.Outcome State Fault Refusal := s.takeOrder (hasCode 35) applySetNoticePort

end Sys2Proof.Machine
end

