-- ==== Sys2Proof/Machine/Grading.lean ====
section
/-! DEFINITION. The grading transform: registration on output, the five stages and the dither pattern (R114 to R123). -/

namespace Sys2Proof.Machine

/-- The effective black level: black offset plus 64 times the trim, limited to 0–65535 (R117). -/
def effectiveBlack (black : Channel) (trim : Int) : Nat :=
  (max 0 (min 65535 ((black.toNat : Int) + 64 * trim))).toNat

/-- The black stage (R117). -/
def blackStage (x black : Channel) (trim : Int) : Nat := x.toNat - effectiveBlack black trim

/-- The gain stage (R118). -/
def gainStage (a : Nat) (gain : Channel) : Nat := min 65535 ((a * gain.toNat + 2048) / 4096)

/-- Curve point `i` as a number; a curve has the points 0 to 256 (R97). -/
def curvePoint (curve : Vector Channel 257) (i : Nat) : Nat := (curve.toList.getD i 0).toNat

/-- The curve stage: interpolation in segment g div 256, rounded down toward minus infinity (R119). -/
def curveStage (g : Nat) (curve : Vector Channel 257) : Nat :=
  let i := g / 256
  let f := g % 256
  let d : Int := (curvePoint curve (i + 1) : Int) - curvePoint curve i
  ((curvePoint curve i : Int) + (d * f + 128).fdiv 256).toNat

/-- The bits dropped at an output depth: s = 16 − D (R120). -/
def Depth.dropped (d : Depth) : Nat := 16 - d.bits

/-- The part of a curve-stage value kept at an output depth (R120). -/
def keptPart (y : Nat) (d : Depth) : Nat := y / 2 ^ d.dropped

/-- The remainder dropped at an output depth (R120). -/
def droppedPart (y : Nat) (d : Depth) : Nat := y % 2 ^ d.dropped

/-- The top code of an output depth (R120). -/
def Depth.topCode (d : Depth) : Nat := 2 ^ d.bits - 1

/-- The rank of an output sample at line `k`, sample `j` (R121). -/
def tileRank (k j : Nat) : Nat :=
  let w := k % 8
  let v := (j % 8) ^^^ w
  let bit (n i : Nat) := n / 2 ^ i % 2
  32 * bit v 0 + 16 * bit w 0 + 8 * bit v 1 + 4 * bit w 1 + 2 * bit v 2 + bit w 2

/-- The dither stage (R122). -/
def ditherStage (y : Nat) (depth : Depth) (dither : Bool) (rank : Nat) : Nat :=
  let q := keptPart y depth
  if dither = true ∧ depth ≠ .d16 ∧ rank < droppedPart y depth * 2 ^ (6 - depth.dropped) ∧ q < depth.topCode then q + 1
  else q

/-- One channel of one sample through the five stages (R116), for the output position (k, j). -/
def gradeChannel (x : Channel) (c : ChannelProfile) (trim : Int) (depth : Depth) (dither : Bool) (k j : Nat) : Nat :=
  ditherStage (curveStage (gainStage (blackStage x c.black trim) c.gain) c.curve) depth dither (tileRank k j)

/-- One sample graded, for the output position (k, j) (R116). -/
def gradeSample (x : Sample) (p : Profile) (g : Grade) (k j : Nat) : OutSample :=
  { r := gradeChannel x.r p.channels[0] g.trimR p.depth p.dither k j
    g := gradeChannel x.g p.channels[1] g.trimG p.depth p.dither k j
    b := gradeChannel x.b p.channels[2] g.trimB p.depth p.dither k j }

/-- Output line `k` of a frame: source line k + off graded, or a pad line where that lies outside the frame (R114,
R115). -/
def outputLine (b : Buffer) (m : Memory) (p : Profile) (k : Nat) : List OutSample :=
  let src : Int := (k : Int) + b.offset
  if 0 ≤ src ∧ src < b.lines then
    (List.range b.width).map fun j => gradeSample (m.read (sampleAddress src.toNat j)) p b.grade k j
  else List.replicate b.width ⟨0, 0, 0⟩

end Sys2Proof.Machine
end

