-- ==== Sys2Proof/Machine/Events.lean ====
section
/-! DEFINITION. The meanings of the events of the part's own running work: timers, the repair engine, the transmitter and the
sending of cells. An event that cannot occur in the state (a timer that is not running, an engine that is IDLE, a
cell that is not due) changes nothing (log entry 3). -/

namespace Sys2Proof.Machine

/-! ### Timers -/

/-- REPAIR_WAIT_TIMER_EXPIRY (R78): the repair of the PENDING frame is requested with no next frame. A timer that was cancelled
does not expire. -/
def execRepairWaitTimerExpiry (b : Buf) (s : State) : Host.Outcome State Fault Refusal :=
  if s.pool.buffers[b].state = .pending ∧ s.pool.buffers[b].repairTimer.isSome = true then (s.requestRepair b none).finish
  else .next s

/-- The effects of the expiry of an ack timer (R139). -/
def State.ackExpiry (s : State) (b : Buf) : State :=
  let buf := s.pool.buffers[b]
  let s := s.countReel buf.slot fun c => { c with framesTimedOut := c.framesTimedOut + 1 }
  let s := s.raise .storeTimeout buf.slot.val (some buf.record) buf.frame
  s.resolve b .timedOut

/-- ACK_TIMER_EXPIRY (R139): the frame is resolved as TIMED_OUT. A timer that was cancelled does not expire. -/
def execAckTimerExpiry (b : Buf) (s : State) : Host.Outcome State Fault Refusal :=
  if s.pool.buffers[b].state = .awaitAck ∧ s.pool.buffers[b].ackTimer.isSome = true then (s.ackExpiry b).finish
  else .next s

/-! ### The repair engine -/

/-- Step 1 of a completion (R92), with the values of the repair written into the buffer (R85). -/
def State.writeRepair (s : State) (job : RepairJob) : State :=
  let b := job.request.buf
  let fills := s.repairFills job
  let s := s.modMemory b fun m => fills.foldl Memory.fill m
  let s := s.modBuffer b fun x => { x with repaired := repairedCount fills, unrepaired := unrepairedCount fills }
  s.countReel s.pool.buffers[b].slot fun c =>
    { c with
      repairedSamples := c.repairedSamples + BitVec.ofNat 64 (repairedCount fills)
      unrepairedSamples := c.unrepairedSamples + BitVec.ofNat 64 (unrepairedCount fills) }

/-- The completion of the repair in the engine (R92). -/
def State.completeRepair (s : State) (job : RepairJob) : State :=
  let b := job.request.buf
  let s := s.writeRepair job
  let s := s.releaseNeighbours job.request
  let s : State := if job.aborted then s.abortFrame s.pool.buffers[b].slot b else s.joinLane b
  let s : State := { s with repair := { s.repair with engine := none } }
  s.engineTake

/-- REPAIR_COMPLETION (R92). -/
def execRepairCompletion (s : State) : Host.Outcome State Fault Refusal :=
  match s.repair.engine with
  | none => .next s
  | some job => (s.completeRepair job).finish

/-! ### The transmitter -/

/-- Whether a frame is being sent on port S: some of its OUT-LINE cells are still to go (R177). -/
def State.midSend (s : State) : Bool :=
  match s.delivery.transmitter with
  | .idle => false
  | .sending b k => decide (k < s.pool.buffers[b].lines)

/-- Whether the part may send on a port: its link is UP and the reset input is not held low (R177, section 11.8). -/
def State.maySend (s : State) (p : Port) : Bool := s.isUp p && !s.resetLow

/-- The next OUT-LINE cell sent (R134). -/
def State.sendLine (s : State) (b : Buf) (k : Nat) : State :=
  let buf := s.pool.buffers[b]
  let payload := outLinePayload k (outputLine buf s.pool.dram[b] s.profiles[buf.grade.profile] k)
  let s : State := { s with
    delivery := { s.delivery with transmitter := .sending b (k + 1) }
    links := { s.links with boundaryUsed := false } }
  s.sendCell portS kindOutLine payload

/-- OUT_LINE (R134): the next OUT-LINE cell goes out, unless all have gone. A management cell waiting at the boundary goes
first, and one only (R177). -/
def execOutLine (s : State) : Host.Outcome State Fault Refusal :=
  match s.delivery.transmitter with
  | .idle => .next s
  | .sending b k =>
    if k < s.pool.buffers[b].lines ∧ s.maySend portS = true ∧
        (s.links.ports[portS].transmit.isEmpty || s.links.boundaryUsed) = true then (s.sendLine b k).finish
    else .next s

/-- The completion of a send (R135): the buffer waits for its acknowledgement with its ack timer started, the transmitter
becomes IDLE, and the arbiter searches. -/
def State.completeSend (s : State) (b : Buf) : State :=
  let s := s.modBuffer b fun x =>
    { x with state := .awaitAck, delivery := .awaitingAck, ackTimer := some s.delivery.ackWait }
  let s : State := { s with delivery := { s.delivery with transmitter := .idle } }
  s.arbiterSearch

/-- SEND_COMPLETION (R135): the last OUT-LINE cell of the frame has gone. -/
def execSendCompletion (s : State) : Host.Outcome State Fault Refusal :=
  match s.delivery.transmitter with
  | .idle => .next s
  | .sending b k => if s.pool.buffers[b].lines ≤ k then (s.completeSend b).finish else .next s

/-! ### The sending of management and flow cells -/

/-- Whether a management cell may go out at the cell boundary a port stands at: the part may send on it, no flow cell is due,
and at a boundary of a frame being sent on S none has gone yet (R177). -/
def State.mgmtMayGo (s : State) (p : Port) : Bool :=
  s.maySend p && s.links.ports[p].flow.isEmpty && !(decide (p = portS) && s.midSend && s.links.boundaryUsed)

/-- The management cell at the head of a port's transmit list sent (R177). -/
def State.sendMgmt (s : State) (p : Port) (c : MgmtCell) : State :=
  let s : State := { s with links := { s.links with
    boundaryUsed := s.links.boundaryUsed || (decide (p = portS) && s.midSend) } }
  let s := s.modPort p fun q => { q with transmit := q.transmit.drop 1 }
  s.sendCell p c.kind c.payload

/-- REPLY_SENT (R177): the REPLY at the head of a port's transmit list is sent. -/
def execReplySent (p : Port) (s : State) : Host.Outcome State Fault Refusal :=
  match s.links.ports[p].transmit with
  | .reply tag code status results :: _ =>
    if s.mgmtMayGo p then (s.sendMgmt p (.reply tag code status results)).finish else .next s
  | _ => .next s

/-- The NOTICE cell in flight sent from the head of a port's transmit list; the notice in flight is cleared (R185). -/
def State.sendNotice (s : State) (p : Port) (c : MgmtCell) : State :=
  let s := s.sendMgmt p c
  { s with notices := { s.notices with inFlight := none } }

/-- NOTICE_SENT (R185): the NOTICE cell in flight is sent, and the unit looks for the next notice. -/
def execNoticeSent (s : State) : Host.Outcome State Fault Refusal :=
  match s.notices.inFlight with
  | none => .next s
  | some f =>
    match s.links.ports[f.port].transmit with
    | .notice n level :: _ =>
      if s.mgmtMayGo f.port then (s.sendNotice f.port (.notice n level)).finish else .next s
    | _ => .next s

/-- FLOW_CELL_SENT (R177): the flow cell formed first on a head port is sent. -/
def execFlowCellSent (h : Head) (s : State) : Host.Outcome State Fault Refusal :=
  match s.links.ports[headPort h].flow with
  | [] => .next s
  | c :: _ =>
    if s.maySend (headPort h) then
      let s := s.modPort (headPort h) fun q => { q with flow := q.flow.drop 1 }
      (s.sendCell (headPort h) c.kind []).finish
    else .next s

end Sys2Proof.Machine
end

