-- ==== Sys2Proof/Machine/GradeOrders.lean ====
section
/-! DEFINITION. The orders on a reel's current grade and cue list: SET-REEL-GRADE, SET-CUE and CLEAR-CUES (R104 to R108). -/

namespace Sys2Proof.Machine

/-! ### SET-REEL-GRADE (R105) -/

/-- The argument words of SET-REEL-GRADE. -/
def reelGradeArgs : List Word → Args (Slot × Grade)
  | [r, p, tr, tg, tb] => .ofRange do return (← argFin 8 r, ← argGrade p tr tg tb)
  | _ => .badOrder

/-- SET-REEL-GRADE on a slot (R105). -/
def State.gradeOrder (s : State) (a : Slot × Grade) : OrderEffect :=
  match s.reels[a.1].state with
  | .mounted | .running | .held => (s.modReel a.1 fun x => { x with grade := a.2 }, .done, gradeWords a.2)
  | .draining | .closed | .free => s.refuse .wrongState

/-- SET-REEL-GRADE. -/
def applySetReelGrade (s : State) (o : Order) : OrderEffect := s.withArgs (reelGradeArgs o.args) s.gradeOrder

/-- SET_REEL_GRADE (R105). -/
def execSetReelGrade (s : State) : Host.Outcome State Fault Refusal := s.takeOrder (hasCode 16) applySetReelGrade

/-! ### SET-CUE (R106, R107) -/

/-- The argument words of SET-CUE. -/
def cueArgs : List Word → Args (Slot × Cue)
  | [r, f, p, tr, tg, tb] => .ofRange do return (← argFin 8 r, ⟨← argRange 0 16777215 f, ← argGrade p tr tg tb⟩)
  | _ => .badOrder

/-- Whether a cue list holds a cue for a frame. -/
def hasCue (cues : List Cue) (f : Nat) : Bool := cues.any fun c => decide (c.frame = f)

/-- A cue set in an ascending cue list: in the place of the cue of its frame, or inserted at its place (R107). -/
def placeCue (c : Cue) : List Cue → List Cue
  | [] => [c]
  | d :: rest => if c.frame = d.frame then c :: rest else if c.frame < d.frame then c :: d :: rest else d :: placeCue c rest

/-- Whether a cue comes too late for a reel: its frame number is not above the last opened (R107). -/
def Reel.isLate (x : Reel) (f : Nat) : Bool :=
  match x.lastOpened with
  | some n => decide (f ≤ n)
  | none => false

/-- SET-CUE on a slot in MOUNTED, RUNNING or HELD (R107). The reply tells 0 for a cue added and 1 for one replaced. -/
def State.placeCueOn (s : State) (r : Slot) (c : Cue) : OrderEffect :=
  let x := s.reels[r]
  if x.isLate c.frame then s.refuse .late
  else if hasCue x.cues c.frame = false ∧ Config.maxCues ≤ x.cues.length then s.refuse .full
  else
    (s.modReel r fun y => { y with cues := placeCue c y.cues }, .done,
      [natWord (placeCue c x.cues).length, flagWord (hasCue x.cues c.frame)])

/-- SET-CUE after the tests of R181. -/
def State.cueOrder (s : State) (a : Slot × Cue) : OrderEffect :=
  match s.reels[a.1].state with
  | .mounted | .running | .held => s.placeCueOn a.1 a.2
  | .draining | .closed | .free => s.refuse .wrongState

/-- SET-CUE. -/
def applySetCue (s : State) (o : Order) : OrderEffect := s.withArgs (cueArgs o.args) s.cueOrder

/-- SET_CUE (R107). -/
def execSetCue (s : State) : Host.Outcome State Fault Refusal := s.takeOrder (hasCode 17) applySetCue

/-! ### CLEAR-CUES (R108) -/

/-- The argument words of CLEAR-CUES. -/
def clearArgs : List Word → Args Slot
  | [r] => .ofRange (argFin 8 r)
  | _ => .badOrder

/-- CLEAR-CUES on a slot (R108). -/
def State.clearOrder (s : State) (r : Slot) : OrderEffect :=
  match s.reels[r].state with
  | .mounted | .running | .held => (s.modReel r fun x => { x with cues := [] }, .done, [natWord s.reels[r].cues.length])
  | .draining | .closed | .free => s.refuse .wrongState

/-- CLEAR-CUES. -/
def applyClearCues (s : State) (o : Order) : OrderEffect := s.withArgs (clearArgs o.args) s.clearOrder

/-- CLEAR_CUES (R108). -/
def execClearCues (s : State) : Host.Outcome State Fault Refusal := s.takeOrder (hasCode 18) applyClearCues

end Sys2Proof.Machine
end

