-- ==== Sys2Proof/Machine/IntakeOrders.lean ====
section
/-! DEFINITION. The frame intake's orders: SET-GAUGE and READ-HEAD (R35, R44). -/

namespace Sys2Proof.Machine

/-! ### SET-GAUGE (R35) -/

/-- A nominal pitch: 256 to 65535, or 0 for an undefined entry (R34). -/
def argPitch (w : Word) : Option Nat := if w = 0 then some 0 else argRange 256 65535 w

/-- The argument words of SET-GAUGE as the new entry; none when the pitch, anchor or range is refused (R35). -/
def argGauge (pitch anchor range : Word) : Option Gauge := do
  return ⟨← argPitch pitch, ← argRange 0 65535 anchor, ← argRange 0 64 range⟩

/-- A gauge table entry as result words. -/
def gaugeWords (g : Gauge) : List Word := [natWord g.pitch, natWord g.anchor, natWord g.range]

/-- Whether a reel in a state uses its gauge and its grade's profile: MOUNTED, RUNNING, HELD or DRAINING (R34, R99). -/
def ReelState.inUse : ReelState → Bool
  | .mounted | .running | .held | .draining => true
  | .free | .closed => false

/-- Whether a reel uses a gauge (R35). -/
def State.gaugeInUse (s : State) (g : GaugeCode) : Bool :=
  s.reels.toList.any fun r => r.state.inUse && decide (r.gauge = g)

/-- A gauge table entry replaced. -/
def State.putGauge (s : State) (g : GaugeCode) (e : Gauge) : State :=
  { s with intake := { s.intake with gauges := modEntry s.intake.gauges g fun _ => e } }

/-- SET-GAUGE with the right number of words. Every reply reports the entry as the order left it, where the gauge code names
one. -/
def State.gaugeOrder (s : State) (code : Option GaugeCode) (entry : Option Gauge) : OrderEffect :=
  match code, entry with
  | none, _ => s.refuse .badArgument
  | some g, none => (s, .badArgument, gaugeWords s.intake.gauges[g])
  | some g, some e =>
    if s.gaugeInUse g then (s, .inUse, gaugeWords s.intake.gauges[g]) else (s.putGauge g e, .done, gaugeWords e)

/-- SET-GAUGE. -/
def applySetGauge (s : State) (o : Order) : OrderEffect :=
  match o.args with
  | [g, pitch, anchor, range] => s.gaugeOrder (argFin 4 g) (argGauge pitch anchor range)
  | _ => s.refuse .badOrder

/-- SET_GAUGE (R35). -/
def execSetGauge (s : State) : Host.Outcome State Fault Refusal := s.takeOrder (hasCode 7) applySetGauge

/-! ### READ-HEAD (R44) -/

/-- The argument words of READ-HEAD. -/
def headArgs : List Word → Args Head
  | [h] => .ofRange (argFin 4 h)
  | _ => .badOrder

/-- The place of an assembly state in R24. -/
def Assembly.place : Assembly → Nat
  | .idle => 0
  | .assembling _ _ => 1
  | .sinking => 2

/-- The frame in hand as result words (R44); none when the head is not ASSEMBLING. -/
def State.frameInHandWords (s : State) : Assembly → List Word
  | .assembling b d =>
    [natWord b.val, natWord d.frame, natWord d.lines, natWord d.width, natWord s.pool.buffers[b].received.length]
  | _ => []

/-- A measurement as result words. -/
def measurementWords (m : Measurement) : List Word :=
  [natWord m.frame, natWord m.slot.val, intWord m.offset] ++ optionWords (m.shrink.map intWord) ++
    listWords (fun c => [natWord c.code]) m.causes

/-- The last measurement as result words: 1 and its fields, or 0 and every field 0. -/
def lastMeasurementWords : Option Measurement → List Word
  | some m => 1 :: measurementWords m
  | none => 0 :: measurementWords ⟨0, 0, 0, none, []⟩

/-- The results of READ-HEAD (R44). -/
def State.headWords (s : State) (h : Head) : List Word :=
  let x := s.intake.heads[h]
  [natWord s.links.ports[headPort h].link.place, natWord x.assembly.place] ++
  optionWords ((s.boundSlot h).map fun r => natWord r.val) ++ s.frameInHandWords x.assembly ++
  [x.checkFailures, x.orphanFrames, x.duplicateLines, x.sunkCells] ++
  lastMeasurementWords x.lastMeasurement ++ s.intake.gauges.toList.flatMap gaugeWords

/-- READ-HEAD. -/
def applyReadHead (s : State) (o : Order) : OrderEffect :=
  s.withArgs (headArgs o.args) fun h => (s, .done, s.headWords h)

/-- READ_HEAD (R44). -/
def execReadHead (s : State) : Host.Outcome State Fault Refusal := s.takeOrder (hasCode 8) applyReadHead

end Sys2Proof.Machine
end

