-- ==== Sys2Proof/Machine/PoolOrders.lean ====
section
/-! DEFINITION. The frame pool's orders: SET-POOL-MARKS and READ-POOL (R59, R60). -/

namespace Sys2Proof.Machine

/-! ### SET-POOL-MARKS (R59) -/

/-- The argument words of SET-POOL-MARKS: L, and M above it. -/
def markArgs : List Word → Args (Nat × Nat)
  | [l, m] => .ofRange do
      let l ← argRange 1 16 l
      let m ← argRange 2 32 m
      if l < m then some (l, m) else none
  | _ => .badOrder

/-- The place of a pacing state in section 3.7. -/
def Pacing.place : Pacing → Nat
  | .open_ => 0
  | .paced => 1

/-- The pacing state evaluated against the marks as they stand (R59). -/
def State.evaluatePacing (s : State) : State :=
  match s.pool.pacing with
  | .open_ => if s.freeCount < s.pool.lowMark then s.becomePaced else s
  | .paced => if s.pool.resumeMark ≤ s.freeCount then s.becomeOpen else s

/-- The marks replaced and the pacing state evaluated (R59). -/
def State.setMarks (s : State) (a : Nat × Nat) : State :=
  { s with pool := { s.pool with lowMark := a.1, resumeMark := a.2 } }.evaluatePacing

/-- SET-POOL-MARKS. -/
def applySetPoolMarks (s : State) (o : Order) : OrderEffect :=
  s.withArgs (markArgs o.args) fun a =>
    let s := s.setMarks a
    (s, .done, [natWord s.pool.lowMark, natWord s.pool.resumeMark, natWord s.pool.pacing.place])

/-- SET_POOL_MARKS (R59). -/
def execSetPoolMarks (s : State) : Host.Outcome State Fault Refusal := s.takeOrder (hasCode 9) applySetPoolMarks

/-! ### READ-POOL (R60) -/

/-- The argument words of READ-POOL: a buffer number, or none. -/
def poolArgs : List Word → Args (Option Buf)
  | [] => .ok none
  | [b] => .ofRange ((argFin 32 b).map some)
  | _ => .badOrder

/-- The eight buffer states, in the order of section 3.2. -/
def bufferStates : List BufferState := [.free, .filling, .pending, .repair, .queued, .sending, .awaitAck, .done]

/-- The number of buffers in a state. -/
def State.bufferCount (s : State) (x : BufferState) : Nat := countEntries (fun b => decide (b.state = x)) s.pool.buffers

/-- A buffer record as result words: every field of R45 in its order, the run list as the number of runs and the overflow
flag (R60). DESIGN CHOICE (log entry 11): the lane and the resolution, which no rule gives with a flag here, take a flag
word and a value, both 0 when absent; a flag or hold is 1 for set and 0 for clear. -/
def bufferWords (b : Buffer) : List Word :=
  [natWord b.state.place, natWord b.slot.val, natWord b.record.val, natWord b.frame, natWord b.lines, natWord b.width] ++
  listWords (fun l => [natWord l]) b.received ++
  [natWord b.badLines, natWord b.runs.length, flagWord b.overflow, natWord b.defective, natWord b.repaired,
    natWord b.unrepaired, intWord b.offset] ++ gradeWords b.grade ++
  [flagWord b.heavy, flagWord b.successorHold, natWord b.neighbourHolds] ++
  optionWords (b.lane.map fun l => natWord l.val) ++ [natWord b.delivery.place] ++
  optionWords (b.resolution.map fun r => natWord r.place)

/-- The results of READ-POOL (R60). -/
def State.poolWords (s : State) (b : Option Buf) : List Word :=
  [natWord s.pool.pacing.place, natWord s.pool.lowMark, natWord s.pool.resumeMark, natWord s.freeCount] ++
  bufferStates.map (fun x => natWord (s.bufferCount x)) ++
  [natWord (countEntries (fun b => decide (b.state = .done ∧ b.resolution = some .discarded)) s.pool.buffers),
    natWord (countEntries (fun b => decide (b.state = .done ∧ b.resolution ≠ some .discarded)) s.pool.buffers)] ++
  match b with
  | some b => bufferWords s.pool.buffers[b]
  | none => []

/-- READ-POOL. -/
def applyReadPool (s : State) (o : Order) : OrderEffect :=
  s.withArgs (poolArgs o.args) fun b => (s, .done, s.poolWords b)

/-- READ_POOL (R60). -/
def execReadPool (s : State) : Host.Outcome State Fault Refusal := s.takeOrder (hasCode 10) applyReadPool

end Sys2Proof.Machine
end

