-- ==== Sys2Proof/Machine/LaneOrders.lean ====
section
/-! DEFINITION. The delivery unit's orders: WRITE-LANE-MAP, SET-ACK-WAIT and READ-LANES (R127, R143, R144). -/

namespace Sys2Proof.Machine

/-! ### WRITE-LANE-MAP (R127) -/

/-- The argument words of WRITE-LANE-MAP, 3 to 34 of them: the first entry and the lanes. The list holds as many lanes as the
count. -/
def laneMapArgs : List Word → Args (Nat × List Lane)
  | first :: count :: lanes =>
    if ¬ (1 ≤ lanes.length ∧ lanes.length ≤ 32) ∨ lanes.length ≠ count.toNat then .badOrder
    else .ofRange do
      let first ← argRange 0 31 first
      let lanes ← lanes.mapM (argFin 4)
      if first + lanes.length ≤ 32 then some (first, lanes) else none
  | _ => .badOrder

/-- The lane map with its entries from `first` on replaced by the lanes of a list. -/
def writeLanes (m : Vector Lane 32) (first : Nat) (lanes : List Lane) : Vector Lane 32 :=
  mapEntries (fun i x => if first ≤ i then lanes.getD (i - first) x else x) m

/-- The lane map as result words: its 32 entries. -/
def laneMapWords (m : Vector Lane 32) : List Word := m.toList.map fun l => natWord l.val

/-- The lane map replaced. -/
def State.putLaneMap (s : State) (m : Vector Lane 32) : State :=
  { s with delivery := { s.delivery with laneMap := m } }

/-- WRITE-LANE-MAP. -/
def applyWriteLaneMap (s : State) (o : Order) : OrderEffect :=
  s.withArgs (laneMapArgs o.args) fun a =>
    let m := writeLanes s.delivery.laneMap a.1 a.2
    (s.putLaneMap m, .done, laneMapWords m)

/-- WRITE_LANE_MAP (R127). -/
def execWriteLaneMap (s : State) : Host.Outcome State Fault Refusal := s.takeOrder (hasCode 19) applyWriteLaneMap

/-! ### SET-ACK-WAIT (R143) -/

/-- The ack wait replaced. -/
def State.putAckWait (s : State) (n : Nat) : State := { s with delivery := { s.delivery with ackWait := n } }

/-- SET-ACK-WAIT. Every reply reports the ack wait as the order left it, and the number of buffers in AWAIT_ACK. -/
def applySetAckWait (s : State) (o : Order) : OrderEffect :=
  match o.args with
  | [w] =>
    match argRange 10 10000 w with
    | some n => (s.putAckWait n, .done, [natWord n, natWord (s.bufferCount .awaitAck)])
    | none => (s, .badArgument, [natWord s.delivery.ackWait, natWord (s.bufferCount .awaitAck)])
  | _ => s.refuse .badOrder

/-- SET_ACK_WAIT (R143). -/
def execSetAckWait (s : State) : Host.Outcome State Fault Refusal := s.takeOrder (hasCode 20) applySetAckWait

/-! ### READ-LANES (R144) -/

/-- The argument words of READ-LANES: a lane, or none. -/
def laneArgs : List Word → Args (Option Lane)
  | [] => .ok none
  | [l] => .ofRange ((argFin 4 l).map some)
  | _ => .badOrder

/-- The transmitter as result words: its state, and when it is SENDING the buffer, the frame and the next output line. -/
def State.transmitterWords (s : State) : List Word :=
  match s.delivery.transmitter with
  | .idle => [0]
  | .sending b k =>
    [1, natWord b.val, natWord s.pool.buffers[b].record.val, natWord s.pool.buffers[b].frame, natWord k]

/-- An entry of a lane queue as result words. -/
def State.queueEntryWords (s : State) (b : Buf) : List Word :=
  [natWord b.val, natWord s.pool.buffers[b].record.val, natWord s.pool.buffers[b].frame]

/-- The four lanes, in order. -/
def allLanes : List Lane := [0, 1, 2, 3]

/-- The results of READ-LANES (R144). -/
def State.lanesWords (s : State) (l : Option Lane) : List Word :=
  let d := s.delivery
  allLanes.flatMap (fun l => [natWord d.queues[l].length, natWord d.credits[l]]) ++ [natWord d.lastServed.val] ++
  s.transmitterWords ++ [natWord (s.bufferCount .awaitAck), natWord d.ackWait] ++ laneMapWords d.laneMap ++
  [d.staleAcks, d.cutSends] ++
  match l with
  | some l => listWords s.queueEntryWords d.queues[l]
  | none => []

/-- READ-LANES. -/
def applyReadLanes (s : State) (o : Order) : OrderEffect :=
  s.withArgs (laneArgs o.args) fun l => (s, .done, s.lanesWords l)

/-- READ_LANES (R144). -/
def execReadLanes (s : State) : Host.Outcome State Fault Refusal := s.takeOrder (hasCode 21) applyReadLanes

end Sys2Proof.Machine
end

