-- ==== Sys2Proof/Machine/LimitOrders.lean ====
section
/-! DEFINITION. The orders that set the defect unit's and the repair engine's limits: SET-DEFECT-LIMITS and SET-REPAIR-LIMITS
(R75, R96). Their replies report the limits as they stand after the order, refused or not. -/

namespace Sys2Proof.Machine

/-! ### SET-DEFECT-LIMITS (R75) -/

/-- The two limits in their ranges (R74). -/
def argDefectLimits (heavy bad : Word) : Option DefectLimits := do
  return ⟨← argRange 1 1000 heavy, ← argRange 0 3072 bad⟩

/-- The defect limits as result words. -/
def defectWords (d : DefectLimits) : List Word := [natWord d.heavyLimit, natWord d.badLineLimit]

/-- SET-DEFECT-LIMITS. -/
def applySetDefectLimits (s : State) (o : Order) : OrderEffect :=
  match o.args with
  | [heavy, bad] =>
    match argDefectLimits heavy bad with
    | some d => ({ s with defect := d }, .done, defectWords d)
    | none => (s, .badArgument, defectWords s.defect)
  | _ => s.refuse .badOrder

/-- SET_DEFECT_LIMITS (R75). -/
def execSetDefectLimits (s : State) : Host.Outcome State Fault Refusal := s.takeOrder (hasCode 11) applySetDefectLimits

/-! ### SET-REPAIR-LIMITS (R96) -/

/-- The repair wait and the span limit in their ranges: the wait is a multiple of 100 (R95). -/
def argRepairLimits (wait span : Word) : Option (Nat × Nat) := do
  let wait ← argRange 100 25500 wait
  let span ← argRange 1 512 span
  if wait % 100 = 0 then some (wait, span) else none

/-- The repair unit as result words: the limits, the queue's length, and the engine's state, with the buffer of its request
when it is BUSY (R96). -/
def repairWords (u : Repair) : List Word :=
  [natWord u.wait, natWord u.span, natWord u.queue.length] ++
  match u.engine with
  | none => [0]
  | some job => [1, natWord job.request.buf.val]

/-- The two repair limits replaced (R96). -/
def State.setRepairLimits (s : State) (a : Nat × Nat) : State :=
  { s with repair := { s.repair with wait := a.1, span := a.2 } }

/-- SET-REPAIR-LIMITS. -/
def applySetRepairLimits (s : State) (o : Order) : OrderEffect :=
  match o.args with
  | [wait, span] =>
    match argRepairLimits wait span with
    | some a => (s.setRepairLimits a, .done, repairWords (s.setRepairLimits a).repair)
    | none => (s, .badArgument, repairWords s.repair)
  | _ => s.refuse .badOrder

/-- SET_REPAIR_LIMITS (R96). -/
def execSetRepairLimits (s : State) : Host.Outcome State Fault Refusal := s.takeOrder (hasCode 12) applySetRepairLimits

end Sys2Proof.Machine
end

