-- ==== Sys2Proof/Machine/Links.lean ====
section
/-! DEFINITION. The meanings of the events of the reset input and of the links (R174). A link that is already in the state an
event leads to has no such event, and the command then changes nothing (log entry 3). -/

namespace Sys2Proof.Machine

/-- POWER_ON (R174): every block at its power-on state. -/
def execPowerOn (s : State) : Host.Outcome State Fault Refusal := .next s.powerOn

/-- RESET_INPUT_LOW (section 11.8): from here on the part sends nothing, until the input is released. -/
def execResetInputLow (s : State) : Host.Outcome State Fault Refusal := .next { s with resetLow := true }

/-- The effects of the loss of a head port's link (R13, R43, R174). The link state changes first. -/
def State.loseHeadLink (s : State) (h : Head) : State :=
  let s := s.setLink (headPort h) .down
  let s := s.raise .portDown h.val none 0
  let s := s.endAssembly h
  let s : State := match s.boundSlot h with
    | some r => if s.reels[r].state = .running then s.takeHold r 3 else s
    | none => s
  s.emptyPort (headPort h)

/-- HEAD_LINK_LOSS (R43, R174). -/
def execHeadLinkLoss (h : Head) (s : State) : Host.Outcome State Fault Refusal :=
  if s.isUp (headPort h) then (s.loseHeadLink h).finish else .next s

/-- The effects of a head port's link coming UP (R58, R174, R178). -/
def State.gainHeadLink (s : State) (h : Head) : State :=
  let s := s.modPort (headPort h) fun q => { q with link := .up, seqOut := 0 }
  let s := s.raise .portUp h.val none 0
  if s.feeding h then s.tellPaced h else s

/-- HEAD_LINK_UP (R174). -/
def execHeadLinkUp (h : Head) (s : State) : Host.Outcome State Fault Refusal :=
  if s.isUp (headPort h) then .next s else (s.gainHeadLink h).finish

/-- A send in flight cut by the loss of the store link (R136): the buffer goes back to QUEUED at the head of its own lane's
queue, and the send is counted as cut. -/
def State.cutSend (s : State) : State :=
  match s.delivery.transmitter with
  | .idle => s
  | .sending b _ =>
    let s := s.modBuffer b fun x => { x with state := .queued }
    let s : State := match s.pool.buffers[b].lane with
      | some l => s.modQueue l fun q => b :: q
      | none => s
    { s with delivery := { s.delivery with transmitter := .idle, cutSends := s.delivery.cutSends + 1 } }

/-- The effects of the loss of port S's link (R136, R174). The link state changes first. -/
def State.loseStoreLink (s : State) : State :=
  let s := s.setLink portS .down
  let s := s.cutSend
  let s : State := { s with delivery := { s.delivery with credits := Vector.replicate 4 0 } }
  let s := s.raise .storePortDown 0 none 0
  s.emptyPort portS

/-- STORE_LINK_LOSS (R136). -/
def execStoreLinkLoss (s : State) : Host.Outcome State Fault Refusal :=
  if s.isUp portS then s.loseStoreLink.finish else .next s

/-- STORE_LINK_UP (R137, R178): the delivery unit changes nothing. -/
def execStoreLinkUp (s : State) : Host.Outcome State Fault Refusal :=
  if s.isUp portS then .next s
  else ((s.modPort portS fun q => { q with link := .up, seqOut := 0 }).raise .storePortUp 0 none 0).finish

end Sys2Proof.Machine
end

