-- ==== Sys2Proof/Machine/ProfileOrders.lean ====
section
/-! DEFINITION. The grading unit's orders: LOAD-PROFILE-CURVE, SET-PROFILE-LEVELS and READ-PROFILE, and the reference test (R99,
R101 to R103). -/

namespace Sys2Proof.Machine

/-! ### References (R99, R100) -/

/-- Whether a buffer in a state holds a frame not yet sent (R99). -/
def BufferState.unsent : BufferState → Bool
  | .filling | .pending | .repair | .queued | .sending => true
  | .free | .awaitAck | .done => false

/-- The reels whose current grade names a profile (R99). The count of R100 is computed from the reel table. -/
def State.reelReferences (s : State) (p : ProfileNo) : Nat :=
  countEntries (fun r => r.state.inUse && decide (r.grade.profile = p)) s.reels

/-- The cues that name a profile (R99). -/
def State.cueReferences (s : State) (p : ProfileNo) : Nat :=
  (s.reels.toList.map fun r => r.cues.countP fun c => decide (c.grade.profile = p)).sum

/-- The unsent buffers whose captured grade names a profile (R99). -/
def State.bufferReferences (s : State) (p : ProfileNo) : Nat :=
  countEntries (fun b => b.state.unsent && decide (b.grade.profile = p)) s.pool.buffers

/-- Whether a profile is referenced (R99). -/
def State.referenced (s : State) (p : ProfileNo) : Bool :=
  decide (0 < s.reelReferences p ∨ 0 < s.cueReferences p ∨ 0 < s.bufferReferences p)

/-- The three reference counts of a profile as result words: reels, cues and buffers. -/
def State.referenceWords (s : State) (p : ProfileNo) : List Word :=
  [natWord (s.reelReferences p), natWord (s.cueReferences p), natWord (s.bufferReferences p)]

/-- The state with one profile changed. -/
def State.modProfile (s : State) (p : ProfileNo) (f : Profile → Profile) : State :=
  { s with profiles := modEntry s.profiles p f }

/-! ### LOAD-PROFILE-CURVE (R101) -/

/-- A run of curve points: profile, channel, first point and count, with first point + count at most 257. -/
structure CurveRange where
  profile : ProfileNo
  channel : Fin 3
  first : Nat
  count : Nat
  deriving DecidableEq, Repr

/-- The four words that name a run of curve points, in their ranges (R101, R103). -/
def argCurve (p c first count : Word) : Option CurveRange := do
  let p ← argFin 8 p
  let c ← argFin 3 c
  let first ← argRange 0 256 first
  let count ← argRange 1 32 count
  if first + count ≤ Config.curvePoints then some ⟨p, c, first, count⟩ else none

/-- A word as a 16-bit value, none when it is out of range. -/
def argChannel (w : Word) : Option Channel := (argRange 0 65535 w).map (BitVec.ofNat 16)

/-- The argument words of LOAD-PROFILE-CURVE, 5 to 36 of them; the list holds as many values as the count (R101). -/
def loadArgs : List Word → Args (CurveRange × List Channel)
  | p :: c :: first :: count :: values =>
    if ¬ (1 ≤ values.length ∧ values.length ≤ 32) ∨ values.length ≠ count.toNat then .badOrder
    else .ofRange do return (← argCurve p c first count, ← values.mapM argChannel)
  | _ => .badOrder

/-- A curve with its points from `first` on replaced by the values of a list. -/
def loadCurve (curve : Vector Channel 257) (first : Nat) (values : List Channel) : Vector Channel 257 :=
  mapEntries (fun i x => if first ≤ i then values.getD (i - first) x else x) curve

/-- One channel of a profile changed. -/
def Profile.modChannel (x : Profile) (c : Fin 3) (f : ChannelProfile → ChannelProfile) : Profile :=
  { x with channels := modEntry x.channels c f }

/-- LOAD-PROFILE-CURVE after the tests of R181: the reference test, and the load. -/
def State.loadOrder (s : State) (a : CurveRange × List Channel) : OrderEffect :=
  if s.referenced a.1.profile then (s, .inUse, s.referenceWords a.1.profile)
  else
    (s.modProfile a.1.profile fun x => x.modChannel a.1.channel fun c => { c with curve := loadCurve c.curve a.1.first a.2 },
      .done, [natWord a.1.profile.val, natWord a.1.channel.val, natWord a.1.first, natWord a.1.count])

/-- LOAD-PROFILE-CURVE. -/
def applyLoadProfileCurve (s : State) (o : Order) : OrderEffect := s.withArgs (loadArgs o.args) s.loadOrder

/-- LOAD_PROFILE_CURVE (R101). -/
def execLoadProfileCurve (s : State) : Host.Outcome State Fault Refusal := s.takeOrder (hasCode 13) applyLoadProfileCurve

/-! ### SET-PROFILE-LEVELS (R102) -/

/-- The level fields of a profile: three black offsets, three gains, the depth and the dither setting. -/
structure Levels where
  black : Vector Channel 3
  gain : Vector Channel 3
  depth : Depth
  dither : Bool
  deriving DecidableEq, Repr

/-- The depth an argument word names: 10, 12 or 16 (R102). -/
def argDepth (w : Word) : Option Depth :=
  if w = 10 then some .d10 else if w = 12 then some .d12 else if w = 16 then some .d16 else none

/-- The argument words of SET-PROFILE-LEVELS. -/
def levelArgs : List Word → Args (ProfileNo × Levels)
  | [p, kr, kg, kb, gr, gg, gb, depth, dither] => .ofRange do
      let p ← argFin 8 p
      let black : Vector Channel 3 := #v[← argChannel kr, ← argChannel kg, ← argChannel kb]
      let gain : Vector Channel 3 := #v[← argChannel gr, ← argChannel gg, ← argChannel gb]
      return (p, ⟨black, gain, ← argDepth depth, ← argFlag dither⟩)
  | _ => .badOrder

/-- A profile with its level fields replaced and its curves kept. -/
def Profile.setLevels (x : Profile) (l : Levels) : Profile :=
  { channels := Vector.ofFn fun c => { x.channels[c] with black := l.black[c], gain := l.gain[c] }
    depth := l.depth
    dither := l.dither }

/-- The level fields of a profile as result words: the black offsets, the gains, the depth in bits and the dither
setting. -/
def levelWords (x : Profile) : List Word :=
  x.channels.toList.map (fun c => natWord c.black.toNat) ++ x.channels.toList.map (fun c => natWord c.gain.toNat) ++
    [natWord x.depth.bits, flagWord x.dither]

/-- SET-PROFILE-LEVELS after the tests of R181: the reference test, and the new levels. -/
def State.levelsOrder (s : State) (a : ProfileNo × Levels) : OrderEffect :=
  if s.referenced a.1 then (s, .inUse, s.referenceWords a.1)
  else (s.modProfile a.1 fun x => x.setLevels a.2, .done, levelWords (s.profiles[a.1].setLevels a.2))

/-- SET-PROFILE-LEVELS. -/
def applySetProfileLevels (s : State) (o : Order) : OrderEffect := s.withArgs (levelArgs o.args) s.levelsOrder

/-- SET_PROFILE_LEVELS (R102). -/
def execSetProfileLevels (s : State) : Host.Outcome State Fault Refusal := s.takeOrder (hasCode 14) applySetProfileLevels

/-! ### READ-PROFILE (R103) -/

/-- The argument words of READ-PROFILE. -/
def readProfileArgs : List Word → Args CurveRange
  | [p, c, first, count] => .ofRange (argCurve p c first count)
  | _ => .badOrder

/-- The results of READ-PROFILE (R103). DESIGN CHOICE (log entry 11): the curve points, whose number the order gives, have no
length word. -/
def State.profileWords (s : State) (a : CurveRange) : List Word :=
  let x := s.profiles[a.profile]
  levelWords x ++ ((x.channels[a.channel].curve.toList.drop a.first).take a.count).map (fun t => natWord t.toNat) ++
    s.referenceWords a.profile

/-- READ-PROFILE. -/
def applyReadProfile (s : State) (o : Order) : OrderEffect :=
  s.withArgs (readProfileArgs o.args) fun a => (s, .done, s.profileWords a)

/-- READ_PROFILE (R103). -/
def execReadProfile (s : State) : Host.Outcome State Fault Refusal := s.takeOrder (hasCode 15) applyReadProfile

end Sys2Proof.Machine
end

