-- ==== Sys2Proof/Machine/ReelOrders.lean ====
section
/-! DEFINITION. The reel orders: MOUNT-REEL, UNMOUNT-REEL, HOLD-REEL, RESUME-REEL, SET-REEL-POLICY and READ-REEL (R5, R6, R9,
R12, R14, R15, R17, R18, R23). -/

namespace Sys2Proof.Machine

/-! ### MOUNT-REEL (R5, R6) -/

/-- The arguments of MOUNT-REEL. -/
structure MountArgs where
  head : Head
  record : RecordNo
  gauge : GaugeCode
  grade : Grade
  policy : Policy
  deriving DecidableEq, Repr

/-- The argument words of MOUNT-REEL, 7 or 11 of them; the smaller number leaves the policy group out. -/
def mountArgs : List Word → Args MountArgs
  | [h, i, g, p, tr, tg, tb] => .ofRange do
      return ⟨← argFin 4 h, ← argFin 512 i, ← argFin 4 g, ← argGrade p tr tg tb, defaultPolicy⟩
  | [h, i, g, p, tr, tg, tb, settle, ir, action, limit] => .ofRange do
      return ⟨← argFin 4 h, ← argFin 512 i, ← argFin 4 g, ← argGrade p tr tg tb, ← argPolicy settle ir action limit⟩
  | _ => .badOrder

/-- The lowest-numbered FREE slot (R6). -/
def State.freeSlot (s : State) : Option Slot :=
  firstEntry (fun _ r => decide (r.state = .free)) s.reels

/-- The reel record as MOUNT-REEL sets it (R1, R6). -/
def mountedReel (a : MountArgs) : Reel :=
  { state := .mounted, head := a.head, record := a.record, gauge := a.gauge, policy := a.policy, grade := a.grade,
    settleRemaining := a.policy.settleCount }

/-- The catalogue record ON_HEAD, and the position it names, if any, kept as the reel's home (R6, R151). -/
def State.takeFromShelf (s : State) (i : RecordNo) : State :=
  let s : State := match s.catalogue[i].position with
    | some q => s.modPosition q fun x => { x with state := .reserved, owner := some i }
    | none => s
  s.modRecord i fun x => { x with state := .onHead }

/-- The effects of a MOUNT-REEL that passed its tests, on the slot it is given (R6). -/
def State.mount (s : State) (a : MountArgs) (r : Slot) : State :=
  let s := s.modReel r fun _ => mountedReel a
  let s := s.takeFromShelf a.record
  s.tellPaced a.head

/-- MOUNT-REEL after the tests of R181: the tests of R5 in their order, and the mount. -/
def State.mountOrder (s : State) (a : MountArgs) : OrderEffect :=
  if (s.boundSlot a.head).isSome then s.refuse .inUse
  else
    match s.freeSlot with
    | none => s.refuse .full
    | some r =>
      if ¬ (s.catalogue[a.record].state = .shelved ∨ s.catalogue[a.record].state = .out) then s.refuse .wrongState
      else if s.intake.gauges[a.gauge].pitch = 0 then s.refuse .badArgument
      else (s.mount a r, .done, [natWord r.val])

/-- MOUNT-REEL. -/
def applyMountReel (s : State) (o : Order) : OrderEffect := s.withArgs (mountArgs o.args) s.mountOrder

/-- MOUNT_REEL (R5). -/
def execMountReel (s : State) : Host.Outcome State Fault Refusal := s.takeOrder (hasCode 1) applyMountReel

/-! ### Orders that may wait for a frame gap (R15) -/

/-- Whether a RUNNING reel has a frame being assembled, so that an order of section 1.5 waits for its gap. -/
def State.midFrame (s : State) (r : Slot) : Bool :=
  decide (s.reels[r].state = .running) && s.assemblingFor r

/-- An order entered at the tail of the deferred list, or refused when the list holds 4 entries (R9, R14, R15, R17). -/
def State.deferOrder (s : State) (r : Slot) (d : Deferred) : OrderEffect :=
  if s.reels[r].deferred.length < Config.maxDeferred then
    (s.modReel r fun x => { x with deferred := x.deferred ++ [d] }, .deferred, [])
  else s.refuse .full

/-- The argument words of an order that takes a slot number only. -/
def slotArgs : List Word → Args Slot
  | [r] => .ofRange (argFin 8 r)
  | _ => .badOrder

/-! ### UNMOUNT-REEL (R17, R18) -/

/-- The argument words of UNMOUNT-REEL: the slot, and the form, ABORT when true. -/
def unmountArgs : List Word → Args (Slot × Bool)
  | [r, form] => .ofRange do return (← argFin 8 r, ← argFlag form)
  | _ => .badOrder

/-- UNMOUNT-REEL END on a slot (R17). -/
def State.unmountEnd (s : State) (r : Slot) (tag : BitVec 16) : OrderEffect :=
  match s.reels[r].state with
  | .mounted | .running | .held =>
    if s.midFrame r then s.deferOrder r (.unmountEnd tag) else (s.enterDraining r .unmount, .done, [])
  | .draining | .closed | .free => s.refuse .wrongState

/-- UNMOUNT-REEL ABORT on a slot (R18). -/
def State.unmountAbort (s : State) (r : Slot) : OrderEffect :=
  match s.reels[r].state with
  | .mounted | .running | .held => (s.abortReel r, .done, [])
  | .draining | .closed | .free => s.refuse .wrongState

/-- UNMOUNT-REEL in either form. -/
def State.unmountOrder (s : State) (tag : BitVec 16) (a : Slot × Bool) : OrderEffect :=
  if a.2 then s.unmountAbort a.1 else s.unmountEnd a.1 tag

/-- UNMOUNT-REEL. -/
def applyUnmount (s : State) (o : Order) : OrderEffect := s.withArgs (unmountArgs o.args) (s.unmountOrder o.tag)

/-- Whether an UNMOUNT-REEL order names a form; none when its argument words are refused. -/
def unmountForm (o : Order) : Option Bool :=
  match unmountArgs o.args with
  | .ok a => some a.2
  | _ => none

/-- UNMOUNT_REEL_END (R17): an UNMOUNT-REEL of form END, or one whose argument words are refused. -/
def execUnmountReelEnd (s : State) : Host.Outcome State Fault Refusal :=
  s.takeOrder (fun o => hasCode 2 o && decide (unmountForm o ≠ some true)) applyUnmount

/-- UNMOUNT_REEL_ABORT (R18): an UNMOUNT-REEL of form ABORT, or one whose argument words are refused. -/
def execUnmountReelAbort (s : State) : Host.Outcome State Fault Refusal :=
  s.takeOrder (fun o => hasCode 2 o && decide (unmountForm o ≠ some false)) applyUnmount

/-! ### HOLD-REEL (R9, R10) -/

/-- HOLD-REEL on a slot (R9). -/
def State.holdOrder (s : State) (tag : BitVec 16) (r : Slot) : OrderEffect :=
  match s.reels[r].state with
  | .mounted | .running =>
    if s.midFrame r then s.deferOrder r (.holdReel tag) else (s.takeHold r 0, .done, [])
  | .held | .draining | .closed | .free => s.refuse .wrongState

/-- HOLD-REEL. -/
def applyHoldReel (s : State) (o : Order) : OrderEffect := s.withArgs (slotArgs o.args) (s.holdOrder o.tag)

/-- HOLD_REEL (R9). -/
def execHoldReel (s : State) : Host.Outcome State Fault Refusal := s.takeOrder (hasCode 3) applyHoldReel

/-! ### RESUME-REEL (R12) -/

/-- The effects of RESUME-REEL on a HELD reel (R12), and the PACE-HOLD of a head that comes to feed a PACED pool (R58). -/
def State.resume (s : State) (r : Slot) : State :=
  let s := s.modReel r fun x => { x with state := .running, settleRemaining := x.policy.settleCount }
  let s := s.formFlow s.reels[r].head .go
  s.tellPaced s.reels[r].head

/-- RESUME-REEL on a slot (R12). -/
def State.resumeOrder (s : State) (r : Slot) : OrderEffect :=
  if s.reels[r].state = .held then (s.resume r, .done, []) else s.refuse .wrongState

/-- RESUME-REEL. -/
def applyResumeReel (s : State) (o : Order) : OrderEffect := s.withArgs (slotArgs o.args) s.resumeOrder

/-- RESUME_REEL (R12). -/
def execResumeReel (s : State) : Host.Outcome State Fault Refusal := s.takeOrder (hasCode 4) applyResumeReel

/-! ### SET-REEL-POLICY (R14) -/

/-- The argument words of SET-REEL-POLICY. -/
def policyArgs : List Word → Args (Slot × Policy)
  | [r, settle, ir, action, limit] => .ofRange do return (← argFin 8 r, ← argPolicy settle ir action limit)
  | _ => .badOrder

/-- SET-REEL-POLICY on a slot (R14). -/
def State.policyOrder (s : State) (tag : BitVec 16) (a : Slot × Policy) : OrderEffect :=
  match s.reels[a.1].state with
  | .mounted | .running | .held =>
    if s.midFrame a.1 then s.deferOrder a.1 (.setPolicy tag a.2) else (s.applyPolicy a.1 a.2, .done, [])
  | .draining | .closed | .free => s.refuse .wrongState

/-- SET-REEL-POLICY. -/
def applySetReelPolicy (s : State) (o : Order) : OrderEffect := s.withArgs (policyArgs o.args) (s.policyOrder o.tag)

/-- SET_REEL_POLICY (R14). -/
def execSetReelPolicy (s : State) : Host.Outcome State Fault Refusal := s.takeOrder (hasCode 5) applySetReelPolicy

/-! ### READ-REEL (R23) -/

/-- The code of a heavy action: 0 for PASS and 1 for HOLD (section 11.7). -/
def HeavyAction.code : HeavyAction → Nat
  | .pass => 0
  | .hold => 1

/-- A policy as result words. -/
def policyWords (p : Policy) : List Word :=
  [natWord p.settleCount, natWord p.irThreshold, natWord p.heavyAction.code, natWord p.perfRunLimit]

/-- A cue as result words. -/
def cueWords (c : Cue) : List Word := natWord c.frame :: gradeWords c.grade

/-- An entry of the deferred list as result words, its kind and its tag. The kind is its place in the list of R15. -/
def deferredWords : Deferred → List Word
  | .holdReel tag => [0, natWord tag.toNat]
  | .unmountEnd tag => [1, natWord tag.toNat]
  | .setPolicy tag _ => [2, natWord tag.toNat]

/-- The counters of a reel as result words, in the order of R2. -/
def counterWords (c : ReelCounters) : List Word :=
  [c.framesOpened, c.framesAssembled, c.framesLost, c.discardedOversize, c.discardedSettle, c.discardedSequence,
    c.discardedHeld, c.discardedAbort, c.heavyFrames, c.perfFaultFrames, c.shortFrames, c.badLines] ++
  longWords c.samplesScanned ++ longWords c.defectiveSamples ++ longWords c.repairedSamples ++
  longWords c.unrepairedSamples ++ [c.framesAcknowledged, c.framesTimedOut]

/-- The results of READ-REEL (R23). -/
def reelWords (x : Reel) : List Word :=
  [natWord x.state.place, natWord x.head.val, natWord x.record.val, natWord x.gauge.val] ++
  policyWords x.policy ++ gradeWords x.grade ++ listWords cueWords x.cues ++ listWords deferredWords x.deferred ++
  optionWords (x.lastOpened.map natWord) ++ optionWords (x.shrinkEstimate.map intWord) ++
  optionWords (x.closeReason.map fun c => natWord c.code) ++ optionWords (x.latest.map fun b => natWord b.val) ++
  [natWord x.settleRemaining, intWord x.lastOffset, natWord x.perfRun] ++ counterWords x.counters

/-- READ-REEL (R23). -/
def applyReadReel (s : State) (o : Order) : OrderEffect :=
  s.withArgs (slotArgs o.args) fun r => (s, .done, reelWords s.reels[r])

/-- READ_REEL (R23). -/
def execReadReel (s : State) : Host.Outcome State Fault Refusal := s.takeOrder (hasCode 6) applyReadReel

end Sys2Proof.Machine
end

