-- ==== Sys2Proof/Machine/ShelfOrders.lean ====
section
/-! DEFINITION. The shelf map's orders on positions: DEFINE-SHELVES, SHELF-LOCK, SHELF-UNLOCK and READ-SHELF (R160 to R163). -/

namespace Sys2Proof.Machine

/-! ### DEFINE-SHELVES (R160) -/

/-- A range of positions. -/
structure ShelfRange where
  first : Nat
  count : Nat
  deriving DecidableEq, Repr

/-- Whether a position number lies in a range. -/
def ShelfRange.has (a : ShelfRange) (i : Nat) : Bool := decide (a.first ≤ i ∧ i < a.first + a.count)

/-- Two words as a range of at most `most` positions that ends at 1023 or below. -/
def argShelfRange (most : Nat) (first count : Word) : Option ShelfRange := do
  let first ← argRange 0 1023 first
  let count ← argRange 1 most count
  if first + count ≤ 1024 then some ⟨first, count⟩ else none

/-- The argument words of DEFINE-SHELVES. -/
def defineArgs : List Word → Args (ShelfRange × Option VaultClass)
  | [first, count, cls] => .ofRange do return (← argShelfRange 1024 first count, ← argClass cls)
  | _ => .badOrder

/-- The lowest position of a range that is OCCUPIED or RESERVED (R160). -/
def State.takenPosition (s : State) (a : ShelfRange) : Option PositionNo :=
  firstEntry (fun i q => a.has i && decide (q.state = .occupied ∨ q.state = .reserved)) s.shelf.positions

/-- A position defined with a class: FREE, or UNDEFINED when the class is NONE; its owner absent and its lock kept (R160). -/
def Position.define (q : Position) (c : Option VaultClass) : Position :=
  { q with cls := c, state := if c.isSome then .free else .undefined, owner := none }

/-- Every position of a range defined (R160). -/
def State.definePositions (s : State) (a : ShelfRange) (c : Option VaultClass) : State :=
  { s with shelf := { s.shelf with
      positions := mapEntries (fun i q => if a.has i then q.define c else q) s.shelf.positions } }

/-- The number of positions of a range that are FREE and unlocked (R160). -/
def State.openInRange (s : State) (a : ShelfRange) : Nat :=
  s.shelf.positions.toList.zipIdx.countP fun e => a.has e.2 && decide (e.1.state = .free ∧ e.1.lock = false)

/-- DEFINE-SHELVES after the tests of R181. -/
def State.defineOrder (s : State) (a : ShelfRange × Option VaultClass) : OrderEffect :=
  match s.takenPosition a.1 with
  | some q => (s, .inUse, [natWord q.val])
  | none =>
    let s := s.definePositions a.1 a.2
    let n := s.openInRange a.1
    (if 0 < n then s.retryPass none else s, .done, [natWord n])

/-- DEFINE-SHELVES. -/
def applyDefineShelves (s : State) (o : Order) : OrderEffect := s.withArgs (defineArgs o.args) s.defineOrder

/-- DEFINE_SHELVES (R160). -/
def execDefineShelves (s : State) : Host.Outcome State Fault Refusal := s.takeOrder (hasCode 25) applyDefineShelves

/-! ### SHELF-LOCK (R161) -/

/-- The argument words of an order that takes a position number only. -/
def positionArgs : List Word → Args PositionNo
  | [q] => .ofRange (argFin 1024 q)
  | _ => .badOrder

/-- The lock of a position in a new state. -/
def State.setLock (s : State) (q : PositionNo) (lock : Bool) : State := s.modPosition q fun x => { x with lock := lock }

/-- SHELF-LOCK on a position: the reply tells the lock as it stood before, 0 for WAS_CLEAR and 1 for WAS_SET. -/
def State.lockOrder (s : State) (q : PositionNo) : OrderEffect :=
  (s.setLock q true, .done, [flagWord s.shelf.positions[q].lock])

/-- SHELF-LOCK. -/
def applyShelfLock (s : State) (o : Order) : OrderEffect := s.withArgs (positionArgs o.args) s.lockOrder

/-- SHELF_LOCK (R161). -/
def execShelfLock (s : State) : Host.Outcome State Fault Refusal := s.takeOrder (hasCode 26) applyShelfLock

/-! ### SHELF-UNLOCK (R162) -/

/-- Whether a position is RESERVED as the home of a record whose ticket is AWAITING_SPACE (R162). -/
def State.isWaitingHome (s : State) (q : PositionNo) : Bool :=
  decide (s.shelf.positions[q].state = .reserved) &&
    s.shelf.tickets.any fun t => decide (t.state = .awaitingSpace ∧ s.catalogue[t.record].position = some q)

/-- SHELF-UNLOCK on a position: a lock that was set is cleared, with a retry pass when that makes the position usable. -/
def State.unlockOrder (s : State) (q : PositionNo) : OrderEffect :=
  let was := s.shelf.positions[q].lock
  let s := s.setLock q false
  let usable := decide (s.shelf.positions[q].state = .free) || s.isWaitingHome q
  (if was && usable then s.retryPass none else s, .done, [flagWord was])

/-- SHELF-UNLOCK. -/
def applyShelfUnlock (s : State) (o : Order) : OrderEffect := s.withArgs (positionArgs o.args) s.unlockOrder

/-- SHELF_UNLOCK (R162). -/
def execShelfUnlock (s : State) : Host.Outcome State Fault Refusal := s.takeOrder (hasCode 27) applyShelfUnlock

/-! ### READ-SHELF (R163) -/

/-- The argument words of READ-SHELF. -/
def readShelfArgs : List Word → Args ShelfRange
  | [first, count] => .ofRange (argShelfRange 64 first count)
  | _ => .badOrder

/-- A position as result words (R163). DESIGN CHOICE (log entry 11): the lock is 1 for set and 0 for clear. -/
def positionWords (q : Position) : List Word :=
  [natWord (classCode q.cls), natWord q.state.place] ++ optionWords (q.owner.map fun i => natWord i.val) ++ [flagWord q.lock]

/-- A ticket as result words (R163). -/
def ticketWords (t : Ticket) : List Word :=
  [natWord t.number.toNat, natWord t.record.val, natWord t.cls.code] ++ optionWords (t.position.map fun q => natWord q.val) ++
    [natWord t.state.place]

/-- The number of positions of a class that are FREE and unlocked. -/
def State.openOfClass (s : State) (c : VaultClass) : Nat :=
  countEntries (fun q => decide (q.cls = some c ∧ q.state = .free ∧ q.lock = false)) s.shelf.positions

/-- The number of positions in a state. -/
def State.positionCount (s : State) (x : PositionState) : Nat :=
  countEntries (fun q => decide (q.state = x)) s.shelf.positions

/-- The results of READ-SHELF (R163). DESIGN CHOICE (log entry 11): the positions, whose number the order gives, have no length
word. -/
def State.shelfWords (s : State) (a : ShelfRange) : List Word :=
  ((s.shelf.positions.toList.drop a.first).take a.count).flatMap positionWords ++
  [VaultClass.classA, .classB, .classC, .classD].map (fun c => natWord (s.openOfClass c)) ++
  [PositionState.undefined, .free, .occupied, .reserved, .blocked].map (fun x => natWord (s.positionCount x)) ++
  listWords ticketWords s.shelf.tickets ++
  listWords (fun r => [natWord r.val, natWord s.reels[r].record.val]) s.shelf.waitList ++
  [natWord s.shelf.nextNumber.toNat]

/-- READ-SHELF. -/
def applyReadShelf (s : State) (o : Order) : OrderEffect :=
  s.withArgs (readShelfArgs o.args) fun a => (s, .done, s.shelfWords a)

/-- READ_SHELF (R163). -/
def execReadShelf (s : State) : Host.Outcome State Fault Refusal := s.takeOrder (hasCode 28) applyReadShelf

end Sys2Proof.Machine
end

