-- ==== Sys2Proof/Machine/TicketOrders.lean ====
section
/-! DEFINITION. The shelf map's orders on tickets: NEXT-TICKET, CONFIRM-TICKET and REFUSE-TICKET, and the admission from the
closed-reel wait list (R169 to R172). -/

namespace Sys2Proof.Machine

/-! ### NEXT-TICKET (R170) -/

/-- The oldest ticket in ISSUED (R170). -/
def State.oldestIssued (s : State) : Option Ticket := s.shelf.tickets.find? fun t => decide (t.state = .issued)

/-- A position and its class as result words; nothing for a ticket with no position. -/
def State.placeWords (s : State) : Option PositionNo → List Word
  | some q => [natWord q.val, natWord (classCode s.shelf.positions[q].cls)]
  | none => []

/-- The results of NEXT-TICKET (R170). -/
def State.takenWords (s : State) (t : Ticket) : List Word :=
  let x := s.catalogue[t.record]
  [natWord t.number.toNat, natWord t.record.val, natWord t.cls.code] ++ identityWords x.identity ++ [natWord x.base.code] ++
    s.placeWords t.position

/-- NEXT-TICKET. -/
def applyNextTicket (s : State) (o : Order) : OrderEffect :=
  match o.args with
  | [] =>
    match s.oldestIssued with
    | some t => (s.modTicket t.number fun x => { x with state := .taken }, .done, s.takenWords t)
    | none => s.refuse .notFound
  | _ => s.refuse .badOrder

/-- NEXT_TICKET (R170). -/
def execNextTicket (s : State) : Host.Outcome State Fault Refusal := s.takeOrder (hasCode 29) applyNextTicket

/-! ### CONFIRM-TICKET (R171) -/

/-- A word as a ticket number, 0 to 65535. -/
def argTicket (w : Word) : Option (BitVec 16) := (argRange 0 65535 w).map (BitVec.ofNat 16)

/-- The ticket of the queue that carries a number. -/
def State.ticketNumbered (s : State) (n : BitVec 16) : Option Ticket := s.shelf.tickets.find? fun t => decide (t.number = n)

/-- The oldest entry of the closed-reel wait list admitted, if there is one: its ticket is formed and the entry removed
(R169). -/
def State.admitWaiting (s : State) : State :=
  match s.shelf.waitList with
  | [] => s
  | r :: rest => { s with shelf := { s.shelf with waitList := rest } }.formTicket r

/-- The confirmation of a TAKEN ticket (R171 steps 1 to 4). -/
def State.confirm (s : State) (t : Ticket) : State :=
  let s : State := match t.position with
    | some q => s.modPosition q fun x => { x with state := .occupied }
    | none => s
  let s := s.modRecord t.record fun x => { x with state := .shelved, position := t.position }
  let s : State := { s with shelf := { s.shelf with tickets := s.shelf.tickets.filter fun x => decide (x.number ≠ t.number) } }
  s.admitWaiting

/-- The argument words of CONFIRM-TICKET. -/
def confirmArgs : List Word → Args (BitVec 16)
  | [n] => .ofRange (argTicket n)
  | _ => .badOrder

/-- CONFIRM-TICKET after the tests of R181. -/
def State.confirmOrder (s : State) (n : BitVec 16) : OrderEffect :=
  match s.ticketNumbered n with
  | none => s.refuse .notFound
  | some t =>
    if t.state = .taken then
      (s.confirm t, .done,
        [natWord t.number.toNat, natWord t.record.val] ++ (t.position.map fun q => natWord q.val).toList)
    else s.refuse .wrongState

/-- CONFIRM-TICKET. -/
def applyConfirmTicket (s : State) (o : Order) : OrderEffect := s.withArgs (confirmArgs o.args) s.confirmOrder

/-- CONFIRM_TICKET (R171). -/
def execConfirmTicket (s : State) : Host.Outcome State Fault Refusal := s.takeOrder (hasCode 30) applyConfirmTicket

/-! ### REFUSE-TICKET (R172) -/

/-- The argument words of REFUSE-TICKET: the number, and whether the position is blocked. -/
def refuseArgs : List Word → Args (BitVec 16 × Bool)
  | [n, block] => .ofRange do return (← argTicket n, ← argFlag block)
  | _ => .badOrder

/-- The refused position without its owner, BLOCKED or FREE, its class and lock kept (R172 step 1). -/
def Position.refused (q : Position) (block : Bool) : Position :=
  { q with owner := none, state := if block then .blocked else .free }

/-- The refusal of a TAKEN ticket that names position `q` (R172 steps 1 to 4). -/
def State.refusePosition (s : State) (t : Ticket) (q : PositionNo) (block : Bool) : State :=
  let excl := some (t.number, q)
  let s := s.modPosition q fun x => x.refused block
  let s := s.modRecord t.record fun x => { x with position := none }
  let s := s.allocateTicket excl t
  if block = false ∧ s.shelf.positions[q].lock = false then s.retryPass excl else s

/-- A ticket's new state and, when ISSUED, its position and that position's class (R172). -/
def State.refusedWords (s : State) (n : BitVec 16) : List Word :=
  match s.ticketNumbered n with
  | some t => natWord t.state.place :: if t.state = .issued then s.placeWords t.position else []
  | none => []

/-- REFUSE-TICKET after the tests of R181. A TAKEN ticket names a position (R164). -/
def State.refuseOrder (s : State) (a : BitVec 16 × Bool) : OrderEffect :=
  match s.ticketNumbered a.1 with
  | none => s.refuse .notFound
  | some t =>
    if t.state = .taken then
      let s : State := match t.position with
        | some q => s.refusePosition t q a.2
        | none => s.allocateTicket none t
      (s, .done, s.refusedWords a.1)
    else s.refuse .wrongState

/-- REFUSE-TICKET. -/
def applyRefuseTicket (s : State) (o : Order) : OrderEffect := s.withArgs (refuseArgs o.args) s.refuseOrder

/-- REFUSE_TICKET (R172). -/
def execRefuseTicket (s : State) : Host.Outcome State Fault Refusal := s.takeOrder (hasCode 31) applyRefuseTicket

end Sys2Proof.Machine
end

