-- ==== Sys2Proof/Machine/Dispatch.lean ====
section
/-! DEFINITION. The commands' meanings, one arm for each constructor of `Instr`. -/

namespace Sys2Proof.Machine

def exec (i : Instr) (s : State) : Host.Outcome State Fault Refusal :=
  match i with
  | .powerOn => Sys2Proof.Machine.execPowerOn s
  | .headLinkLoss h => Sys2Proof.Machine.execHeadLinkLoss h s
  | .headLinkUp h => Sys2Proof.Machine.execHeadLinkUp h s
  | .storeLinkLoss => Sys2Proof.Machine.execStoreLinkLoss s
  | .storeLinkUp => Sys2Proof.Machine.execStoreLinkUp s
  | .frameHead h c => Sys2Proof.Machine.execFrameHead h c s
  | .line h c => Sys2Proof.Machine.execLine h c s
  | .frameEnd h c => Sys2Proof.Machine.execFrameEnd h c s
  | .reelEnd h c => Sys2Proof.Machine.execReelEnd h c s
  | .storeAck c => Sys2Proof.Machine.execStoreAck c s
  | .credit c => Sys2Proof.Machine.execCredit c s
  | .order p c => Sys2Proof.Machine.execOrder p c s
  | .otherKindCell p kind c => Sys2Proof.Machine.execOtherKindCell p kind c s
  | .repairWaitTimerExpiry b => Sys2Proof.Machine.execRepairWaitTimerExpiry b s
  | .ackTimerExpiry b => Sys2Proof.Machine.execAckTimerExpiry b s
  | .repairCompletion => Sys2Proof.Machine.execRepairCompletion s
  | .outLine => Sys2Proof.Machine.execOutLine s
  | .sendCompletion => Sys2Proof.Machine.execSendCompletion s
  | .replySent p => Sys2Proof.Machine.execReplySent p s
  | .noticeSent => Sys2Proof.Machine.execNoticeSent s
  | .flowCellSent h => Sys2Proof.Machine.execFlowCellSent h s
  | .mountReel => Sys2Proof.Machine.execMountReel s
  | .unmountReelEnd => Sys2Proof.Machine.execUnmountReelEnd s
  | .unmountReelAbort => Sys2Proof.Machine.execUnmountReelAbort s
  | .holdReel => Sys2Proof.Machine.execHoldReel s
  | .resumeReel => Sys2Proof.Machine.execResumeReel s
  | .setReelPolicy => Sys2Proof.Machine.execSetReelPolicy s
  | .readReel => Sys2Proof.Machine.execReadReel s
  | .setGauge => Sys2Proof.Machine.execSetGauge s
  | .readHead => Sys2Proof.Machine.execReadHead s
  | .setPoolMarks => Sys2Proof.Machine.execSetPoolMarks s
  | .readPool => Sys2Proof.Machine.execReadPool s
  | .setDefectLimits => Sys2Proof.Machine.execSetDefectLimits s
  | .setRepairLimits => Sys2Proof.Machine.execSetRepairLimits s
  | .loadProfileCurve => Sys2Proof.Machine.execLoadProfileCurve s
  | .setProfileLevels => Sys2Proof.Machine.execSetProfileLevels s
  | .readProfile => Sys2Proof.Machine.execReadProfile s
  | .setReelGrade => Sys2Proof.Machine.execSetReelGrade s
  | .setCue => Sys2Proof.Machine.execSetCue s
  | .clearCues => Sys2Proof.Machine.execClearCues s
  | .writeLaneMap => Sys2Proof.Machine.execWriteLaneMap s
  | .setAckWait => Sys2Proof.Machine.execSetAckWait s
  | .readLanes => Sys2Proof.Machine.execReadLanes s
  | .writeCatalogue => Sys2Proof.Machine.execWriteCatalogue s
  | .eraseCatalogue => Sys2Proof.Machine.execEraseCatalogue s
  | .readCatalogue => Sys2Proof.Machine.execReadCatalogue s
  | .defineShelves => Sys2Proof.Machine.execDefineShelves s
  | .shelfLock => Sys2Proof.Machine.execShelfLock s
  | .shelfUnlock => Sys2Proof.Machine.execShelfUnlock s
  | .readShelf => Sys2Proof.Machine.execReadShelf s
  | .nextTicket => Sys2Proof.Machine.execNextTicket s
  | .confirmTicket => Sys2Proof.Machine.execConfirmTicket s
  | .refuseTicket => Sys2Proof.Machine.execRefuseTicket s
  | .identify => Sys2Proof.Machine.execIdentify s
  | .softReset => Sys2Proof.Machine.execSoftReset s
  | .setNoticeLevels => Sys2Proof.Machine.execSetNoticeLevels s
  | .setNoticePort => Sys2Proof.Machine.execSetNoticePort s
  | .resetInputLow => Sys2Proof.Machine.execResetInputLow s

end Sys2Proof.Machine
end

