-- ==== Sys2Proof/Safety.lean ====
section
/-! DEFINITION. What holds of a sound state of the part, and what an event may touch: the terms the statements use. -/

namespace Sys2Proof.Machine

/-! ### Values in their ranges -/

/-- A trim lies in −32 to 31 (R104). -/
def trimInRange (t : Int) : Prop := -32 ≤ t ∧ t ≤ 31

/-- The trims of a grade are in range (R104). -/
def Grade.InRange (g : Grade) : Prop := trimInRange g.trimR ∧ trimInRange g.trimG ∧ trimInRange g.trimB

/-- The fields of a policy are in range (R1). -/
def Policy.InRange (p : Policy) : Prop := p.settleCount ≤ 7 ∧ p.irThreshold ≤ 65535 ∧ p.perfRunLimit ≤ 15

/-- A deferred entry holds a policy in range, where it holds one (R15). -/
def Deferred.InRange : Deferred → Prop
  | .setPolicy _ p => p.InRange
  | .holdReel _ | .unmountEnd _ => True

/-- The cue list of a reel (R106): at most 16 cues, in strictly ascending frame-number order, each ahead of the last opened
frame number. -/
structure Reel.CuesOk (x : Reel) : Prop where
  few : x.cues.length ≤ Config.maxCues
  ascending : x.cues.Pairwise fun a b => a.frame < b.frame
  ahead : ∀ n, x.lastOpened = some n → ∀ c ∈ x.cues, n < c.frame

/-- A shrink lies in −500 to 2000 basis points (R40). -/
def shrinkOk (e : Option Int) : Prop := ∀ x, e = some x → -500 ≤ x ∧ x ≤ 2000

/-- An offset lies in −64 to 64 lines (R1, R45). -/
def offsetInRange (o : Int) : Prop := -64 ≤ o ∧ o ≤ 64

/-- The fields of a reel record are in range (R1, R15, R40, R104, R106). -/
structure Reel.InRange (x : Reel) : Prop where
  policy : x.policy.InRange
  grade : x.grade.InRange
  cues : x.CuesOk
  cueFields : ∀ c ∈ x.cues, c.frame ≤ 16777215 ∧ c.grade.InRange
  fewDeferred : x.deferred.length ≤ Config.maxDeferred
  deferred : ∀ d ∈ x.deferred, d.InRange
  lastOpened : ∀ n, x.lastOpened = some n → n ≤ 16777215
  settleRemaining : x.settleRemaining ≤ 7
  shrinkEstimate : shrinkOk x.shrinkEstimate
  lastOffset : offsetInRange x.lastOffset
  perfRun : x.perfRun ≤ 255

/-- The fields of a gauge table entry are in range (R34). -/
def Gauge.InRange (g : Gauge) : Prop :=
  (g.pitch = 0 ∨ 256 ≤ g.pitch ∧ g.pitch ≤ 65535) ∧ g.anchor ≤ 65535 ∧ g.range ≤ 64

/-- The fields of a buffer record are in range (R45, R66). -/
structure Buffer.InRange (b : Buffer) : Prop where
  frame : b.frame ≤ 16777215
  lines : 1 ≤ b.lines ∧ b.lines ≤ Config.maxLines
  width : 1 ≤ b.width ∧ b.width ≤ Config.maxWidth
  runs : b.runs.length ≤ Config.maxRuns
  offset : offsetInRange b.offset
  grade : b.grade.InRange

/-- The fields of a catalogue record are in range (R145). -/
structure Record.InRange (x : Record) : Prop where
  identity : x.identity < 2 ^ 48
  vinegar : x.vinegar ≤ 3
  priorScore : x.priorScore ≤ 1000
  lastScore : ∀ n, x.lastScore = some n → n ≤ 1000
  lastShrink : shrinkOk x.lastShrink
  scanCount : x.scanCount ≤ 255

/-- The notice unit (R184, R185): one pending notice for each entry, in table order, with coalesce counts of at most 255 and
instance numbers of at most 7, and levels and a mask of at most 3. -/
structure NoticeUnit.InRange (u : NoticeUnit) : Prop where
  sorted : u.waiting.Pairwise fun a b => a.key < b.key
  counts : ∀ n ∈ u.waiting, n.count ≤ 255
  instances : ∀ n ∈ u.waiting, n.inst < 8
  inFlight : ∀ f, u.inFlight = some f → f.notice.count ≤ 255 ∧ f.notice.inst < 8
  levels : ∀ k : Fin 17, u.levels[k] ≤ 3
  mask : u.mask ≤ 3

/-- The lists of a port hold no more than they can (R177, R179). -/
def PortState.InRange (q : PortState) : Prop :=
  q.orders.length ≤ Config.maxOrders ∧ q.transmit.length ≤ Config.maxTransmit

/-- Every block's values are in the ranges its chapter gives. -/
structure State.InRange (s : State) : Prop where
  reels : ∀ r : Slot, s.reels[r].InRange
  gauges : ∀ g : GaugeCode, s.intake.gauges[g].InRange
  buffers : ∀ b : Buf, s.pool.buffers[b].InRange
  marks : 1 ≤ s.pool.lowMark ∧ s.pool.lowMark ≤ 16 ∧ s.pool.lowMark < s.pool.resumeMark ∧ s.pool.resumeMark ≤ 32
  defect : 1 ≤ s.defect.heavyLimit ∧ s.defect.heavyLimit ≤ 1000 ∧ s.defect.badLineLimit ≤ 3072
  repairWait : 100 ≤ s.repair.wait ∧ s.repair.wait ≤ 25500 ∧ s.repair.wait % 100 = 0
  repairSpan : 1 ≤ s.repair.span ∧ s.repair.span ≤ 512
  credits : ∀ l : Lane, s.delivery.credits[l] ≤ Config.maxCredit
  ackWait : 10 ≤ s.delivery.ackWait ∧ s.delivery.ackWait ≤ 10000
  catalogue : ∀ i : RecordNo, s.catalogue[i].InRange
  tickets : s.shelf.tickets.length ≤ Config.maxTickets
  notices : s.notices.InRange
  ports : ∀ p : Port, s.links.ports[p].InRange

/-- Every region of the stacked DRAM is in canonical form. -/
def State.MemoryWf (s : State) : Prop := ∀ b : Buf, s.pool.dram[b].wf = true

/-! ### Records and shelf positions (R146, R159, R164) -/

/-- Whether a position is held for a record: OCCUPIED or RESERVED. -/
def PositionState.taken : PositionState → Bool
  | .occupied | .reserved => true
  | .undefined | .free | .blocked => false

/-- Whether a ticket names a position: it is ISSUED or TAKEN. -/
def TicketState.named : TicketState → Bool
  | .issued | .taken => true
  | .awaitingSpace => false

/-- The ties between reels, catalogue records, shelf positions and tickets. -/
structure State.Tied (s : State) : Prop where
  /-- A record that names a position owns it (R146). -/
  owned : ∀ (i : RecordNo) (q : PositionNo), s.catalogue[i].position = some q → s.shelf.positions[q].owner = some i
  /-- A position that has an owner is named by it (R146). -/
  named : ∀ (i : RecordNo) (q : PositionNo), s.shelf.positions[q].owner = some i → s.catalogue[i].position = some q
  /-- A position has an owner exactly when it is OCCUPIED or RESERVED (R159). -/
  taken : ∀ q : PositionNo, s.shelf.positions[q].owner.isSome = s.shelf.positions[q].state.taken
  /-- A record in EMPTY names no position (R146). -/
  empty : ∀ i : RecordNo, s.catalogue[i].state = .empty → s.catalogue[i].position = none
  /-- The ticket queue holds at most 16 tickets (R164). -/
  few : s.shelf.tickets.length ≤ Config.maxTickets
  /-- No two tickets carry one number (R164). -/
  numbers : s.shelf.tickets.Pairwise fun a b => a.number ≠ b.number
  /-- No two tickets name one record (R164). -/
  records : s.shelf.tickets.Pairwise fun a b => a.record ≠ b.record
  /-- A ticket's record is in PENDING_SHELF (R164). -/
  pending : ∀ t ∈ s.shelf.tickets, s.catalogue[t.record].state = .pendingShelf
  /-- A record in PENDING_SHELF has a ticket (R164). -/
  ticketed : ∀ i : RecordNo, s.catalogue[i].state = .pendingShelf → ∃ t ∈ s.shelf.tickets, t.record = i
  /-- A ticket in ISSUED or TAKEN names its record's position (R164, R167). -/
  issued : ∀ t ∈ s.shelf.tickets, t.state.named = true → t.position.isSome = true ∧ t.position = s.catalogue[t.record].position
  /-- A ticket that waits for space names none (R164). -/
  waiting : ∀ t ∈ s.shelf.tickets, t.state.named = false → t.position = none
  /-- The record of a slot that is not FREE is ON_HEAD (R151). -/
  onHead : ∀ r : Slot, s.reels[r].state ≠ .free → s.catalogue[s.reels[r].record].state = .onHead
  /-- No two slots that are not FREE hold one record (R5). -/
  slots : ∀ r r' : Slot, s.reels[r].state ≠ .free → s.reels[r'].state ≠ .free → s.reels[r].record = s.reels[r'].record → r = r'
  /-- The closed-reel wait list holds CLOSED slots, each once (R22). -/
  waitClosed : ∀ r ∈ s.shelf.waitList, s.reels[r].state = .closed
  waitOnce : s.shelf.waitList.Nodup
  /-- Only a reel bound to its head has deferred orders: the list is emptied on entering DRAINING (R15, R24). -/
  deferredBound : ∀ r : Slot, s.reels[r].deferred ≠ [] → s.reels[r].state.bound = true

/-! ### What an event may touch -/

/-- The settings of the part that orders alone change. -/
structure Settings where
  gauges : Vector Gauge 4
  lowMark : Nat
  resumeMark : Nat
  defect : DefectLimits
  repairWait : Nat
  repairSpan : Nat
  profiles : Vector Profile 8
  laneMap : Vector Lane 32
  ackWait : Nat
  levels : Vector Nat 17
  mask : Nat
  noticePort : Port
  deriving DecidableEq, Repr

/-- The settings in force: the gauge table, the pool marks, the defect and repair limits, the profiles, the lane map and ack
wait, the notice levels, mask and port. -/
def State.settings (s : State) : Settings :=
  { gauges := s.intake.gauges
    lowMark := s.pool.lowMark
    resumeMark := s.pool.resumeMark
    defect := s.defect
    repairWait := s.repair.wait
    repairSpan := s.repair.span
    profiles := s.profiles
    laneMap := s.delivery.laneMap
    ackWait := s.delivery.ackWait
    levels := s.notices.levels
    mask := s.notices.mask
    noticePort := s.notices.port }

/-- What stands outside a block's own work: the settings, the order unit's last served port, the reset input, the count of
abandoned repairs and the queue of commands. -/
structure Standing where
  settings : Settings
  lastPort : Port
  resetLow : Bool
  abandoned : Nat
  pending : List Instr
  deriving DecidableEq, Repr

/-- The standing part of a state. -/
def State.standing (s : State) : Standing :=
  { settings := s.settings
    lastPort := s.lastPort
    resetLow := s.resetLow
    abandoned := s.abandoned
    pending := s.pending }

/-- A notice of an entry is pending or in flight. -/
def State.Noticed (s : State) (kind : NoticeKind) (inst : Nat) : Prop :=
  (∃ n ∈ s.notices.waiting, n.kind = kind ∧ n.inst = inst) ∨
    ∃ f, s.notices.inFlight = some f ∧ f.notice.kind = kind ∧ f.notice.inst = inst

/-- A notice with a record and a detail is pending or in flight. -/
def State.Reports (s : State) (kind : NoticeKind) (inst : Nat) (record : Option RecordNo) (detail : Nat) : Prop :=
  ∃ n : Notice, (n ∈ s.notices.waiting ∨ ∃ p, s.notices.inFlight = some ⟨n, p⟩) ∧
    n.kind = kind ∧ n.inst = inst ∧ n.record = record ∧ n.detail = detail

/-! ### Deferred orders by their kind (R15) -/

/-- Whether a deferred order is an UNMOUNT-REEL END. -/
def Deferred.ends : Deferred → Bool
  | .unmountEnd _ => true
  | .holdReel _ | .setPolicy _ _ => false

/-- Whether a deferred order is a HOLD-REEL. -/
def Deferred.holds : Deferred → Bool
  | .holdReel _ => true
  | .unmountEnd _ | .setPolicy _ _ => false

/-- The policy of a deferred SET-REEL-POLICY. -/
def Deferred.newPolicy : Deferred → Option Policy
  | .setPolicy _ p => some p
  | .holdReel _ | .unmountEnd _ => none

/-- The state an order's taking leads to: its effects, its reply, and the notice unit's hand-over (R180, R185). -/
def replied (p : Port) (o : Order) (e : OrderEffect) : State :=
  (e.1.formReply p o.tag o.code e.2.1 e.2.2).handOver

/-! ### Orders as the order unit meets them (R180, R181) -/

/-- The order unit's next order is `o`, of a code and with argument words, on port `p`. -/
def State.Takes (s : State) (p : Port) (o : Order) (code : Nat) (args : List Word) : Prop :=
  s.nextOrder = some (p, o) ∧ o.code.toNat = code ∧ o.args = args

/-- The commands that take an order of a code; the two rows of UNMOUNT-REEL share one code (section 11.7). -/
def orderCommands : Nat → List Instr
  | 1 => [.mountReel]
  | 2 => [.unmountReelEnd, .unmountReelAbort]
  | 3 => [.holdReel]
  | 4 => [.resumeReel]
  | 5 => [.setReelPolicy]
  | 6 => [.readReel]
  | 7 => [.setGauge]
  | 8 => [.readHead]
  | 9 => [.setPoolMarks]
  | 10 => [.readPool]
  | 11 => [.setDefectLimits]
  | 12 => [.setRepairLimits]
  | 13 => [.loadProfileCurve]
  | 14 => [.setProfileLevels]
  | 15 => [.readProfile]
  | 16 => [.setReelGrade]
  | 17 => [.setCue]
  | 18 => [.clearCues]
  | 19 => [.writeLaneMap]
  | 20 => [.setAckWait]
  | 21 => [.readLanes]
  | 22 => [.writeCatalogue]
  | 23 => [.eraseCatalogue]
  | 24 => [.readCatalogue]
  | 25 => [.defineShelves]
  | 26 => [.shelfLock]
  | 27 => [.shelfUnlock]
  | 28 => [.readShelf]
  | 29 => [.nextTicket]
  | 30 => [.confirmTicket]
  | 31 => [.refuseTicket]
  | 32 => [.identify]
  | 33 => [.softReset]
  | 34 => [.setNoticeLevels]
  | 35 => [.setNoticePort]
  | _ => []

/-- The order codes (section 11.7). -/
def orderCodes : List Nat := List.range' 1 35

/-- The word counts an order accepts, by code (section 11.7). -/
def acceptedCounts : Nat → List Nat
  | 1 => [7, 11]
  | 2 | 9 | 11 | 12 | 28 | 31 => [2]
  | 3 | 4 | 6 | 8 | 18 | 20 | 23 | 24 | 26 | 27 | 30 | 35 => [1]
  | 5 | 16 => [5]
  | 7 | 15 => [4]
  | 10 | 21 => [0, 1]
  | 13 => List.range' 5 32
  | 14 => [9]
  | 17 => [6]
  | 19 => List.range' 3 32
  | 22 => [7, 8]
  | 25 => [3]
  | 29 | 32 | 33 => [0]
  | 34 => [18]
  | _ => []

/-- Whether the value list of LOAD-PROFILE-CURVE and the lane list of WRITE-LANE-MAP hold as many words as their count word
tells (R101, R127). Other orders have no such list. -/
def listCountRight : Nat → List Word → Bool
  | 13, _ :: _ :: _ :: count :: values => decide (values.length = count.toNat)
  | 19, _ :: count :: lanes => decide (lanes.length = count.toNat)
  | _, _ => true

/-- A word is at most a number. -/
def wordAtMost (n : Nat) (w : Word) : Bool := decide (w.toNat ≤ n)

/-- A word lies between two numbers. -/
def wordBetween (lo hi : Nat) (w : Word) : Bool := decide (lo ≤ w.toNat ∧ w.toNat ≤ hi)

/-- A word is a trim. -/
def wordIsTrim (w : Word) : Bool := decide (-32 ≤ w.toInt ∧ w.toInt ≤ 31)

/-- A word is a nominal pitch of the gauge table: 0, or 256 to 65535 (R34, R35). -/
def wordIsPitch (w : Word) : Bool := decide (w.toNat = 0) || wordBetween 256 65535 w

/-- A word is an output depth (R102). -/
def wordIsDepth (w : Word) : Bool := decide (w.toNat = 10) || decide (w.toNat = 12) || decide (w.toNat = 16)

/-- Whether an order's argument words, in a number its code accepts, lie in the ranges its rule gives (R181 test 3). -/
def argumentsInRange : Nat → List Word → Bool
  | 1, [h, i, g, p, r, gr, b] =>
    wordAtMost 3 h && wordAtMost 511 i && wordAtMost 3 g && wordAtMost 7 p && wordIsTrim r && wordIsTrim gr && wordIsTrim b
  | 1, [h, i, g, p, r, gr, b, settle, ir, action, limit] =>
    wordAtMost 3 h && wordAtMost 511 i && wordAtMost 3 g && wordAtMost 7 p && wordIsTrim r && wordIsTrim gr &&
      wordIsTrim b && wordAtMost 7 settle && wordAtMost 65535 ir && wordAtMost 1 action && wordAtMost 15 limit
  | 2, [r, form] => wordAtMost 7 r && wordAtMost 1 form
  | 3, [r] | 4, [r] | 6, [r] | 18, [r] => wordAtMost 7 r
  | 5, [r, settle, ir, action, limit] =>
    wordAtMost 7 r && wordAtMost 7 settle && wordAtMost 65535 ir && wordAtMost 1 action && wordAtMost 15 limit
  | 7, [g, pitch, anchor, range] => wordAtMost 3 g && wordIsPitch pitch && wordAtMost 65535 anchor && wordAtMost 64 range
  | 8, [h] => wordAtMost 3 h
  | 9, [l, m] => wordBetween 1 16 l && wordBetween 2 32 m && decide (l.toNat < m.toNat)
  | 10, [b] => wordAtMost 31 b
  | 11, [heavy, bad] => wordBetween 1 1000 heavy && wordAtMost 3072 bad
  | 12, [wait, span] => wordBetween 100 25500 wait && decide (wait.toNat % 100 = 0) && wordBetween 1 512 span
  | 13, p :: c :: first :: count :: values =>
    wordAtMost 7 p && wordAtMost 2 c && wordAtMost 256 first && wordBetween 1 32 count &&
      decide (first.toNat + count.toNat ≤ 257) && values.all (wordAtMost 65535)
  | 14, [p, kr, kg, kb, gr, gg, gb, depth, dither] =>
    wordAtMost 7 p && [kr, kg, kb, gr, gg, gb].all (wordAtMost 65535) && wordIsDepth depth && wordAtMost 1 dither
  | 15, [p, c, first, count] =>
    wordAtMost 7 p && wordAtMost 2 c && wordAtMost 256 first && wordBetween 1 32 count &&
      decide (first.toNat + count.toNat ≤ 257)
  | 16, [r, p, tr, tg, tb] => wordAtMost 7 r && wordAtMost 7 p && wordIsTrim tr && wordIsTrim tg && wordIsTrim tb
  | 17, [r, f, p, tr, tg, tb] =>
    wordAtMost 7 r && wordAtMost 16777215 f && wordAtMost 7 p && wordIsTrim tr && wordIsTrim tg && wordIsTrim tb
  | 19, first :: count :: lanes =>
    wordAtMost 31 first && wordBetween 1 32 count && decide (first.toNat + count.toNat ≤ 32) && lanes.all (wordAtMost 3)
  | 20, [w] => wordBetween 10 10000 w
  | 21, [l] => wordAtMost 3 l
  | 22, [i, _, hi, base, gauge, vinegar, score] =>
    wordAtMost 511 i && wordAtMost 65535 hi && wordAtMost 3 base && wordAtMost 3 gauge && wordAtMost 3 vinegar &&
      wordAtMost 1000 score
  | 22, [i, _, hi, base, gauge, vinegar, score, q] =>
    wordAtMost 511 i && wordAtMost 65535 hi && wordAtMost 3 base && wordAtMost 3 gauge && wordAtMost 3 vinegar &&
      wordAtMost 1000 score && wordAtMost 1023 q
  | 23, [i] | 24, [i] => wordAtMost 511 i
  | 25, [first, count, cls] =>
    wordAtMost 1023 first && wordBetween 1 1024 count && decide (first.toNat + count.toNat ≤ 1024) && wordAtMost 4 cls
  | 26, [q] | 27, [q] => wordAtMost 1023 q
  | 28, [first, count] =>
    wordAtMost 1023 first && wordBetween 1 64 count && decide (first.toNat + count.toNat ≤ 1024)
  | 30, [n] => wordAtMost 65535 n
  | 31, [n, block] => wordAtMost 65535 n && wordAtMost 1 block
  | 34, mask :: levels => wordAtMost 3 mask && levels.all (wordAtMost 3)
  | 35, [p] => wordAtMost 4 p
  | _, _ => true

/-- The orders whose refusal with BAD_ARGUMENT carries results, which their rules name: SET-GAUGE, SET-DEFECT-LIMITS,
SET-REPAIR-LIMITS, SET-ACK-WAIT and WRITE-CATALOGUE (R35, R75, R96, R143, R147; log entry 12). -/
def reportsWhenRefused : List Nat := [7, 11, 12, 20, 22]

end Sys2Proof.Machine
end

