-- ==== Sys2Proof/WellFormed.lean ====
section
/-! DEFINITION. Which commands a sender can send.

The operands of `Instr` are typed, so that a port, a head and a buffer are always ones the part has. Two checks are left:
a cell's payload length fits the envelope's length field, and the kind of OTHER_KIND_CELL is one that its port does not
handle. A cell of any contents can arrive (R176), so its bytes are not checked here. `exec` has a meaning for an
ill-formed command as well. -/

namespace Sys2Proof

open Machine

/-- The envelope's payload length field has four bytes (section 11.7). -/
def RxCell.wellFormed (c : RxCell) : Bool := decide (c.payload.length < 2 ^ 32)

/-- Whether a kind is handled on a port (the table of R176). -/
def kindHandled (p : Port) (kind : Byte) : Bool :=
  if p = portS then decide (kind = kindStoreAck ∨ kind = kindCredit ∨ kind = kindOrder)
  else decide (kind = kindFrameHead ∨ kind = kindLine ∨ kind = kindFrameEnd ∨ kind = kindReelEnd ∨ kind = kindOrder)

/-- Whether a command is one a sender can send. -/
def Instr.wellFormed : Instr → Bool
  | .frameHead _ c | .line _ c | .frameEnd _ c | .reelEnd _ c | .storeAck c | .credit c | .order _ c => c.wellFormed
  | .otherKindCell p kind c => c.wellFormed && !kindHandled p kind
  | .powerOn | .headLinkLoss _ | .headLinkUp _ | .storeLinkLoss | .storeLinkUp | .repairWaitTimerExpiry _
  | .ackTimerExpiry _ | .repairCompletion | .outLine | .sendCompletion | .replySent _ | .noticeSent | .flowCellSent _
  | .mountReel | .unmountReelEnd | .unmountReelAbort | .holdReel | .resumeReel | .setReelPolicy | .readReel
  | .setGauge | .readHead | .setPoolMarks | .readPool | .setDefectLimits | .setRepairLimits | .loadProfileCurve
  | .setProfileLevels | .readProfile | .setReelGrade | .setCue | .clearCues | .writeLaneMap | .setAckWait
  | .readLanes | .writeCatalogue | .eraseCatalogue | .readCatalogue | .defineShelves | .shelfLock | .shelfUnlock
  | .readShelf | .nextTicket | .confirmTicket | .refuseTicket | .identify | .softReset | .setNoticeLevels
  | .setNoticePort | .resetInputLow => true

end Sys2Proof
end

