-- ==== Sys2Proof/Certificates/Slice0/Obligations.lean ====
section
/-! DEFINITION. The statements for the provers. Each one's docstring names the rules of spec/ it formalises. A statement that
rests on a choice of the model's names the log entry. -/

section Statements

open Sys2Proof Sys2Proof.Machine

/-! ### The part as a whole -/

/-- A step takes the command at the front of the queue and runs it with the queue's rest (the model's queue, log entry
1). With no command waiting, the part idles (log entry 1). -/
def Obligations.StepTakesFrontCommand : Prop :=
  (∀ (c : Instr) (s : State), step { s with pending := c :: s.pending } = exec c s) ∧
  (∀ s : State, s.pending = [] → step s = .next s)

/-- Every command completes, and none touches the queue of the commands that wait: the manual names no event after which the
part stops. The queue is the model's own (log entries 1 and 15, DESIGN CHOICE), and so is it that a command of an event
which cannot occur in the state completes as well, with nothing changed (log entry 3, DESIGN CHOICE). -/
def Obligations.EveryCommandCompletes : Prop :=
  ∀ (c : Instr) (s : State), ∃ t, exec c s = .next t ∧ t.pending = s.pending

/-- The power-on values of every block (R3, R24, R34, R45, R61, R74, R95, R98, R126, R145, R159, R164, R174 to R180, R184 to
R186): every field of every record, with the reset input released. That every sample of the DRAM then reads as 0 in all
four channels is the model's choice (log entry 7, DESIGN CHOICE). -/
def Obligations.ResetHoldsPowerOnValues : Prop :=
  let s := State.reset
  (∀ r : Slot, s.reels[r].state = .free ∧ s.reels[r].head = 0 ∧ s.reels[r].record = 0 ∧ s.reels[r].gauge = 0 ∧
    s.reels[r].policy = ⟨2, 12000, .pass, 0⟩ ∧ s.reels[r].grade = ⟨0, 0, 0, 0⟩ ∧ s.reels[r].cues = [] ∧
    s.reels[r].deferred = [] ∧ s.reels[r].lastOpened = none ∧ s.reels[r].settleRemaining = 2 ∧
    s.reels[r].shrinkEstimate = none ∧ s.reels[r].lastOffset = 0 ∧ s.reels[r].perfRun = 0 ∧ s.reels[r].latest = none ∧
    s.reels[r].closeReason = none ∧ s.reels[r].counters = {}) ∧
  (∀ h : Head, s.intake.heads[h] = ⟨.idle, 0, 0, 0, 0, none⟩) ∧ (∀ g : GaugeCode, s.intake.gauges[g] = ⟨0, 0, 0⟩) ∧
  (∀ b : Buf, s.pool.buffers[b] =
    { state := .free, slot := 0, record := 0, frame := 0, lines := 1, width := 1, received := [], badLines := 0, runs := []
      overflow := false, defective := 0, repaired := 0, unrepaired := 0, offset := 0, grade := ⟨0, 0, 0, 0⟩, heavy := false
      successorHold := false, neighbourHolds := 0, lane := none, delivery := .neverSent, resolution := none
      repairTimer := none, ackTimer := none }) ∧
  (∀ (b : Buf) (a : Nat), s.pool.dram[b].read a = ⟨0, 0, 0, 0⟩) ∧ s.resetLow = false ∧
  s.freeCount = 32 ∧ s.pool.pacing = .open_ ∧ s.pool.lowMark = 4 ∧ s.pool.resumeMark = 10 ∧
  s.defect = ⟨20, 64⟩ ∧ s.repair = ⟨[], none, 2000, 64⟩ ∧
  (∀ (p : ProfileNo) (c : Fin 3), s.profiles[p].channels[c].black = 0 ∧ s.profiles[p].channels[c].gain = 4096 ∧
    (∀ i : Fin 257, s.profiles[p].channels[c].curve[i].toNat = min 65535 (256 * i.val)) ∧
    s.profiles[p].depth = .d16 ∧ s.profiles[p].dither = false) ∧
  (∀ i : Fin 32, s.delivery.laneMap[i].val = i.val % 4) ∧
  (∀ l : Lane, s.delivery.queues[l] = [] ∧ s.delivery.credits[l] = 0) ∧ s.delivery.lastServed = 3 ∧
  s.delivery.transmitter = .idle ∧ s.delivery.ackWait = 1000 ∧ s.delivery.staleAcks = 0 ∧ s.delivery.cutSends = 0 ∧
  (∀ i : RecordNo, s.catalogue[i] = ⟨.empty, 0, .unknown, 0, 0, 0, none, none, none, none, none, 0, none⟩) ∧
  (∀ q : PositionNo, s.shelf.positions[q] = ⟨none, .undefined, none, false⟩) ∧
  s.shelf.tickets = [] ∧ s.shelf.nextNumber = 0 ∧ s.shelf.waitList = [] ∧
  s.notices.waiting = [] ∧ s.notices.inFlight = none ∧ s.notices.mask = 0 ∧ s.notices.port = portS ∧
  s.notices.levels.toList = [2, 1, 2, 1, 1, 0, 2, 3, 1, 0, 2, 1, 1, 2, 3, 1, 0] ∧
  (∀ p : Port, s.links.ports[p] = ⟨.down, [], [], [], 0, 0, 0⟩) ∧
  s.links.checkFailuresS = 0 ∧ s.links.sunkCellsS = 0 ∧ s.lastPort = portS

/-- The state after reset is sound: its values are in range, its records and positions are tied, and its DRAM regions are in
canonical form. -/
def Obligations.ResetIsSound : Prop := State.reset.InRange ∧ State.reset.Tied ∧ State.reset.MemoryWf

/-- Every step keeps the values that `State.InRange` names in the ranges of their chapters: the fields of reels and gauge
entries, the frame number, size, offset, grade and run list of buffers, the marks, limits, credits and waits, the
catalogue's fields, the tickets, the notice unit and the lists of the ports (R1, R34, R40, R45, R59, R66, R74, R95, R104,
R126, R145, R177, R179, R184). It does not speak of a buffer's holds and sample counts, of the last damage ppm, or of the
lengths of the lane queues and the repair queue. -/
def Obligations.StepKeepsValuesInRange : Prop := ∀ s t : State, s.InRange → step s = .next t → t.InRange

/-- Every step keeps catalogue records, shelf positions, tickets and reel slots tied as R146, R151, R159 and R164 give. -/
def Obligations.StepKeepsRecordsTied : Prop := ∀ s t : State, s.Tied → step s = .next t → t.Tied

/-- Every step keeps the regions of the stacked DRAM in canonical form, so that equal contents are equal data. -/
def Obligations.StepKeepsMemoryCanonical : Prop := ∀ s t : State, s.MemoryWf → step s = .next t → t.MemoryWf

/-- A setting changes only by its own order, the release of the reset input apart (R35, R59, R75, R96, R101, R102, R127, R143,
R186). -/
def Obligations.SettingsChangeOnlyByTheirOrders : Prop :=
  ∀ (c : Instr) (s t : State), c ≠ .powerOn → exec c s = .next t →
    (t.intake.gauges ≠ s.intake.gauges → c = .setGauge) ∧
    (t.pool.lowMark ≠ s.pool.lowMark ∨ t.pool.resumeMark ≠ s.pool.resumeMark → c = .setPoolMarks) ∧
    (t.defect ≠ s.defect → c = .setDefectLimits) ∧
    (t.repair.wait ≠ s.repair.wait ∨ t.repair.span ≠ s.repair.span → c = .setRepairLimits) ∧
    (t.profiles ≠ s.profiles → c = .loadProfileCurve ∨ c = .setProfileLevels) ∧
    (t.delivery.laneMap ≠ s.delivery.laneMap → c = .writeLaneMap) ∧
    (t.delivery.ackWait ≠ s.delivery.ackWait → c = .setAckWait) ∧
    (t.notices.levels ≠ s.notices.levels ∨ t.notices.mask ≠ s.notices.mask → c = .setNoticeLevels) ∧
    (t.notices.port ≠ s.notices.port → c = .setNoticePort) ∧
    (t.lastPort ≠ s.lastPort → ∃ n ∈ orderCodes, c ∈ orderCommands n)

/-- A profile changes only while no reel's current grade, no cue and no unsent buffer names it (R99), and a gauge entry only
while no reel in MOUNTED, RUNNING, HELD or DRAINING holds its code (R34, R35). The release of the reset input is apart. -/
def Obligations.ProfilesAndGaugesChangeOnlyUnused : Prop :=
  ∀ (c : Instr) (s t : State), c ≠ .powerOn → exec c s = .next t →
    (∀ p : ProfileNo, t.profiles[p] ≠ s.profiles[p] →
      (∀ r : Slot, s.reels[r].state ∈ [.mounted, .running, .held, .draining] → s.reels[r].grade.profile ≠ p) ∧
      (∀ r : Slot, ∀ x ∈ s.reels[r].cues, x.grade.profile ≠ p) ∧
      ∀ b : Buf, s.pool.buffers[b].state ∈ [.filling, .pending, .repair, .queued, .sending] →
        s.pool.buffers[b].grade.profile ≠ p) ∧
    ∀ g : GaugeCode, t.intake.gauges[g] ≠ s.intake.gauges[g] →
      ∀ r : Slot, s.reels[r].state ∈ [.mounted, .running, .held, .draining] → s.reels[r].gauge ≠ g

/-- While the reset input is held low the part sends nothing (section 11.8), and it stays low until its release (log entry
4). -/
def Obligations.NothingIsSentWhileResetIsLow : Prop :=
  ∀ (c : Instr) (s t : State), s.resetLow = true → exec c s = .next t →
    t.wire = s.wire ∧ (c ≠ .powerOn → t.resetLow = true)

/-- An event sends at most one cell. It goes out on a port that is UP, carries the port's sequence counter, and advances it by
one, wrapping from 255 to 0 (R178). No cell already sent changes. -/
def Obligations.EachEventSendsAtMostOneCell : Prop :=
  ∀ (c : Instr) (s t : State), exec c s = .next t →
    t.wire = s.wire ∨
    ∃ (p : Port) (kind : Byte) (payload : List Byte),
      t.wire = s.wire ++ [⟨p, cellBytes kind s.links.ports[p].seqOut payload⟩] ∧
      t.links.ports[p].seqOut = s.links.ports[p].seqOut + 1 ∧ s.links.ports[p].link = .up ∧ s.resetLow = false

/-! ### Notices, replies and the order unit (chapter 11) -/

/-- The hand-over of R185: with a notice pending that is eligible, none in flight, the notice port UP and room in its transmit
list, the notice of the highest level goes, and among those of one level the first in the table of R184. It leaves
pending, becomes in flight, and its cell joins the port's transmit list. In every other case nothing happens. -/
def Obligations.HandOverChoosesHighestThenFirst : Prop :=
  ∀ s : State, s.notices.InRange →
    let ready := s.notices.inFlight = none ∧ s.links.ports[s.notices.port].link = .up ∧
      s.links.ports[s.notices.port].transmit.length < 8
    (∀ n ∈ s.notices.waiting, ready → s.notices.mask ≤ s.notices.levelOf n →
      (∀ m ∈ s.notices.waiting, s.notices.mask ≤ s.notices.levelOf m →
        s.notices.levelOf m < s.notices.levelOf n ∨ s.notices.levelOf m = s.notices.levelOf n ∧ n.key ≤ m.key) →
      s.handOver =
        { s with
          notices := { s.notices with
            waiting := s.notices.waiting.filter (fun m => decide (m.key ≠ n.key))
            inFlight := some ⟨n, s.notices.port⟩ }
          links := { s.links with ports := modEntry s.links.ports s.notices.port fun q =>
            { q with transmit := q.transmit ++ [.notice n (s.notices.levelOf n)] } } }) ∧
    ((∀ n ∈ s.notices.waiting, s.notices.levelOf n < s.notices.mask) → s.handOver = s) ∧ (¬ ready → s.handOver = s)

/-- A raise on an entry (R184): its one pending notice holds the raise's index and detail, with the coalesce count one
more, stopping at 255, when one was pending, and 0 when none was. The other entries stand, in table order. A notice in
flight on a port that loses its link goes back to pending; with a newer pending notice of its entry the two become
one, whose count is the sum of the two plus one, stopping at 255, and whose index and detail are the newer's (R185).
-/
def Obligations.RaisesAndReturnsCoalesce : Prop :=
  (∀ (s : State) (kind : NoticeKind) (inst : Nat) (record : Option RecordNo) (detail : Nat), inst < 8 →
     s.notices.InRange →
     let t := s.raise kind inst record detail
     t = { s with notices := { s.notices with waiting := t.notices.waiting } } ∧
     t.notices.waiting.Pairwise (fun a b => a.key < b.key) ∧
     (∀ n, n.kind ≠ kind ∨ n.inst ≠ inst → (n ∈ t.notices.waiting ↔ n ∈ s.notices.waiting)) ∧
     (∀ n ∈ s.notices.waiting, n.kind = kind → n.inst = inst →
       ⟨kind, inst, record, detail, min 255 (n.count + 1)⟩ ∈ t.notices.waiting) ∧
     ((∀ n ∈ s.notices.waiting, n.kind ≠ kind ∨ n.inst ≠ inst) → ⟨kind, inst, record, detail, 0⟩ ∈ t.notices.waiting)) ∧
  (∀ (s : State) (p : Port) (f : InFlight), s.notices.inFlight = some f →
     s.notices.InRange →
     let t := s.returnNotice p
     (f.port = p → t = { s with notices := { s.notices with waiting := t.notices.waiting, inFlight := none } } ∧
       (∀ n, n.kind ≠ f.notice.kind ∨ n.inst ≠ f.notice.inst → (n ∈ t.notices.waiting ↔ n ∈ s.notices.waiting)) ∧
       (∀ n ∈ s.notices.waiting, n.kind = f.notice.kind → n.inst = f.notice.inst →
         { n with count := min 255 (n.count + f.notice.count + 1) } ∈ t.notices.waiting) ∧
       ((∀ n ∈ s.notices.waiting, n.kind ≠ f.notice.kind ∨ n.inst ≠ f.notice.inst) → f.notice ∈ t.notices.waiting)) ∧
     (f.port ≠ p → t = s))

/-- The order unit takes the order at the head of the first eligible port's queue, from the port after the last served in the
cycle H0, H1, H2, H3, S (R180). A port is eligible with an order waiting, its link UP and room in its transmit list. The
take drops exactly that order from its port's queue, leaves the other ports' queues as they are, and makes that port the
last served, whatever the order does: for every command of the order's code, for one of the two commands of UNMOUNT-REEL
(log entry 2), and for an unknown code. An accepted SOFT-RESET alone, by its own effect, then makes S the last served
(R183). The state an order is applied to differs in nothing else. -/
def Obligations.OrderUnitServesPortsInCycle : Prop :=
  (∀ (s : State) (p : Port) (o : Order),
    let eligible (p : Port) : Prop := s.links.ports[p].orders ≠ [] ∧ s.links.ports[p].link = .up ∧
      s.links.ports[p].transmit.length < 8
    s.nextOrder = some (p, o) ↔
      (∃ rest, s.links.ports[p].orders = o :: rest) ∧
      ∃ k, k < 5 ∧ p = s.lastPort + 1 + Fin.ofNat 5 k ∧ eligible p ∧
        ∀ i, i < k → ¬ eligible (s.lastPort + 1 + Fin.ofNat 5 i)) ∧
  (∀ (s : State) (p : Port), ∃ ports : Vector PortState 5,
    s.popOrder p = { s with lastPort := p, links := { s.links with ports := ports } } ∧
    ∀ k : Port, ports[k] =
      if k = p then { s.links.ports[k] with orders := s.links.ports[k].orders.tail } else s.links.ports[k]) ∧
  ∀ (s : State) (p : Port) (o : Order) (rest : List Order) (c : Instr), s.nextOrder = some (p, o) →
    s.links.ports[p].orders = o :: rest →
    let took (t : State) : Prop :=
      t.lastPort = (if o.code.toNat = 33 ∧ o.args = [] then portS else p) ∧ t.links.ports[p].orders = rest ∧
      ∀ k : Port, k ≠ p → t.links.ports[k].orders = s.links.ports[k].orders
    (c ∈ orderCommands o.code.toNat → o.code.toNat ≠ 2 → ∃ t, exec c s = .next t ∧ took t) ∧
    (o.code.toNat = 2 →
      (∃ t, exec .unmountReelEnd s = .next t ∧ took t) ∨ ∃ t, exec .unmountReelAbort s = .next t ∧ took t) ∧
    (o.code.toNat ∉ orderCodes → (∃ n ∈ orderCodes, c ∈ orderCommands n) → ∃ t, exec c s = .next t ∧ took t)

/-- The reply of an order joins the tail of its port's transmit list, or is dropped and counted when the port is DOWN or the
list holds 8 cells (R177), and nothing else changes but what the hand-over of a notice changes (R185). -/
def Obligations.ReplyJoinsTheTransmitList : Prop :=
  ∀ (p : Port) (o : Order) (t : State) (status : Status) (results : List Word),
    (t.links.ports[p].link = .up → t.links.ports[p].transmit.length < 8 →
      replied p o (t, status, results) =
        ({ t with links := { t.links with ports := modEntry t.links.ports p fun q =>
          { q with transmit := q.transmit ++ [.reply o.tag o.code status results] } } } : State).handOver) ∧
    (t.links.ports[p].link = .down ∨ 8 ≤ t.links.ports[p].transmit.length →
      replied p o (t, status, results) =
        ({ t with links := { t.links with ports := modEntry t.links.ports p fun q =>
          { q with dropped := q.dropped + 1 } } } : State).handOver)

/-- An order with a wrong number of argument words, or whose value list does not hold as many words as its count
tells, is answered BAD_ORDER with no results and has no effect. So is an order of an unknown code, whichever order
command takes it (log entry 2). (R181 tests 1 and 2.) An order command whose order is not the next one leaves the part
as it is (log entry 2). -/
def Obligations.WrongCodeOrWordCountIsBadOrder : Prop :=
  (∀ (s : State) (p : Port) (o : Order) (c : Instr), s.nextOrder = some (p, o) →
     (o.code.toNat ∉ orderCodes → (∃ n ∈ orderCodes, c ∈ orderCommands n) →
       exec c s = .next (replied p o (s.popOrder p, .badOrder, []))) ∧
     (c ∈ orderCommands o.code.toNat →
       o.args.length ∉ acceptedCounts o.code.toNat ∨ listCountRight o.code.toNat o.args = false →
       exec c s = .next (replied p o (s.popOrder p, .badOrder, [])))) ∧
  (∀ (s : State) (p : Port) (o : Order) (n : Nat) (c : Instr), c ∈ orderCommands n →
     (s.nextOrder = some (p, o) → o.code.toNat ∈ orderCodes → o.code.toNat ≠ n → exec c s = .next s) ∧
     (s.nextOrder = none → exec c s = .next s))

/-- An order with the right number of words of which one is out of its range is answered BAD_ARGUMENT and has no effect. The
reply carries no results, but for the orders whose rules name them (R181 test 3, section 11.7): which orders those are is
log entry 12 (DEDUCED). A malformed UNMOUNT-REEL is taken by either of its two commands (log entry 2, DESIGN CHOICE). -/
def Obligations.ArgumentOutOfRangeIsBadArgument : Prop :=
  ∀ (s : State) (p : Port) (o : Order) (c : Instr), s.nextOrder = some (p, o) → c ∈ orderCommands o.code.toNat →
    o.args.length ∈ acceptedCounts o.code.toNat → listCountRight o.code.toNat o.args = true →
    argumentsInRange o.code.toNat o.args = false →
    ∃ results, exec c s = .next (replied p o (s.popOrder p, .badArgument, results)) ∧
      (o.code.toNat ∉ reportsWhenRefused → results = [])

/-! ### Orders -/

/-- The eight reading orders answer DONE with what stands when the order is taken, and change no state (R23, R44, R60, R103,
R144, R150, R163, R182). How the results are laid out in words is the model's where section 11.7 leaves it open (log entry
11). -/
def Obligations.ReadersReplyAndChangeNothing : Prop :=
  ∀ (s : State) (p : Port) (o : Order),
    (∀ r : Slot, s.Takes p o 6 [natWord r.val] →
      exec .readReel s = .next (replied p o (s.popOrder p, .done, reelWords s.reels[r]))) ∧
    (∀ h : Head, s.Takes p o 8 [natWord h.val] →
      exec .readHead s = .next (replied p o (s.popOrder p, .done, s.headWords h))) ∧
    (s.Takes p o 10 [] → exec .readPool s = .next (replied p o (s.popOrder p, .done, s.poolWords none))) ∧
    (∀ b : Buf, s.Takes p o 10 [natWord b.val] →
      exec .readPool s = .next (replied p o (s.popOrder p, .done, s.poolWords (some b)))) ∧
    (∀ (q : ProfileNo) (c : Fin 3) (first count : Nat), 1 ≤ count → count ≤ 32 → first + count ≤ 257 →
      s.Takes p o 15 [natWord q.val, natWord c.val, natWord first, natWord count] →
      exec .readProfile s = .next (replied p o (s.popOrder p, .done,
        levelWords s.profiles[q] ++
          ((s.profiles[q].channels[c].curve.toList.drop first).take count).map (fun t => natWord t.toNat) ++
          s.referenceWords q))) ∧
    (s.Takes p o 21 [] → exec .readLanes s = .next (replied p o (s.popOrder p, .done, s.lanesWords none))) ∧
    (∀ l : Lane, s.Takes p o 21 [natWord l.val] →
      exec .readLanes s = .next (replied p o (s.popOrder p, .done, s.lanesWords (some l)))) ∧
    (∀ i : RecordNo, s.Takes p o 24 [natWord i.val] →
      exec .readCatalogue s = .next (replied p o (s.popOrder p, .done, s.catalogueWords i))) ∧
    (∀ first count : Nat, 1 ≤ count → count ≤ 64 → first + count ≤ 1024 →
      s.Takes p o 28 [natWord first, natWord count] →
      exec .readShelf s = .next (replied p o (s.popOrder p, .done, s.shelfWords ⟨first, count⟩))) ∧
    (s.Takes p o 32 [] → exec .identify s = .next (replied p o (s.popOrder p, .done, s.identityReply)))

/-- SET-DEFECT-LIMITS, SET-REPAIR-LIMITS and SET-ACK-WAIT replace their limits at once and change nothing else (R75,
R96, R143). WRITE-LANE-MAP replaces the entries from the first on by the lanes of its list, in order, and leaves the
others; the reply carries the whole map (R127). SET-NOTICE-LEVELS replaces the mask and all 17 levels, and
SET-NOTICE-PORT the notice port; nothing else changes, and the hand-over that follows sees the new settings (R186).
The layout of the reply words is log entry 11's: the engine's state with a buffer only when it is BUSY, the 32 lanes and
the 17 levels without a length word, and a word that tells whether a notice is in flight. -/
def Obligations.SettingOrdersReplaceTheirSettings : Prop :=
  (∀ (s : State) (p : Port) (o : Order),
     (∀ heavy bad : Nat, 1 ≤ heavy → heavy ≤ 1000 → bad ≤ 3072 → s.Takes p o 11 [natWord heavy, natWord bad] →
       exec .setDefectLimits s = .next (replied p o
         ({ s.popOrder p with defect := ⟨heavy, bad⟩ }, .done, [natWord heavy, natWord bad]))) ∧
     (∀ wait span : Nat, 100 ≤ wait → wait ≤ 25500 → wait % 100 = 0 → 1 ≤ span → span ≤ 512 →
       s.Takes p o 12 [natWord wait, natWord span] →
       exec .setRepairLimits s = .next (replied p o
         ({ s.popOrder p with repair := { s.repair with wait := wait, span := span } }, .done,
           [natWord wait, natWord span, natWord s.repair.queue.length] ++
             (match s.repair.engine with | none => [0] | some job => [1, natWord job.request.buf.val])))) ∧
     (∀ wait : Nat, 10 ≤ wait → wait ≤ 10000 → s.Takes p o 20 [natWord wait] →
       exec .setAckWait s = .next (replied p o
         ({ s.popOrder p with delivery := { s.delivery with ackWait := wait } }, .done,
           [natWord wait, natWord (s.bufferCount .awaitAck)])))) ∧
  (∀ (s : State) (p : Port) (o : Order) (first : Nat) (lanes : List Lane), lanes ≠ [] → first + lanes.length ≤ 32 →
     s.Takes p o 19 (natWord first :: natWord lanes.length :: lanes.map fun l => natWord l.val) →
     ∃ m : Vector Lane 32,
       exec .writeLaneMap s = .next (replied p o
         ({ s.popOrder p with delivery := { s.delivery with laneMap := m } }, .done, m.toList.map fun l => natWord l.val)) ∧
       ∀ i : Fin 32, m[i] =
         if first ≤ i.val ∧ i.val < first + lanes.length then lanes.getD (i.val - first) 0 else s.delivery.laneMap[i]) ∧
  (∀ (s : State) (p : Port) (o : Order),
     (∀ (mask : Nat) (levels : Vector Nat 17), mask ≤ 3 → (∀ k : Fin 17, levels[k] ≤ 3) →
       s.Takes p o 34 (natWord mask :: levels.toList.map natWord) →
       exec .setNoticeLevels s = .next (replied p o
         ({ s.popOrder p with notices := { s.notices with mask := mask, levels := levels } }, .done,
           natWord mask :: levels.toList.map natWord ++
             [natWord s.notices.waiting.length, if s.notices.inFlight.isSome then 1 else 0]))) ∧
     (∀ k : Port, s.Takes p o 35 [natWord k.val] →
       exec .setNoticePort s = .next (replied p o
         ({ s.popOrder p with notices := { s.notices with port := k } }, .done, []))))

/-- SET-POOL-MARKS replaces both marks and evaluates the pacing state at once (R59): PACED when an OPEN pool has fewer
free buffers than the low-water mark, OPEN when a PACED pool has at least the resume mark, and unchanged otherwise. A
pool that becomes PACED sends PACE-HOLD to every UP head bound to a reel in MOUNTED or RUNNING and raises POOL_LOW;
one that becomes OPEN sends PACE-GO to every UP head and raises POOL_RECOVERED. Both carry the free count, and nothing
else changes (R56, R57). -/
def Obligations.SetPoolMarksEvaluatesPacing : Prop :=
  (∀ (s : State) (p : Port) (o : Order) (l m : Nat), 1 ≤ l → l ≤ 16 → 2 ≤ m → m ≤ 32 → l < m →
     s.Takes p o 9 [natWord l, natWord m] →
     let t : State := { s.popOrder p with pool := { s.pool with lowMark := l, resumeMark := m } }
     (s.pool.pacing = .open_ → l ≤ s.freeCount →
       exec .setPoolMarks s = .next (replied p o (t, .done, [natWord l, natWord m, 0]))) ∧
     (s.pool.pacing = .open_ → s.freeCount < l →
       exec .setPoolMarks s = .next (replied p o (t.becomePaced, .done, [natWord l, natWord m, 1]))) ∧
     (s.pool.pacing = .paced → s.freeCount < m →
       exec .setPoolMarks s = .next (replied p o (t, .done, [natWord l, natWord m, 1]))) ∧
     (s.pool.pacing = .paced → m ≤ s.freeCount →
       exec .setPoolMarks s = .next (replied p o (t.becomeOpen, .done, [natWord l, natWord m, 0])))) ∧
  (∀ s : State,
     let told (c : FlowCell) (whom : Head → Bool) : Vector PortState 5 :=
       mapEntries (fun i q => match headOf (Fin.ofNat 5 i) with
         | some h => if whom h && decide (q.link = .up) then { q with flow := q.flow ++ [c] } else q
         | none => q) s.links.ports
     s.becomePaced = ({ s with pool := { s.pool with pacing := .paced }
                               links := { s.links with ports := told .paceHold s.feeding } } : State).raise
       .poolLow 0 none s.freeCount ∧
     s.becomeOpen = ({ s with pool := { s.pool with pacing := .open_ }
                              links := { s.links with ports := told .paceGo fun _ => true } } : State).raise
       .poolRecovered 0 none s.freeCount)

/-- SET-GAUGE replaces the entry of a gauge that no reel in MOUNTED, RUNNING, HELD or DRAINING holds, and is refused with
IN_USE otherwise. The reply carries the entry as it stands after the order (R35). -/
def Obligations.SetGaugeReplacesAnUnusedEntry : Prop :=
  ∀ (s : State) (p : Port) (o : Order) (g : GaugeCode) (pitch anchor range : Nat),
    (pitch = 0 ∨ 256 ≤ pitch ∧ pitch ≤ 65535) → anchor ≤ 65535 → range ≤ 64 →
    s.Takes p o 7 [natWord g.val, natWord pitch, natWord anchor, natWord range] →
    ((∀ r : Slot, s.reels[r].state ∈ [.mounted, .running, .held, .draining] → s.reels[r].gauge ≠ g) →
      exec .setGauge s = .next (replied p o
        ({ s.popOrder p with intake := { s.intake with gauges := s.intake.gauges.set g ⟨pitch, anchor, range⟩ } }, .done,
          [natWord pitch, natWord anchor, natWord range]))) ∧
    (∀ r : Slot, s.reels[r].state ∈ [.mounted, .running, .held, .draining] → s.reels[r].gauge = g →
      exec .setGauge s = .next (replied p o (s.popOrder p, .inUse,
        [natWord s.intake.gauges[g].pitch, natWord s.intake.gauges[g].anchor, natWord s.intake.gauges[g].range])))

/-- LOAD-PROFILE-CURVE on an unreferenced profile replaces the points of its range by the values of its list and
leaves every other point, channel and level; on a referenced one it is refused with IN_USE and the three counts
(R101). SET-PROFILE-LEVELS on an unreferenced profile replaces all eight level fields and keeps its curves; on a
referenced one it is refused with IN_USE and the three counts (R102). That the reply of LOAD-PROFILE-CURVE is profile,
channel, first point and count is log entry 11's choice. -/
def Obligations.ProfileOrdersReplaceUnreferencedFields : Prop :=
  (∀ (s : State) (p : Port) (o : Order) (q : ProfileNo) (c : Fin 3) (first : Nat) (values : List Channel),
     1 ≤ values.length → values.length ≤ 32 → first + values.length ≤ 257 →
     s.Takes p o 13 (natWord q.val :: natWord c.val :: natWord first :: natWord values.length ::
       values.map fun v => natWord v.toNat) →
     (s.referenced q = false → ∃ curve : Vector Channel 257,
       exec .loadProfileCurve s = .next (replied p o
         ({ s.popOrder p with
             profiles := s.profiles.set q { s.profiles[q] with
               channels := s.profiles[q].channels.set c { s.profiles[q].channels[c] with curve := curve } } }, .done,
           [natWord q.val, natWord c.val, natWord first, natWord values.length])) ∧
       ∀ i : Fin 257, curve[i] = if first ≤ i.val ∧ i.val < first + values.length then values.getD (i.val - first) 0
         else s.profiles[q].channels[c].curve[i]) ∧
     (s.referenced q = true → exec .loadProfileCurve s = .next (replied p o (s.popOrder p, .inUse,
       [natWord (s.reelReferences q), natWord (s.cueReferences q), natWord (s.bufferReferences q)])))) ∧
  (∀ (s : State) (p : Port) (o : Order) (q : ProfileNo) (kr kg kb gr gg gb : Channel) (depth : Depth) (dither : Bool),
     s.Takes p o 14 (natWord q.val :: ([kr, kg, kb, gr, gg, gb].map (fun v => natWord v.toNat) ++
       [natWord depth.bits, flagWord dither])) →
     let x := s.profiles[q]
     (s.referenced q = false →
       exec .setProfileLevels s = .next (replied p o
         ({ s.popOrder p with
             profiles := s.profiles.set q
               { channels := #v[⟨kr, gr, x.channels[0].curve⟩, ⟨kg, gg, x.channels[1].curve⟩, ⟨kb, gb, x.channels[2].curve⟩]
                 depth := depth
                 dither := dither } }, .done,
           [kr, kg, kb, gr, gg, gb].map (fun v => natWord v.toNat) ++ [natWord depth.bits, flagWord dither]))) ∧
     (s.referenced q = true → exec .setProfileLevels s = .next (replied p o (s.popOrder p, .inUse,
       [natWord (s.reelReferences q), natWord (s.cueReferences q), natWord (s.bufferReferences q)]))))

/-- SET-REEL-GRADE replaces the current grade of a slot in MOUNTED, RUNNING or HELD at once and is refused with
WRONG_STATE on any other (R105). SET-CUE on a slot in MOUNTED, RUNNING or HELD whose list is in order (R106, R107):
LATE at or below the last opened frame number; FULL when 16 cues stand and none has its frame number; otherwise the
list holds the new cue, the old cues of other frames, and nothing else, in ascending order. Log entry 11 gives the
code that tells added from replaced. CLEAR-CUES empties the cue list of a slot in MOUNTED, RUNNING or HELD, keeps its
grade and tells how many cues went; on any other slot it is refused with WRONG_STATE (R108). -/
def Obligations.GradeAndCueOrdersKeepTheListInOrder : Prop :=
  (∀ (s : State) (p : Port) (o : Order) (r : Slot) (g : Grade), g.InRange →
     s.Takes p o 16 [natWord r.val, natWord g.profile.val, intWord g.trimR, intWord g.trimG, intWord g.trimB] →
     (s.reels[r].state ∈ [.mounted, .running, .held] →
       exec .setReelGrade s = .next (replied p o
         ({ s.popOrder p with reels := s.reels.set r { s.reels[r] with grade := g } }, .done,
           [natWord g.profile.val, intWord g.trimR, intWord g.trimG, intWord g.trimB]))) ∧
     (s.reels[r].state ∈ [.free, .draining, .closed] →
       exec .setReelGrade s = .next (replied p o (s.popOrder p, .wrongState, [])))) ∧
  (∀ (s : State) (p : Port) (o : Order) (r : Slot) (c : Cue), c.frame ≤ 16777215 → c.grade.InRange →
     s.Takes p o 17 [natWord r.val, natWord c.frame, natWord c.grade.profile.val, intWord c.grade.trimR,
       intWord c.grade.trimG, intWord c.grade.trimB] →
     s.reels[r].CuesOk →
     let x := s.reels[r]
     let held := x.cues.any fun d => decide (d.frame = c.frame)
     (x.state ∈ [.mounted, .running, .held] → (∀ n, x.lastOpened = some n → n < c.frame) →
       (held = true ∨ x.cues.length < 16) →
       ∃ cues : List Cue,
         exec .setCue s = .next (replied p o
           ({ s.popOrder p with reels := s.reels.set r { x with cues := cues } }, .done,
             [natWord cues.length, if held then 1 else 0])) ∧
         cues.Pairwise (fun a b => a.frame < b.frame) ∧
         ∀ d, d ∈ cues ↔ d = c ∨ d ∈ x.cues ∧ d.frame ≠ c.frame) ∧
     (x.state ∈ [.mounted, .running, .held] → (∀ n, x.lastOpened = some n → n < c.frame) → held = false →
       x.cues.length = 16 → exec .setCue s = .next (replied p o (s.popOrder p, .full, []))) ∧
     (∀ n, x.state ∈ [.mounted, .running, .held] → x.lastOpened = some n → c.frame ≤ n →
       exec .setCue s = .next (replied p o (s.popOrder p, .late, []))) ∧
     (x.state ∈ [.free, .draining, .closed] → exec .setCue s = .next (replied p o (s.popOrder p, .wrongState, [])))) ∧
  (∀ (s : State) (p : Port) (o : Order) (r : Slot), s.Takes p o 18 [natWord r.val] →
     (s.reels[r].state ∈ [.mounted, .running, .held] →
       exec .clearCues s = .next (replied p o
         ({ s.popOrder p with reels := s.reels.set r { s.reels[r] with cues := [] } }, .done,
           [natWord s.reels[r].cues.length]))) ∧
     (s.reels[r].state ∈ [.free, .draining, .closed] →
       exec .clearCues s = .next (replied p o (s.popOrder p, .wrongState, []))))

/-- WRITE-CATALOGUE (R147, R148): an EMPTY record is created OUT, or SHELVED on a FREE unlocked position that becomes
OCCUPIED; a SHELVED or OUT record takes the new account and keeps the rest. A position that is not FREE and unlocked
is refused with IN_USE, and a record ON_HEAD or PENDING_SHELF with WRONG_STATE. Log entry 11 gives the reply's layout.
ERASE-CATALOGUE (R149): a SHELVED or OUT record becomes EMPTY with the values of R145; the position it names becomes
FREE with its class and lock kept, and makes a retry pass when its lock is clear (R168). Any other record is refused
with WRONG_STATE. -/
def Obligations.CatalogueOrdersPairRecordsAndPositions : Prop :=
  (∀ (s : State) (p : Port) (o : Order) (i : RecordNo) (a : Account) (q : Option PositionNo),
     a.identity < 2 ^ 48 → a.vinegar ≤ 3 → a.priorScore ≤ 1000 →
     s.Takes p o 22 ([natWord i.val, natWord (a.identity % 2 ^ 32), natWord (a.identity / 2 ^ 32), natWord a.base.code,
       natWord a.gauge.val, natWord a.vinegar, natWord a.priorScore] ++ (q.map fun q => natWord q.val).toList) →
     let created (state : RecordState) (q : Option PositionNo) : Record :=
       { state := state, identity := a.identity, base := a.base, gauge := a.gauge, vinegar := a.vinegar,
         priorScore := a.priorScore, position := q }
     (s.catalogue[i].state = .empty → q = none →
       exec .writeCatalogue s = .next (replied p o
         ({ s.popOrder p with catalogue := s.catalogue.set i (created .out none) }, .done,
           recordWords i (created .out none)))) ∧
     (∀ k, s.catalogue[i].state = .empty → q = some k → s.shelf.positions[k].state = .free →
       s.shelf.positions[k].lock = false →
       exec .writeCatalogue s = .next (replied p o
         ({ s.popOrder p with
             catalogue := s.catalogue.set i (created .shelved (some k))
             shelf := { s.shelf with
               positions := s.shelf.positions.set k
                 { s.shelf.positions[k] with state := .occupied, owner := some i } } }, .done,
           recordWords i (created .shelved (some k))))) ∧
     (∀ k, s.catalogue[i].state = .empty → q = some k →
       s.shelf.positions[k].state ≠ .free ∨ s.shelf.positions[k].lock = true →
       exec .writeCatalogue s = .next (replied p o (s.popOrder p, .inUse,
         recordWords i s.catalogue[i] ++ [natWord s.shelf.positions[k].state.place]))) ∧
     (s.catalogue[i].state ∈ [.shelved, .out] →
       let x : Record := { s.catalogue[i] with
         identity := a.identity, base := a.base, gauge := a.gauge, vinegar := a.vinegar, priorScore := a.priorScore }
       exec .writeCatalogue s = .next (replied p o
         ({ s.popOrder p with catalogue := s.catalogue.set i x }, .done, recordWords i x))) ∧
     (s.catalogue[i].state ∈ [.onHead, .pendingShelf] → ∃ results,
       exec .writeCatalogue s = .next (replied p o (s.popOrder p, .wrongState, results)))) ∧
  (∀ (s : State) (p : Port) (o : Order) (i : RecordNo), s.Takes p o 23 [natWord i.val] →
     (s.catalogue[i].state ∈ [.shelved, .out] → s.catalogue[i].position = none →
       exec .eraseCatalogue s = .next (replied p o
         ({ s.popOrder p with catalogue := s.catalogue.set i {} }, .done, [0, 0]))) ∧
     (∀ q, s.catalogue[i].state ∈ [.shelved, .out] → s.catalogue[i].position = some q →
       let t : State := { s.popOrder p with
         catalogue := s.catalogue.set i {}
         shelf := { s.shelf with
           positions := s.shelf.positions.set q
             { s.shelf.positions[q] with state := .free, owner := none } } }
       exec .eraseCatalogue s = .next (replied p o
         (if s.shelf.positions[q].lock then t else t.retryPass none, .done, [1, natWord q.val]))) ∧
     (s.catalogue[i].state ∈ [.empty, .onHead, .pendingShelf] →
       exec .eraseCatalogue s = .next (replied p o (s.popOrder p, .wrongState, []))))

/-- DEFINE-SHELVES (R160): refused with IN_USE and the lowest OCCUPIED or RESERVED position of the range; otherwise
every position of the range takes the class and becomes FREE, or UNDEFINED for class NONE, with no owner and its lock
kept, the others stand, and a range left with a FREE unlocked position makes a retry pass. SHELF-LOCK sets and
SHELF-UNLOCK clears the lock in every state of the position, and each replies with the lock as it stood (R161, R162).
An unlock that clears a set lock makes a retry pass when the position is FREE, or RESERVED as the home of a record
whose ticket waits for space (R162, R168). Log entry 11 gives the codes of WAS_CLEAR and WAS_SET. -/
def Obligations.ShelfOrdersDefineAndLockPositions : Prop :=
  (∀ (s : State) (p : Port) (o : Order) (first count : Nat) (cls : Option VaultClass),
     1 ≤ count → first + count ≤ 1024 →
     s.Takes p o 25 [natWord first, natWord count, natWord (classCode cls)] →
     let inRange (q : PositionNo) : Prop := first ≤ q.val ∧ q.val < first + count
     ((∀ q, inRange q → s.shelf.positions[q].state ≠ .occupied ∧ s.shelf.positions[q].state ≠ .reserved) →
       ∃ (ps : Vector Position 1024) (n : Nat),
         (let t : State := { s.popOrder p with shelf := { s.shelf with positions := ps } }
          exec .defineShelves s = .next (replied p o (if 0 < n then t.retryPass none else t, .done, [natWord n]))) ∧
         (∀ q : PositionNo, (inRange q → ps[q] = ⟨cls, if cls = none then .undefined else .free, none,
             s.shelf.positions[q].lock⟩) ∧ (¬ inRange q → ps[q] = s.shelf.positions[q])) ∧
         n = ((List.finRange 1024).filter fun q => decide (first ≤ q.val ∧ q.val < first + count ∧
           ps[q].state = .free ∧ ps[q].lock = false)).length) ∧
     (∀ q, inRange q → (s.shelf.positions[q].state = .occupied ∨ s.shelf.positions[q].state = .reserved) →
       (∀ k, inRange k → k < q → s.shelf.positions[k].state ≠ .occupied ∧ s.shelf.positions[k].state ≠ .reserved) →
       exec .defineShelves s = .next (replied p o (s.popOrder p, .inUse, [natWord q.val])))) ∧
  (∀ (s : State) (p : Port) (o : Order) (q : PositionNo),
     let put (lock : Bool) : State := { s.popOrder p with
       shelf := { s.shelf with positions := s.shelf.positions.set q { s.shelf.positions[q] with lock := lock } } }
     let was := s.shelf.positions[q].lock
     let usable : Prop := s.shelf.positions[q].state = .free ∨ s.shelf.positions[q].state = .reserved ∧
       ∃ t ∈ s.shelf.tickets, t.state = .awaitingSpace ∧ s.catalogue[t.record].position = some q
     (s.Takes p o 26 [natWord q.val] →
       exec .shelfLock s = .next (replied p o (put true, .done, [if was then 1 else 0]))) ∧
     (s.Takes p o 27 [natWord q.val] → was = true → usable →
       exec .shelfUnlock s = .next (replied p o ((put false).retryPass none, .done, [1]))) ∧
     (s.Takes p o 27 [natWord q.val] → was = true → ¬ usable →
       exec .shelfUnlock s = .next (replied p o (put false, .done, [1]))) ∧
     (s.Takes p o 27 [natWord q.val] → was = false → exec .shelfUnlock s = .next (replied p o (put false, .done, [0]))))

/-- NEXT-TICKET makes the oldest ISSUED ticket TAKEN, in its place in the queue, and reports it with its record and
position; with none ISSUED it is refused with NOT_FOUND (R170). CONFIRM-TICKET on a TAKEN ticket (R171): its position
becomes OCCUPIED with the same owner, its record SHELVED naming the position, the ticket leaves the queue, and the
oldest entry of the wait list, if any, is admitted (R169). An unknown number is refused with NOT_FOUND, and a ticket
that is not TAKEN with WRONG_STATE. -/
def Obligations.TicketsAreTakenAndConfirmed : Prop :=
  (∀ (s : State) (p : Port) (o : Order), s.Takes p o 29 [] → s.shelf.tickets.Pairwise (fun a b => a.number ≠ b.number) →
     (∀ (older younger : List Ticket) (t : Ticket) (q : PositionNo), s.shelf.tickets = older ++ t :: younger →
       (∀ x ∈ older, x.state ≠ .issued) → t.state = .issued → t.position = some q →
       let x := s.catalogue[t.record]
       exec .nextTicket s = .next (replied p o
         ({ s.popOrder p with shelf := { s.shelf with tickets := older ++ { t with state := .taken } :: younger } }, .done,
           [natWord t.number.toNat, natWord t.record.val, natWord t.cls.code, natWord x.identity,
             natWord (x.identity / 2 ^ 32), natWord x.base.code, natWord q.val,
             natWord (classCode s.shelf.positions[q].cls)]))) ∧
     ((∀ t ∈ s.shelf.tickets, t.state ≠ .issued) →
       exec .nextTicket s = .next (replied p o (s.popOrder p, .notFound, [])))) ∧
  (∀ (s : State) (p : Port) (o : Order) (n : BitVec 16), s.Takes p o 30 [natWord n.toNat] →
     s.shelf.tickets.Pairwise (fun a b => a.number ≠ b.number) →
     (∀ (t : Ticket) (q : PositionNo), t ∈ s.shelf.tickets → t.number = n → t.state = .taken → t.position = some q →
       let u : State := { s.popOrder p with
         catalogue := s.catalogue.set t.record { s.catalogue[t.record] with state := .shelved, position := some q }
         shelf := { s.shelf with
           positions := s.shelf.positions.set q { s.shelf.positions[q] with state := .occupied }
           tickets := s.shelf.tickets.filter fun x => decide (x.number ≠ n) } }
       exec .confirmTicket s = .next (replied p o
         ((match s.shelf.waitList with
           | [] => u
           | r :: rest => ({ u with shelf := { u.shelf with waitList := rest } } : State).formTicket r), .done,
           [natWord n.toNat, natWord t.record.val, natWord q.val]))) ∧
     (∀ t ∈ s.shelf.tickets, t.number = n → t.state ≠ .taken →
       exec .confirmTicket s = .next (replied p o (s.popOrder p, .wrongState, []))) ∧
     ((∀ t ∈ s.shelf.tickets, t.number ≠ n) →
       exec .confirmTicket s = .next (replied p o (s.popOrder p, .notFound, []))))

/-- REFUSE-TICKET on a TAKEN ticket (R172): the position loses its owner and becomes BLOCKED or FREE, the record names none,
and the allocation runs again without that position. A refused position left FREE and unlocked makes a retry pass, in
which it is still excluded for the ticket. The reply is DONE and carries the ticket's new state (the words of
section 11.7) and, when ISSUED, its new position and that position's class: the position the allocation found, or the one the
retry pass gave it, or none. Refusals as for CONFIRM-TICKET. -/
def Obligations.RefuseTicketAllocatesAgain : Prop :=
  ∀ (s : State) (p : Port) (o : Order) (n : BitVec 16) (block : Bool),
    s.Takes p o 31 [natWord n.toNat, if block then 1 else 0] →
    s.shelf.tickets.Pairwise (fun a b => a.number ≠ b.number) →
    (∀ (t : Ticket) (q : PositionNo), t ∈ s.shelf.tickets → t.number = n → t.state = .taken → t.position = some q →
      let u : State := { s.popOrder p with
        catalogue := s.catalogue.set t.record { s.catalogue[t.record] with position := none }
        shelf := { s.shelf with
          positions := s.shelf.positions.set q
            { s.shelf.positions[q] with owner := none, state := if block then .blocked else .free } } }
      let passes : Prop := block = false ∧ s.shelf.positions[q].lock = false
      let found := allocate u.shelf.positions (some q) t.cls none
      let issuedAt (k : PositionNo) : List Word := [0, natWord k.val, natWord (classCode s.shelf.positions[k].cls)]
      (∀ k, found = some k → exec .refuseTicket s = .next (replied p o
        (if passes then (u.issueTicket t k).retryPass (some (n, q)) else u.issueTicket t k, .done, issuedAt k))) ∧
      (found = none → ¬ passes → exec .refuseTicket s = .next (replied p o (u.leaveWaiting t, .done, [1]))) ∧
      (found = none → passes →
        let v := (u.leaveWaiting t).retryPass (some (n, q))
        ∃ y ∈ v.shelf.tickets, y.number = n ∧ y.record = t.record ∧
          ((y.state = .awaitingSpace ∧ y.position = none ∧ exec .refuseTicket s = .next (replied p o (v, .done, [1]))) ∨
            ∃ k, k ≠ q ∧ y.state = .issued ∧ y.position = some k ∧
              exec .refuseTicket s = .next (replied p o (v, .done, issuedAt k))))) ∧
    (∀ t ∈ s.shelf.tickets, t.number = n → t.state ≠ .taken →
      exec .refuseTicket s = .next (replied p o (s.popOrder p, .wrongState, []))) ∧
    ((∀ t ∈ s.shelf.tickets, t.number ≠ n) →
      exec .refuseTicket s = .next (replied p o (s.popOrder p, .notFound, [])))

/-- SOFT-RESET, field by field: what every chapter gives is reset or kept, and the DONE reply is formed after it (R3, R24,
R61, R94, R126, R142, R152, R164, R183). With the engine IDLE the DRAM stands. A repair in the engine is abandoned (R94):
only the region of its frame may change, and each sample there either stands or holds the R, G and B that the repair had
for it, its IR value kept. Which samples were already written is a free value, and the count of abandoned repairs the
model's own (log entry 6). -/
def Obligations.SoftResetKeepsTheTablesAndClearsTheWork : Prop :=
  ∀ (s : State) (p : Port) (o : Order), s.Takes p o 33 [] →
    ∃ (dram : Vector Memory 32) (abandoned : Nat) (catalogue : Vector Record 512) (ports : Vector PortState 5),
      exec .softReset s = .next (replied p o
        ({ s with
            reels := Vector.replicate 8 {}
            intake := { s.intake with heads := Vector.replicate 4 {} }
            pool := { s.pool with buffers := Vector.replicate 32 {}, pacing := .open_, dram := dram }
            repair := { s.repair with queue := [], engine := none }
            delivery := { s.delivery with
              queues := Vector.replicate 4 [], credits := Vector.replicate 4 0, lastServed := 3, transmitter := .idle
              staleAcks := 0, cutSends := 0 }
            catalogue := catalogue
            shelf := { s.shelf with waitList := [] }
            notices := { s.notices with waiting := [], inFlight := none }
            links := { ports := ports, checkFailuresS := 0, sunkCellsS := 0, boundaryUsed := false }
            lastPort := portS
            abandoned := abandoned }, .done, [])) ∧
      (∀ i : RecordNo, catalogue[i] =
        if s.catalogue[i].state = .onHead then { s.catalogue[i] with state := .out, lastReason := some .reset }
        else s.catalogue[i]) ∧
      (∀ k : Port, ports[k] = { s.links.ports[k] with
        orders := if k = p then s.links.ports[k].orders.drop 1 else s.links.ports[k].orders
        transmit := s.links.ports[k].transmit.filter fun c => match c with | .reply .. => true | .notice .. => false
        dropped := 0, overflow := 0 }) ∧
      (s.repair.engine = none → dram = s.pool.dram ∧ abandoned = s.abandoned) ∧
      ∀ job, s.repair.engine = some job →
        (∀ k : Buf, k ≠ job.request.buf → dram[k] = s.pool.dram[k]) ∧
        (s.MemoryWf → ∀ a,
          dram[job.request.buf].read a = s.pool.dram[job.request.buf].read a ∨
          ∃ f ∈ s.repairFills job, f.address = a ∧ ∃ v, f.value = some v ∧
            dram[job.request.buf].read a = { v with ir := (s.pool.dram[job.request.buf].read a).ir })

/-- MOUNT-REEL (R5, R6): the tests in their order, and on passing them the lowest FREE slot becomes MOUNTED with the order's
fields, the record ON_HEAD, the position it names RESERVED as the home, and PACE-HOLD due on an UP head of a PACED pool. -/
def Obligations.MountReelTakesTheLowestFreeSlot : Prop :=
  ∀ (s : State) (p : Port) (o : Order) (h : Head) (i : RecordNo) (g : GaugeCode) (grade : Grade)
    (policy : Option Policy), grade.InRange → (∀ x, policy = some x → x.InRange) →
    s.Takes p o 1 ([natWord h.val, natWord i.val, natWord g.val, natWord grade.profile.val, intWord grade.trimR,
      intWord grade.trimG, intWord grade.trimB] ++ (policy.toList.flatMap fun x =>
        [natWord x.settleCount, natWord x.irThreshold, if x.heavyAction = .hold then 1 else 0, natWord x.perfRunLimit])) →
    let bound (r : Slot) : Prop := s.reels[r].head = h ∧ s.reels[r].state ∈ [.mounted, .running, .held]
    ((∃ r, bound r) → exec .mountReel s = .next (replied p o (s.popOrder p, .inUse, []))) ∧
    ((∀ r, ¬ bound r) → (∀ r : Slot, s.reels[r].state ≠ .free) →
      exec .mountReel s = .next (replied p o (s.popOrder p, .full, []))) ∧
    ((∀ r, ¬ bound r) → (∃ r : Slot, s.reels[r].state = .free) → s.catalogue[i].state ∉ [.shelved, .out] →
      exec .mountReel s = .next (replied p o (s.popOrder p, .wrongState, []))) ∧
    ((∀ r, ¬ bound r) → (∃ r : Slot, s.reels[r].state = .free) → s.catalogue[i].state ∈ [.shelved, .out] →
      s.intake.gauges[g].pitch = 0 → exec .mountReel s = .next (replied p o (s.popOrder p, .badArgument, []))) ∧
    (∀ r : Slot, (∀ r, ¬ bound r) → s.reels[r].state = .free → (∀ k < r, s.reels[k].state ≠ .free) →
      s.catalogue[i].state ∈ [.shelved, .out] → s.intake.gauges[g].pitch ≠ 0 →
      let policy := policy.getD ⟨2, 12000, .pass, 0⟩
      let t : State := { s.popOrder p with
        reels := s.reels.set r
          { state := .mounted, head := h, record := i, gauge := g, policy := policy, grade := grade, cues := []
            deferred := [], lastOpened := none, settleRemaining := policy.settleCount, shrinkEstimate := none
            lastOffset := 0, perfRun := 0, latest := none, closeReason := none, counters := {} }
        catalogue := s.catalogue.set i { s.catalogue[i] with state := .onHead }
        shelf := match s.catalogue[i].position with
          | some q => { s.shelf with
              positions := s.shelf.positions.set q
                { s.shelf.positions[q] with state := .reserved, owner := some i } }
          | none => s.shelf }
      exec .mountReel s = .next (replied p o
        ((if s.pool.pacing = .paced ∧ s.links.ports[headPort h].link = .up then
            t.modPort (headPort h) fun q => { q with flow := q.flow ++ [.paceHold] }
          else t), .done, [natWord r.val])))

/-- UNMOUNT-REEL END (R17, R20): at a gap the reel enters DRAINING with close reason UNMOUNT, its cues and deferred orders gone,
its PENDING frame's repair requested, its latest frame's successor hold cleared, and it closes if it owns no buffer
(R21). With a frame in assembly the order is deferred, or refused with FULL when 4 wait; an unbound slot is refused. -/
def Obligations.UnmountEndDrainsAtAGap : Prop :=
  ∀ (s : State) (p : Port) (o : Order) (r : Slot), s.Takes p o 2 [natWord r.val, 0] →
    let x := s.reels[r]
    let midFrame : Prop := x.state = .running ∧
      ∃ b d, s.intake.heads[x.head].assembly = .assembling b d ∧ d.slot = r
    (x.state ∈ [.mounted, .running, .held] → ¬ midFrame →
      let t : State := { s.popOrder p with
        reels := s.reels.set r
          { x with state := .draining, closeReason := some .unmount, cues := [], deferred := [] } }
      exec .unmountReelEnd s = .next (replied p o
        (((t.requestPending r).clearLatestHold r).closeIfEmpty r, .done, []))) ∧
    (midFrame → x.deferred.length < 4 →
      exec .unmountReelEnd s = .next (replied p o
        ({ s.popOrder p with reels := s.reels.set r { x with deferred := x.deferred ++ [.unmountEnd o.tag] } },
          .deferred, []))) ∧
    (midFrame → 4 ≤ x.deferred.length → exec .unmountReelEnd s = .next (replied p o (s.popOrder p, .full, []))) ∧
    (x.state ∈ [.free, .draining, .closed] →
      exec .unmountReelEnd s = .next (replied p o (s.popOrder p, .wrongState, [])))

/-- UNMOUNT-REEL ABORT (R18, R20, R52, R93, R141) on a bound slot: the reel leaves its head with close reason ABORT and no cues
or deferred orders, and the head sinks the rest of a frame in hand. Its buffers in FILLING, PENDING, QUEUED and the repair
queue are discarded: each ends in FREE or DONE and leaves its lane queue, its request leaves the repair queue with the
holds it took released, and discarded (abort) grows by their number. A buffer in the engine stays in REPAIR with the
request marked aborted, and those at the store stay where they are. No buffer of the reel, a DONE one included, keeps its
successor hold; a DONE buffer stays while a neighbour hold is left and is FREE when none is (R54); the reel stays DRAINING
while it owns a buffer and closes when it owns none (R21). The requests and lane queues of other reels keep their order. An
unbound slot is refused with WRONG_STATE. -/
def Obligations.UnmountAbortDealsWithEveryBuffer : Prop :=
  ∀ (s : State) (p : Port) (o : Order) (r : Slot), s.Takes p o 2 [natWord r.val, 1] →
    let x := s.reels[r]
    let mine (b : Buf) : Prop := s.pool.buffers[b].slot = r
    let inEngine (b : Buf) : Bool :=
      decide (s.pool.buffers[b].state = .repair) && decide (s.repair.engine.map (fun job => job.request.buf) = some b)
    let dropped (b : Buf) : Bool := decide (s.pool.buffers[b].slot = r) &&
      decide (s.pool.buffers[b].state ∈ [.filling, .pending, .repair, .queued]) && !inEngine b
    let withdrawn := s.repair.queue.filter fun q => dropped q.buf
    (x.state ∈ [.mounted, .running, .held] → ∃ t,
      exec .unmountReelAbort s = .next (replied p o (t, .done, [])) ∧
      t.reels[r].state ∉ [.mounted, .running, .held] ∧ t.reels[r].closeReason = some .abort ∧ t.reels[r].cues = [] ∧
      t.reels[r].deferred = [] ∧
      (∀ b d, s.intake.heads[x.head].assembly = .assembling b d → d.slot = r →
        t.intake.heads[x.head].assembly = .sinking) ∧
      (∀ h : Head, h ≠ x.head → t.intake.heads[h] = s.intake.heads[h]) ∧
      (∀ b : Buf, mine b → s.pool.buffers[b].delivery ≠ .resolved →
        (dropped b = true → t.pool.buffers[b].state ∈ [.free, .done]) ∧
        (inEngine b = true → t.pool.buffers[b].state = .repair) ∧
        (s.pool.buffers[b].state ∈ [.sending, .awaitAck] → t.pool.buffers[b].state = s.pool.buffers[b].state)) ∧
      (∀ b : Buf, mine b → t.pool.buffers[b].successorHold = false) ∧
      ((∃ b : Buf, mine b ∧ t.pool.buffers[b].state ≠ .free) → t.reels[r].state = .draining) ∧
      ((∀ b : Buf, mine b → t.pool.buffers[b].state = .free) → t.reels[r].state ∈ [.closed, .free]) ∧
      ((∀ b : Buf, mine b → s.pool.buffers[b].state ∈ [.filling, .pending, .repair, .queued] →
          s.pool.buffers[b].delivery ≠ .resolved) →
        (∀ job, s.repair.engine = some job → mine job.request.buf → s.pool.buffers[job.request.buf].state = .repair →
          t.repair.engine = some { job with aborted := true }) ∧
        (∀ job, s.repair.engine = some job →
          ¬ mine job.request.buf ∨ s.pool.buffers[job.request.buf].state ≠ .repair → t.repair.engine = some job) ∧
        (s.repair.engine = none → t.repair.engine = none) ∧
        t.repair.queue = s.repair.queue.filter (fun q => !dropped q.buf) ∧
        (∀ l : Lane, t.delivery.queues[l] = s.delivery.queues[l].filter fun b => !dropped b) ∧
        t.delivery = { s.delivery with queues := t.delivery.queues } ∧
        t.reels[r].counters = { x.counters with
          discardedAbort := x.counters.discardedAbort + BitVec.ofNat 32 ((List.finRange 32).countP dropped) } ∧
        (let holdsLeft (k : Buf) : Nat := s.pool.buffers[k].neighbourHolds -
            (withdrawn.countP (fun q => decide (q.prev = some k)) + withdrawn.countP fun q => decide (q.next = some k))
         (∀ k : Buf, t.pool.buffers[k].state ≠ .free → t.pool.buffers[k].neighbourHolds = holdsLeft k) ∧
         ∀ b : Buf, mine b → s.pool.buffers[b].state = .done → s.pool.buffers[b].delivery = .resolved →
           (0 < holdsLeft b → t.pool.buffers[b].state = .done) ∧
           (holdsLeft b = 0 → s.pool.buffers[b].successorHold = true ∨ 0 < s.pool.buffers[b].neighbourHolds →
             t.pool.buffers[b].state = .free))) ∧
      t.wire = s.wire ∧ t.pool.dram = s.pool.dram ∧ t.settings = s.settings) ∧
    (x.state ∈ [.free, .draining, .closed] →
      exec .unmountReelAbort s = .next (replied p o (s.popOrder p, .wrongState, [])))

/-- HOLD-REEL (R9, R10): on a MOUNTED reel, or a RUNNING one at a gap, the reel becomes HELD, HALT is formed on its
head's port (log entry 10), REEL_HELD is raised with detail 0, its PENDING frame's repair is requested and its latest
frame's successor hold is cleared. With a frame in assembly the order is deferred, or refused with FULL; else
WRONG_STATE. RESUME-REEL (R12, R58): a HELD reel becomes RUNNING with settle remaining set to its settle count, and GO
is formed on its head's port, with PACE-HOLD behind it when the pool is PACED and the link UP. On a DOWN port GO is
dropped and counted (log entry 10). A slot in any other state is refused with WRONG_STATE. SET-REEL-POLICY (R14): at a
gap all four fields are replaced, and on a MOUNTED reel settle remaining too. With a frame in assembly the order is
deferred, or refused with FULL when 4 wait; an unbound slot is refused with WRONG_STATE. -/
def Obligations.HoldResumeAndPolicyOrders : Prop :=
  (∀ (s : State) (p : Port) (o : Order) (r : Slot), s.Takes p o 3 [natWord r.val] →
     let x := s.reels[r]
     let midFrame : Prop := x.state = .running ∧
       ∃ b d, s.intake.heads[x.head].assembly = .assembling b d ∧ d.slot = r
     (x.state ∈ [.mounted, .running] → ¬ midFrame →
       let t : State := { s.popOrder p with reels := s.reels.set r { x with state := .held } }
       exec .holdReel s = .next (replied p o
         (((((t.formFlow x.head .halt).raise .reelHeld r.val (some x.record) 0).requestPending r).clearLatestHold r), .done,
           []))) ∧
     (midFrame → x.deferred.length < 4 →
       exec .holdReel s = .next (replied p o
         ({ s.popOrder p with reels := s.reels.set r { x with deferred := x.deferred ++ [.holdReel o.tag] } },
           .deferred, []))) ∧
     (midFrame → 4 ≤ x.deferred.length → exec .holdReel s = .next (replied p o (s.popOrder p, .full, []))) ∧
     (x.state ∈ [.held, .free, .draining, .closed] →
       exec .holdReel s = .next (replied p o (s.popOrder p, .wrongState, [])))) ∧
  (∀ (s : State) (p : Port) (o : Order) (r : Slot), s.Takes p o 4 [natWord r.val] →
     let x := s.reels[r]
     let t (f : PortState → PortState) : State := { s.popOrder p with
       reels := s.reels.set r { x with state := .running, settleRemaining := x.policy.settleCount }
       links := { s.links with ports := modEntry (s.popOrder p).links.ports (headPort x.head) f } }
     (x.state = .held → s.links.ports[headPort x.head].link = .up →
       exec .resumeReel s = .next (replied p o
         (t fun q => { q with flow := q.flow ++ if s.pool.pacing = .paced then [.go, .paceHold] else [.go] }, .done, []))) ∧
     (x.state = .held → s.links.ports[headPort x.head].link = .down →
       exec .resumeReel s = .next (replied p o (t fun q => { q with dropped := q.dropped + 1 }, .done, []))) ∧
     (x.state ≠ .held → exec .resumeReel s = .next (replied p o (s.popOrder p, .wrongState, [])))) ∧
  (∀ (s : State) (p : Port) (o : Order) (r : Slot) (y : Policy), y.InRange →
     s.Takes p o 5 [natWord r.val, natWord y.settleCount, natWord y.irThreshold,
       if y.heavyAction = .hold then 1 else 0, natWord y.perfRunLimit] →
     let x := s.reels[r]
     let midFrame : Prop := x.state = .running ∧
       ∃ b d, s.intake.heads[x.head].assembly = .assembling b d ∧ d.slot = r
     (x.state ∈ [.mounted, .running, .held] → ¬ midFrame →
       exec .setReelPolicy s = .next (replied p o
         ({ s.popOrder p with reels := s.reels.set r { x with
             policy := y
             settleRemaining := if x.state = .mounted then y.settleCount else x.settleRemaining } }, .done, []))) ∧
     (midFrame → x.deferred.length < 4 →
       exec .setReelPolicy s = .next (replied p o
         ({ s.popOrder p with reels := s.reels.set r { x with deferred := x.deferred ++ [.setPolicy o.tag y] } },
           .deferred, []))) ∧
     (midFrame → 4 ≤ x.deferred.length → exec .setReelPolicy s = .next (replied p o (s.popOrder p, .full, []))) ∧
     (x.state ∈ [.free, .draining, .closed] →
       exec .setReelPolicy s = .next (replied p o (s.popOrder p, .wrongState, []))))

/-! ### Resets and links -/

/-- The release of the reset input gives every block its power-on state; the DRAM, the cells already sent and the waiting
commands are not the blocks' (R174; log entry 15), and the region of a frame under repair is the only one that may change
(R94; log entry 6). While the input is low the part sends nothing (section 11.8); that driving it low changes nothing
else is the model's choice (log entry 4, DESIGN CHOICE). -/
def Obligations.ResetInputGivesThePowerOnState : Prop :=
  ∀ s : State,
    (s.repair.engine = none → exec .powerOn s = .next { State.reset with
      pool := { State.reset.pool with dram := s.pool.dram }
      wire := s.wire, abandoned := s.abandoned, pending := s.pending }) ∧
    (∃ dram abandoned, exec .powerOn s = .next { State.reset with
        pool := { State.reset.pool with dram := dram }
        wire := s.wire, abandoned := abandoned, pending := s.pending } ∧
      ∀ k : Buf, (∀ job, s.repair.engine = some job → job.request.buf ≠ k) → dram[k] = s.pool.dram[k]) ∧
    exec .resetInputLow s = .next { s with resetLow := true }

/-- The loss of a head port's link (R13, R43, R174): the link is DOWN, the port's orders, replies and flow cells are
gone, the head is IDLE, PORT_DOWN stands, and the bound reel is not left RUNNING: with no frame in hand a RUNNING one
becomes HELD with detail 3, its PENDING frame's repair requested and its latest frame's successor hold cleared. With no
frame in hand and no RUNNING reel nothing else changes. A frame in hand is closed short first, at a frame gap (R16, R31):
the missing lines become bad lines, the frame counts as assembled, and as short when a line was missing, and its buffer
goes to its lane or, held with its reel, to REPAIR; the internal holds and the deferred orders take effect, up to an
UNMOUNT-REEL END, which leaves the reel DRAINING; and a reel then still RUNNING becomes HELD with detail 3. R13 says only
that the HALT of such a hold is not sent: that it is formed on the port already DOWN, dropped and counted among the port's
dropped cells, as is the HALT of any other hold at that gap, is log entry 10 (DEDUCED). On a port that is DOWN the command
changes nothing (log entry 3, DESIGN CHOICE). A head port's link coming UP:
the sequence counter is 0, PORT_UP is raised, and PACE-HOLD is due when the pool is PACED and the bound reel MOUNTED
or RUNNING (R58, R174, R178). An UP port has no such event (log entry 3). -/
def Obligations.HeadLinkEvents : Prop :=
  (∀ (s : State) (h : Head), s.notices.InRange → s.links.ports[headPort h].link = .up →
     (∃ t, exec (.headLinkLoss h) s = .next t ∧
       t.links.ports[headPort h].link = .down ∧ t.links.ports[headPort h].orders = [] ∧
       t.links.ports[headPort h].transmit = [] ∧ t.links.ports[headPort h].flow = [] ∧
       t.intake.heads[h].assembly = .idle ∧ t.Noticed .portDown h.val ∧ t.standing = s.standing ∧
       (∀ r : Slot, s.boundSlot h = some r → t.reels[r].state ≠ .running ∧
         (s.reels[r].state = .running → s.reels[r].deferred = [] → t.reels[r].state = .held)) ∧
       ∀ k : Port, k ≠ headPort h → t.links.ports[k].link = s.links.ports[k].link ∧
         t.links.ports[k].orders = s.links.ports[k].orders) ∧
     ((∀ b d, s.intake.heads[h].assembly ≠ .assembling b d) →
       (∀ r : Slot, s.reels[r].head = h → s.reels[r].state ≠ .running) →
       exec (.headLinkLoss h) s = .next
         ((({ s with
             intake := { s.intake with heads := modEntry s.intake.heads h fun x => { x with assembly := .idle } }
             links := { s.links with ports := modEntry s.links.ports (headPort h) fun q =>
               { q with link := .down, orders := [], transmit := [], flow := []
                        dropped := q.dropped + BitVec.ofNat 32 (q.transmit.length + q.flow.length) } } } : State).raise
           .portDown h.val none 0).returnNotice (headPort h)).handOver) ∧
     (let lost : State := ({ s with links := { s.links with ports := modEntry s.links.ports (headPort h) fun q =>
        { q with link := .down } } } : State).raise .portDown h.val none 0
      let idle : State := { lost with
        intake := { lost.intake with heads := modEntry lost.intake.heads h fun x => { x with assembly := .idle } } }
      let held (u : State) (r : Slot) : State :=
        (((({ u with reels := u.reels.set r { u.reels[r] with state := .held } } : State).formFlow h .halt).raise
          .reelHeld r.val (some u.reels[r].record) 3).requestPending r).clearLatestHold r
      let gone (u : State) : State := (({ u with
        links := { u.links with ports := modEntry u.links.ports (headPort h) fun q =>
          { q with orders := [], transmit := [], flow := []
                   dropped := q.dropped + BitVec.ofNat 32 (q.transmit.length + q.flow.length) } } } : State).returnNotice
        (headPort h)).handOver
      ((∀ b d, s.intake.heads[h].assembly ≠ .assembling b d) → ∀ r, s.boundSlot h = some r → s.reels[r].state = .running →
        exec (.headLinkLoss h) s = .next (gone (held idle r))) ∧
      ∀ b d, s.intake.heads[h].assembly = .assembling b d →
        let u := lost.closeFrame h b d
        (∀ r, u.boundSlot h = some r → u.reels[r].state = .running →
          exec (.headLinkLoss h) s = .next (gone (held u r))) ∧
        ((∀ r, u.boundSlot h = some r → u.reels[r].state ≠ .running) → exec (.headLinkLoss h) s = .next (gone u))) ∧
     ∀ b d, s.intake.heads[h].assembly = .assembling b d → s.boundSlot h = some d.slot →
       s.reels[d.slot].state = .running → s.pool.buffers[b].slot = d.slot → s.pool.buffers[b].delivery = .neverSent →
       let r := d.slot
       let x := s.reels[r]
       let z := s.pool.buffers[b]
       let missing := (List.range z.lines).filter fun l => decide (l ∉ z.received)
       let due := x.deferred.takeWhile fun e => !e.ends
       ∃ t, exec (.headLinkLoss h) s = .next t ∧
         let y := t.pool.buffers[b]
         let isHeavy : Prop := s.defect.heavyLimit * y.lines * y.width < y.defective * 1000 ∨
           s.defect.badLineLimit < y.badLines ∨ y.overflow = true
         let heavyHold : Prop := isHeavy ∧ x.policy.heavyAction = .hold
         let perfHold : Prop := d.causes ≠ [] ∧ x.policy.perfRunLimit ≠ 0 ∧ x.policy.perfRunLimit ≤ min 255 (x.perfRun + 1)
         let ended : Prop := ∃ e ∈ x.deferred, e.ends = true
         (∀ l, l < z.lines → l ∈ y.received) ∧ y.badLines = z.badLines + missing.length ∧
         (isHeavy → y.heavy = true ∧ y.state ∈ [.queued, .sending]) ∧
         (¬ isHeavy → y.heavy = z.heavy) ∧
         (¬ isHeavy → (∀ k : Buf, s.pool.buffers[k].state = .pending → s.pool.buffers[k].slot = r →
             x.latest = some k ∧ s.pool.buffers[k].frame + 1 = z.frame) → y.state = .repair) ∧
         y.successorHold = false ∧ t.reels[r].latest = some b ∧
         t.reels[r].counters.framesAssembled = x.counters.framesAssembled + 1 ∧
         t.reels[r].counters.shortFrames = x.counters.shortFrames + (if missing = [] then 0 else 1) ∧
         t.reels[r].counters.samplesScanned = x.counters.samplesScanned + BitVec.ofNat 64 (z.lines * z.width) ∧
         t.reels[r].deferred = [] ∧ t.reels[r].policy = (due.filterMap Deferred.newPolicy).getLastD x.policy ∧
         (ended → t.reels[r].state = .draining ∧ t.reels[r].closeReason = some .unmount ∧ t.reels[r].cues = []) ∧
         (¬ ended → t.reels[r].state = .held ∧ t.reels[r].closeReason = x.closeReason ∧ t.reels[r].cues = x.cues) ∧
         (heavyHold → t.Reports .reelHeld r.val (some x.record) 1) ∧
         (¬ heavyHold → perfHold → t.Reports .reelHeld r.val (some x.record) 2) ∧
         (¬ heavyHold → ¬ perfHold → (∃ e ∈ due, e.holds = true) → t.Reports .reelHeld r.val (some x.record) 0) ∧
         (¬ heavyHold → ¬ perfHold → (∀ e ∈ due, e.holds = false) → ¬ ended →
           t.Reports .reelHeld r.val (some x.record) 3)) ∧
  (∀ (s : State) (h : Head), s.links.ports[headPort h].link = .down → exec (.headLinkLoss h) s = .next s) ∧
  (∀ (s : State) (h : Head),
     let fed : Prop := s.pool.pacing = .paced ∧ ∃ r, s.boundSlot h = some r ∧ s.reels[r].state ∈ [.mounted, .running]
     let t (more : List FlowCell) : State := ({ s with
       links := { s.links with ports := modEntry s.links.ports (headPort h) fun q =>
         { q with link := .up, seqOut := 0, flow := q.flow ++ more } } } : State).raise .portUp h.val none 0
     (s.links.ports[headPort h].link = .down → fed → exec (.headLinkUp h) s = .next (t [.paceHold]).handOver) ∧
     (s.links.ports[headPort h].link = .down → ¬ fed → exec (.headLinkUp h) s = .next (t []).handOver) ∧
     (s.links.ports[headPort h].link = .up → exec (.headLinkUp h) s = .next s))

/-- Port S's link (R136, R137, R174, R178). At its loss a send is cut: the buffer rejoins the head of its own lane's queue in
QUEUED and the cut is counted; the credits become 0, the port is emptied and STORE_PORT_DOWN is raised. At its return
the delivery unit changes nothing, the sequence counter is 0 and STORE_PORT_UP is raised. -/
def Obligations.StoreLinkLossCutsTheSend : Prop :=
  ∀ s : State,
    let lost (pool : Pool) (delivery : DeliveryUnit) : State :=
      (({ s with
          pool := pool
          delivery := { delivery with credits := Vector.replicate 4 0 }
          links := { s.links with ports := modEntry s.links.ports portS fun q =>
            { q with link := .down, orders := [], transmit := [], flow := []
                     dropped := q.dropped + BitVec.ofNat 32 (q.transmit.length + q.flow.length) } } } : State).raise
        .storePortDown 0 none 0).returnNotice portS
    (s.links.ports[portS].link = .up → s.delivery.transmitter = .idle →
      exec .storeLinkLoss s = .next (lost s.pool s.delivery).handOver) ∧
    (∀ (b : Buf) (k : Nat) (l : Lane), s.links.ports[portS].link = .up → s.delivery.transmitter = .sending b k →
      s.pool.buffers[b].lane = some l →
      exec .storeLinkLoss s = .next (lost
        { s.pool with buffers := s.pool.buffers.set b { s.pool.buffers[b] with state := .queued } }
        { s.delivery with
          queues := s.delivery.queues.set l (b :: s.delivery.queues[l])
          transmitter := .idle, cutSends := s.delivery.cutSends + 1 }).handOver) ∧
    (s.links.ports[portS].link = .down →
      exec .storeLinkUp s = .next (({ s with
        links := { s.links with ports := modEntry s.links.ports portS fun q =>
          { q with link := .up, seqOut := 0 } } } : State).raise .storePortUp 0 none 0).handOver)

/-! ### Frame cells (chapters 2 and 4) -/

/-- A FRAME-HEAD that fails its check is dropped and counted, with CELL_CHECK detail 0 (R25). One that passes on a
head that is not ASSEMBLING is an orphan, refused while held, or a sequence fault, in that order (R26): the head sinks
the frame, the one counter grows, and nothing else changes but SEQUENCE_FAULT. An opened frame that gets no buffer
(R8, R27): the reel's last opened number, its count and state, its cues and grade move on, the settle, oversize or
lost counter grows by the first test that applies, the head sinks the frame, and it is a discarded next for the reel.
-/
def Obligations.FrameHeadThatGetsNoBuffer : Prop :=
  (∀ (s : State) (h : Head) (c : RxCell), s.links.ports[headPort h].link = .up →
     let f := readFrameHead c.payload
     let counted (g : HeadIntake → HeadIntake) : State :=
       { s with intake := { s.intake with heads := modEntry s.intake.heads h g } }
     (passesCheck kindFrameHead c = false → exec (.frameHead h c) s = .next
       ((counted fun x => { x with checkFailures := x.checkFailures + 1 }).raise .cellCheck h.val none 0).handOver) ∧
     (passesCheck kindFrameHead c = true → (∀ b d, s.intake.heads[h].assembly ≠ .assembling b d) →
       (s.boundSlot h = none → exec (.frameHead h c) s = .next
         (counted fun x => { x with assembly := .sinking, orphanFrames := x.orphanFrames + 1 }).handOver) ∧
       ∀ r, s.boundSlot h = some r →
         let x := s.reels[r]
         let sunk (k : ReelCounters) : State := { counted fun y => { y with assembly := .sinking } with
           reels := s.reels.set r { x with counters := k } }
         (x.state = .held → exec (.frameHead h c) s = .next
           (sunk { x.counters with discardedHeld := x.counters.discardedHeld + 1 }).handOver) ∧
         (∀ n, x.state ≠ .held → x.lastOpened = some n → f.frame ≤ n → exec (.frameHead h c) s = .next
           ((sunk { x.counters with discardedSequence := x.counters.discardedSequence + 1 }).raise
             .sequenceFault r.val (some x.record) f.frame).handOver))) ∧
  (∀ (s : State) (h : Head) (c : RxCell) (r : Slot), s.links.ports[headPort h].link = .up →
     passesCheck kindFrameHead c = true → (∀ b d, s.intake.heads[h].assembly ≠ .assembling b d) →
     s.boundSlot h = some r → s.reels[r].state ∈ [.mounted, .running] →
     let f := readFrameHead c.payload
     (∀ n, s.reels[r].lastOpened = some n → n < f.frame) →
     let x := s.reels[r]
     let fits : Prop := 1 ≤ f.lines ∧ f.lines ≤ 3072 ∧ 1 ≤ f.width ∧ f.width ≤ 4096
     let opened (settle : Nat) (k : ReelCounters) : Reel := { x.consumeCues f.frame with
       state := .running, lastOpened := some f.frame, settleRemaining := settle, counters := k }
     let k := { x.counters with framesOpened := x.counters.framesOpened + 1 }
     let sunk (y : Reel) : State := { s with
       reels := s.reels.set r y
       intake := { s.intake with heads := modEntry s.intake.heads h fun z => { z with assembly := .sinking } } }
     (0 < x.settleRemaining → exec (.frameHead h c) s = .next
       ((sunk (opened (x.settleRemaining - 1) { k with discardedSettle := k.discardedSettle + 1 })).discardedNext
         r).handOver) ∧
     (x.settleRemaining = 0 → ¬ fits → exec (.frameHead h c) s = .next
       ((sunk (opened 0 { k with discardedOversize := k.discardedOversize + 1 })).discardedNext r).handOver) ∧
     (x.settleRemaining = 0 → fits → s.freeCount = 0 → exec (.frameHead h c) s = .next
       (((sunk (opened 0 { k with framesLost := k.framesLost + 1 })).raise
         .frameLost r.val (some x.record) f.frame).discardedNext r).handOver))

/-- A buffered frame (R28, R36, R37, R39 to R41): it takes the lowest FREE buffer, whose record is written anew, the head
assembles it with the description and measurement of the opening, and the reel takes its offset and shrink estimate. An
OPEN pool whose free count the allocation brings below the low-water mark becomes PACED, with PACE-HOLD to every UP head
bound to a reel in MOUNTED or RUNNING and POOL_LOW with the free count (R56). When the reel's latest frame is not numbered
f − 1, the opening is a discarded next for it: the reel's PENDING frame has its repair requested with no next frame, and
the latest frame loses its successor hold (R27, R28); otherwise nothing becomes of the frame before. The measurement's
formulas: the offset is floor((e₁ − A + 8) / 16) limited to the registration range, or the last offset with
no edge; the shrink is measured from at least two strictly rising edges, with both divisions truncated toward zero; an
estimate takes a first shrink in range as it is and moves by an eighth of the difference after that, and stays in −500 to
2000; and each perf-fault cause stands exactly where its rule says, in ascending order of code. -/
def Obligations.BufferedFrameTakesTheLowestFreeBuffer : Prop :=
  (∀ (s : State) (h : Head) (c : RxCell) (r : Slot) (b : Buf), s.links.ports[headPort h].link = .up →
     passesCheck kindFrameHead c = true → (∀ b d, s.intake.heads[h].assembly ≠ .assembling b d) →
     s.boundSlot h = some r → s.reels[r].state ∈ [.mounted, .running] → s.reels[r].settleRemaining = 0 →
     s.pool.buffers[b].state = .free → (∀ k < b, s.pool.buffers[k].state ≠ .free) →
     let f := readFrameHead c.payload
     (∀ n, s.reels[r].lastOpened = some n → n < f.frame) →
     1 ≤ f.lines → f.lines ≤ 3072 → 1 ≤ f.width → f.width ≤ 4096 →
     let x := s.reels[r]
     let g := s.intake.gauges[x.gauge]
     let offset := frameOffset g x.lastOffset f.edges
     let shrink := measuredShrink g f.edges
     let filled : Buffer :=
       { state := .filling, slot := r, record := x.record, frame := f.frame, lines := f.lines, width := f.width
         received := [], badLines := 0, runs := [], overflow := false, defective := 0, repaired := 0, unrepaired := 0
         offset := offset, grade := (x.consumeCues f.frame).grade, heavy := false, successorHold := false
         neighbourHolds := 0, lane := none, delivery := .neverSent, resolution := none, repairTimer := none
         ackTimer := none }
     let busy : HeadIntake := { s.intake.heads[h] with
       assembly := .assembling b ⟨f.frame, f.lines, f.width, r, x.policy.irThreshold, perfCauses g f.edges⟩
       lastMeasurement := some ⟨f.frame, r, offset, shrink.map fun z => max (-500) (min 2000 z), perfCauses g f.edges⟩ }
     let u : State := { s with
       reels := s.reels.set r { x.consumeCues f.frame with
         state := .running, lastOpened := some f.frame, lastOffset := offset
         shrinkEstimate := updateEstimate x.shrinkEstimate shrink
         counters := { x.counters with framesOpened := x.counters.framesOpened + 1 } }
       intake := { s.intake with heads := modEntry s.intake.heads h fun _ => busy }
       pool := { s.pool with buffers := s.pool.buffers.set b filled } }
     let falls : Prop := s.pool.pacing = .open_ ∧ s.freeCount ≤ s.pool.lowMark
     let v : State := if falls then u.becomePaced else u
     let skips : Prop := ∃ k, x.latest = some k ∧ u.pool.buffers[k].frame + 1 ≠ f.frame
     ∃ t, exec (.frameHead h c) s = .next t ∧
       t = (if skips then v.discardedNext r else v).handOver ∧ u.freeCount + 1 = s.freeCount ∧
       (falls → s.pool.lowMark < s.pool.resumeMark → s.notices.InRange →
         t.pool.pacing = .paced ∧ t.Reports .poolLow 0 none (s.freeCount - 1) ∧
         ∀ k : Head, t.links.ports[headPort k].flow = s.links.ports[headPort k].flow ++
           (if s.links.ports[headPort k].link = .up ∧ ∃ r, s.boundSlot k = some r ∧ s.reels[r].state ∈ [.mounted, .running]
            then [.paceHold] else [])) ∧
       (¬ falls → (s.pool.pacing = .paced → s.freeCount < s.pool.resumeMark) →
         t.pool.pacing = s.pool.pacing ∧ ∀ k : Head, t.links.ports[headPort k].flow = s.links.ports[headPort k].flow) ∧
       (∀ k, x.latest = some k → s.pool.buffers[k].state ≠ .free → s.pool.buffers[k].frame + 1 ≠ f.frame →
         t.pool.buffers[k].successorHold = false ∧
         (s.pool.buffers[k].state = .pending → s.pool.buffers[k].slot = r → s.pool.buffers[k].delivery = .neverSent →
           (∀ i : Buf, i < k → ¬ (s.pool.buffers[i].state = .pending ∧ s.pool.buffers[i].slot = r)) →
           t.pool.buffers[k].state = .repair ∧
             ((∃ q ∈ t.repair.queue, q.buf = k ∧ q.next = none) ∨
               ∃ job, t.repair.engine = some job ∧ job.request.buf = k ∧ job.request.next = none))) ∧
       ((∀ k, x.latest = some k → k ≠ b ∧ s.pool.buffers[k].frame + 1 = f.frame) →
         (∀ k : Buf, k ≠ b → t.pool.buffers[k] = s.pool.buffers[k]) ∧ t.repair = s.repair ∧ t.delivery = s.delivery ∧
         t.reels[r].latest = x.latest) ∧
       t.pool.buffers[b] = filled ∧ t.intake.heads[h] = busy ∧
       (∀ k : Head, k ≠ h → t.intake.heads[k] = s.intake.heads[k]) ∧
       t.reels[r].state = .running ∧ t.reels[r].lastOpened = some f.frame ∧
       t.reels[r].counters.framesOpened = x.counters.framesOpened + 1 ∧
       t.reels[r].lastOffset = offset ∧ t.reels[r].shrinkEstimate = updateEstimate x.shrinkEstimate shrink ∧
       t.pool.dram = s.pool.dram ∧ t.wire = s.wire ∧ t.standing = s.standing) ∧
  (∀ (g : Gauge) (last : Int) (e : Nat) (rest : List Nat),
     let raw : Int := ((e : Int) - g.anchor + 8).fdiv 16
     frameOffset g last [] = last ∧
     (-(g.range : Int) ≤ raw → raw ≤ g.range → frameOffset g last (e :: rest) = raw) ∧
     ((g.range : Int) < raw → frameOffset g last (e :: rest) = g.range) ∧
     (raw < -(g.range : Int) → frameOffset g last (e :: rest) = -(g.range : Int)) ∧
     (Cause.offsetClamped ∈ perfCauses g (e :: rest) ↔ raw < -(g.range : Int) ∨ (g.range : Int) < raw)) ∧
  (∀ (g : Gauge) (edges : List Nat),
     let rising := edges.Pairwise fun a b => a < b
     let pitch : Int := ((edges.getLastD 0 : Int) - edges.headD 0).tdiv ((edges.length : Int) - 1)
     (2 ≤ edges.length → rising → measuredShrink g edges = some ((((g.pitch : Int) - pitch) * 10000).tdiv g.pitch)) ∧
     (edges.length < 2 ∨ ¬ rising → measuredShrink g edges = none) ∧
     (Cause.noEdges ∈ perfCauses g edges ↔ edges = []) ∧ Cause.offsetClamped ∉ perfCauses g [] ∧
     (Cause.tooFewEdges ∈ perfCauses g edges ↔ edges.length = 1) ∧
     (Cause.edgesOutOfOrder ∈ perfCauses g edges ↔ ¬ rising) ∧
     (Cause.shrinkOutOfRange ∈ perfCauses g edges ↔ ∃ x, measuredShrink g edges = some x ∧ (x < -500 ∨ 2000 < x)) ∧
     ((perfCauses g edges).map Cause.code).Pairwise fun a b => a < b) ∧
  ∀ (estimate : Option Int) (x : Int),
    updateEstimate estimate none = estimate ∧ (x < -500 ∨ 2000 < x → updateEstimate estimate (some x) = estimate) ∧
    (-500 ≤ x → x ≤ 2000 → updateEstimate none (some x) = some x ∧
      ∀ e, updateEstimate (some e) (some x) = some (e + (x - e).tdiv 8)) ∧
    (shrinkOk estimate → shrinkOk (updateEstimate estimate (some x)))

/-- The cues of a reel at or below the number of an opened frame leave its list, the others stay, and the last cue that left
gives the current grade; with none the grade stands (R109). -/
def Obligations.OpeningConsumesTheCuesReached : Prop :=
  ∀ (x : Reel) (f : Nat), x.cues.Pairwise (fun a b => a.frame < b.frame) →
    let y := x.opened f
    y.cues = x.cues.filter (fun c => decide (f < c.frame)) ∧
    (∀ c ∈ x.cues, c.frame ≤ f → (∀ d ∈ x.cues, d.frame ≤ f → d.frame ≤ c.frame) → y.grade = c.grade) ∧
    ((∀ c ∈ x.cues, f < c.frame) → y.grade = x.grade) ∧
    y.lastOpened = some f ∧ y.counters = { x.counters with framesOpened := x.counters.framesOpened + 1 } ∧
    y.state = (if x.state = .mounted then .running else x.state)

/-- A LINE cell on a head that assembles (R29, R64): dropped, oversize, a duplicate, a bad line or a good one, by the
first test that applies. A duplicate changes nothing in the buffer; a bad line is stored as 0 and taken as one run; a
good line is stored with its runs. Runs past the 8192nd of a frame are not recorded and set the overflow flag, after
which none is recorded, while the defective count goes on growing (R66, R67). A passing cell with an index at or beyond
the line count (R30) discards the frame: the buffer is FREE, the head sinks, discarded (oversize) grows by one and no
other counter of the reel does, what the opening did stands, the reel's PENDING frame has its repair requested with no
next frame, the latest frame's successor hold is cleared (R27), and the deferred orders are applied (R16). A LINE cell on a
head that is IDLE or SINKING is sunk, whether its check passed or failed; a failed check is also counted, with CELL_CHECK
detail 0 (R33). -/
def Obligations.LineIsTakenByTheFirstTest : Prop :=
  (∀ (s : State) (h : Head) (c : RxCell) (b : Buf) (d : FrameDesc), s.links.ports[headPort h].link = .up →
     s.intake.heads[h].assembly = .assembling b d → 2 ≤ c.payload.length →
     let l := fieldAt c.payload 0 2
     let passed := passesCheck kindLine c
     let x := s.pool.buffers[b]
     let counted (g : HeadIntake → HeadIntake) : State :=
       { s with intake := { s.intake with heads := modEntry s.intake.heads h g } }
     let failed (t : State) (detail : Nat) : State :=
       ({ t with intake := { t.intake with heads := modEntry t.intake.heads h fun y =>
         { y with checkFailures := y.checkFailures + 1 } } } : State).raise .cellCheck h.val none detail
     let stored (t : State) (runs : List Run) (defective bad : Nat) (xs : List Sample) : State :=
       { t with pool := { t.pool with
           dram := modEntry t.pool.dram b fun m => m.writeLine l xs
           buffers := t.pool.buffers.set b { x.addRuns runs defective with
             received := enterLine l x.received, badLines := x.badLines + bad } } }
     (d.lines ≤ l → passed = false → exec (.line h c) s = .next (failed s 0).handOver) ∧
     (l < d.lines → l ∈ x.received →
       let t := counted fun y => { y with duplicateLines := y.duplicateLines + 1 }
       exec (.line h c) s = .next (if passed then t else failed t 0).handOver) ∧
     (l < d.lines → l ∉ x.received → passed = false →
       exec (.line h c) s = .next (failed (stored s [⟨l, 0, x.width⟩] x.width 1
         (List.replicate x.width Sample.zero)) 1).handOver) ∧
     (l < d.lines → l ∉ x.received → passed = true → fieldAt c.payload 2 2 ≠ d.width →
       exec (.line h c) s = .next (stored s [⟨l, 0, x.width⟩] x.width 1
         (List.replicate x.width Sample.zero)).handOver) ∧
     (l < d.lines → l ∉ x.received → passed = true → fieldAt c.payload 2 2 = d.width →
       let xs := readSamples (c.payload.drop 4)
       exec (.line h c) s = .next (stored s (lineRuns d.irThreshold l xs)
         (xs.countP fun y => decide (y.ir.toNat < d.irThreshold)) 0 xs).handOver)) ∧
  (∀ (s : State) (h : Head) (c : RxCell), s.links.ports[headPort h].link = .up →
     (∀ b d, s.intake.heads[h].assembly ≠ .assembling b d) →
     let t (g : HeadIntake → HeadIntake) : State :=
       { s with intake := { s.intake with heads := modEntry s.intake.heads h g } }
     (passesCheck kindLine c = true →
       exec (.line h c) s = .next (t fun x => { x with sunkCells := x.sunkCells + 1 }).handOver) ∧
     (passesCheck kindLine c = false →
       exec (.line h c) s = .next ((t fun x => { x with
         sunkCells := x.sunkCells + 1, checkFailures := x.checkFailures + 1 }).raise .cellCheck h.val none 0).handOver)) ∧
  (∀ (x : Buffer) (runs : List Run) (n : Nat),
     let y := x.addRuns runs n
     y = { x with runs := y.runs, overflow := y.overflow, defective := x.defective + n } ∧
     (x.overflow = true → y.runs = x.runs ∧ y.overflow = true) ∧
     (x.overflow = false → x.runs.length + runs.length ≤ 8192 → y.runs = x.runs ++ runs ∧ y.overflow = false) ∧
     (x.overflow = false → x.runs.length ≤ 8192 → 8192 < x.runs.length + runs.length →
       y.overflow = true ∧ y.runs.length = 8192 ∧ ∃ left, y.runs ++ left = x.runs ++ runs)) ∧
  ∀ (s : State) (h : Head) (c : RxCell) (b : Buf) (d : FrameDesc), s.links.ports[headPort h].link = .up →
    s.intake.heads[h].assembly = .assembling b d → passesCheck kindLine c = true → d.lines ≤ fieldAt c.payload 0 2 →
    s.pool.buffers[b].state = .filling → s.pool.buffers[b].successorHold = false → s.pool.buffers[b].neighbourHolds = 0 →
    s.reels[d.slot].state = .running →
    let r := d.slot
    let x := s.reels[r]
    ∃ t, exec (.line h c) s = .next t ∧ t.pool.buffers[b].state = .free ∧
      t.intake.heads[h] = { s.intake.heads[h] with assembly := .sinking } ∧
      (∀ k : Head, k ≠ h → t.intake.heads[k] = s.intake.heads[k]) ∧
      t.reels[r].counters = { x.counters with discardedOversize := x.counters.discardedOversize + 1 } ∧
      t.reels[r].lastOpened = x.lastOpened ∧ t.reels[r].lastOffset = x.lastOffset ∧
      t.reels[r].shrinkEstimate = x.shrinkEstimate ∧ t.reels[r].perfRun = x.perfRun ∧
      (t.reels[r].latest = x.latest ∨ t.reels[r].latest = none) ∧
      (∀ k : Buf, s.pool.buffers[k].state = .pending → s.pool.buffers[k].slot = r →
        (∀ i : Buf, i < k → ¬ (s.pool.buffers[i].state = .pending ∧ s.pool.buffers[i].slot = r)) →
        s.pool.buffers[k].delivery = .neverSent →
        t.pool.buffers[k].state = .repair ∧
          ((∃ q ∈ t.repair.queue, q.buf = k ∧ q.next = none) ∨
            ∃ job, t.repair.engine = some job ∧ job.request.buf = k ∧ job.request.next = none)) ∧
      (∀ k, x.latest = some k → t.pool.buffers[k].successorHold = false) ∧ t.reels[r].deferred = [] ∧
      ((∀ e ∈ x.deferred, e.ends = false) → (∀ e ∈ x.deferred, e.holds = false) → t.reels[r].state = .running) ∧
      ((∀ e ∈ x.deferred, e.ends = false) → (∃ e ∈ x.deferred, e.holds = true) → t.reels[r].state = .held) ∧
      ((∃ e ∈ x.deferred, e.ends = true) →
        t.reels[r].state ∈ [.draining, .closed, .free] ∧ t.reels[r].closeReason = some .unmount) ∧
      t.wire = s.wire ∧ t.pool.dram = s.pool.dram ∧ t.settings = s.settings

/-- A line written to a region reads back sample by sample, and every other sample reads as before. -/
def Obligations.StoredLineReadsBack : Prop :=
  ∀ (m : Memory) (l : Nat) (xs : List Sample), m.wf = true →
    (m.writeLine l xs).wf = true ∧
    (∀ j, (h : j < xs.length) → (m.writeLine l xs).read (sampleAddress l j) = xs[j]) ∧
    ∀ a, (∀ j, j < xs.length → a ≠ sampleAddress l j) → (m.writeLine l xs).read a = m.read a

/-- The runs of a line are the maximal stretches of its defective samples (R62, R63): they cover exactly the samples whose IR
value is below the threshold, in ascending order of start, with a clean sample between any two. -/
def Obligations.RunsAreMaximalStretches : Prop :=
  ∀ (threshold l : Nat) (xs : List Sample),
    let runs := lineRuns threshold l xs
    (∀ r ∈ runs, r.line = l ∧ 1 ≤ r.length ∧ r.start + r.length ≤ xs.length) ∧
    runs.Pairwise (fun a b => a.start + a.length < b.start) ∧
    (∀ j, (h : j < xs.length) → (xs[j].ir.toNat < threshold ↔ ∃ r ∈ runs, r.start ≤ j ∧ j < r.start + r.length)) ∧
    xs.countP (fun x => decide (x.ir.toNat < threshold)) = (runs.map Run.length).sum

/-- A FRAME-END on a head that assembles (R31, R33, R68 to R71): every missing line becomes a bad line, the frame counts as
assembled, and as short when a line was missing, and the buffer passes to its lane when the frame is heavy and to PENDING
or its repair when it is not. Elsewhere the cell is sunk and the head is IDLE. The frame gap (R11, R16, R42, R51, R72): the
buffer is the latest frame; the perf-fault run grows, up to 255, with PERF_FAULT and the lowest cause, or becomes 0; an
internal hold takes effect for a heavy frame or a run at its limit, with detail 1 or 2, and the run is then 0; the
deferred orders are applied in order up to an UNMOUNT-REEL END, which drains the reel; the successor hold is set unless the
run list overflowed or the gap held or ended the reel; and the frame before has its repair requested if it is PENDING,
with this frame as next unless it overflowed, and loses its successor hold to a heavy frame. A FRAME-HEAD on a head that
assembles ends the frame in hand in the same way, and then meets the opening tests in the state that leaves (R28). -/
def Obligations.FrameEndAssemblesTheFrame : Prop :=
  ∀ (s : State) (h : Head) (c : RxCell), s.links.ports[headPort h].link = .up →
    (passesCheck kindFrameEnd c = false → exec (.frameEnd h c) s = .next
      (({ s with intake := { s.intake with heads := modEntry s.intake.heads h fun x =>
        { x with checkFailures := x.checkFailures + 1 } } } : State).raise .cellCheck h.val none 0).handOver) ∧
    (passesCheck kindFrameEnd c = true → (∀ b d, s.intake.heads[h].assembly ≠ .assembling b d) →
      exec (.frameEnd h c) s = .next ({ s with intake := { s.intake with heads := modEntry s.intake.heads h fun x =>
        { x with assembly := .idle, sunkCells := x.sunkCells + 1 } } } : State).handOver) ∧
    (∀ b d, passesCheck kindFrameEnd c = true → s.intake.heads[h].assembly = .assembling b d →
      s.pool.buffers[b].delivery = .neverSent →
      let short := (List.range s.pool.buffers[b].lines).any fun l => decide (l ∉ s.pool.buffers[b].received)
      ∃ t, exec (.frameEnd h c) s = .next t ∧
        t.intake.heads[h] = { s.intake.heads[h] with assembly := .idle } ∧
        (∀ k : Head, k ≠ h → t.intake.heads[k] = s.intake.heads[k]) ∧
        (∀ l, l < s.pool.buffers[b].lines → l ∈ t.pool.buffers[b].received) ∧
        t.pool.buffers[b].badLines = s.pool.buffers[b].badLines +
          (List.range s.pool.buffers[b].lines).countP (fun l => decide (l ∉ s.pool.buffers[b].received)) ∧
        t.reels[d.slot].counters.framesAssembled = s.reels[d.slot].counters.framesAssembled + 1 ∧
        t.reels[d.slot].counters.shortFrames = s.reels[d.slot].counters.shortFrames + (if short then 1 else 0) ∧
        t.reels[d.slot].counters.samplesScanned = s.reels[d.slot].counters.samplesScanned +
          BitVec.ofNat 64 (s.pool.buffers[b].lines * s.pool.buffers[b].width) ∧
        (let y := t.pool.buffers[b]
         let isHeavy : Prop := s.defect.heavyLimit * y.lines * y.width < y.defective * 1000 ∨
           s.defect.badLineLimit < y.badLines ∨ y.overflow = true
         (isHeavy → y.heavy = true ∧ y.state ∈ [.queued, .sending]) ∧
         (¬ isHeavy → y.state ∈ [.pending, .repair])) ∧
        t.settings = s.settings) ∧
    (∀ b d, s.intake.heads[h].assembly = .assembling b d →
      (s.closeFrame h b d).intake.heads[h].assembly = .idle ∧
      (passesCheck kindFrameEnd c = true → exec (.frameEnd h c) s = .next (s.closeFrame h b d).handOver) ∧
      ∀ f : RxCell, passesCheck kindFrameHead f = true →
        exec (.frameHead h f) s = exec (.frameHead h f) (s.closeFrame h b d)) ∧
    ∀ b d, passesCheck kindFrameEnd c = true → s.intake.heads[h].assembly = .assembling b d →
      s.pool.buffers[b].delivery = .neverSent → s.pool.buffers[b].slot = d.slot → s.reels[d.slot].state = .running →
      s.notices.InRange →
      let r := d.slot
      let x := s.reels[r]
      let due := x.deferred.takeWhile fun e => !e.ends
      let count := min 255 (x.perfRun + 1)
      ∃ t, exec (.frameEnd h c) s = .next t ∧
        let y := t.pool.buffers[b]
        let isHeavy : Prop := s.defect.heavyLimit * y.lines * y.width < y.defective * 1000 ∨
          s.defect.badLineLimit < y.badLines ∨ y.overflow = true
        let heavyHold : Prop := isHeavy ∧ x.policy.heavyAction = .hold
        let perfHold : Prop := d.causes ≠ [] ∧ x.policy.perfRunLimit ≠ 0 ∧ x.policy.perfRunLimit ≤ count
        let ended : Prop := ∃ e ∈ x.deferred, e.ends = true
        let held : Prop := heavyHold ∨ perfHold ∨ ∃ e ∈ due, e.holds = true
        t.reels[r].latest = some b ∧
        (isHeavy → t.reels[r].counters.heavyFrames = x.counters.heavyFrames + 1 ∧
          t.Reports .heavyFrame r.val (some x.record) s.pool.buffers[b].frame) ∧
        (¬ isHeavy → t.reels[r].counters.heavyFrames = x.counters.heavyFrames) ∧
        (d.causes = [] → t.reels[r].perfRun = 0 ∧ t.reels[r].counters.perfFaultFrames = x.counters.perfFaultFrames) ∧
        (∀ k rest, d.causes = k :: rest → t.reels[r].counters.perfFaultFrames = x.counters.perfFaultFrames + 1 ∧
          t.Reports .perfFault r.val (some x.record) k.code ∧ (perfHold → t.reels[r].perfRun = 0) ∧
          (¬ perfHold → t.reels[r].perfRun = count)) ∧
        (heavyHold → t.Reports .reelHeld r.val (some x.record) 1) ∧
        (¬ heavyHold → perfHold → t.Reports .reelHeld r.val (some x.record) 2) ∧
        (¬ heavyHold → ¬ perfHold → held → t.Reports .reelHeld r.val (some x.record) 0) ∧
        t.reels[r].deferred = [] ∧ t.reels[r].policy = (due.filterMap Deferred.newPolicy).getLastD x.policy ∧
        (ended → t.reels[r].state = .draining ∧ t.reels[r].closeReason = some .unmount ∧ t.reels[r].cues = []) ∧
        (¬ ended → t.reels[r].closeReason = x.closeReason ∧ t.reels[r].cues = x.cues ∧
          (held → t.reels[r].state = .held) ∧ (¬ held → t.reels[r].state = .running)) ∧
        (y.successorHold = true ↔ y.overflow = false ∧ t.reels[r].state = .running) ∧
        ∀ p, x.latest = some p → s.pool.buffers[p].frame + 1 = s.pool.buffers[b].frame →
          (s.pool.buffers[p].state = .pending → s.pool.buffers[p].delivery = .neverSent →
            (∀ l : Lane, p ∉ s.delivery.queues[l]) →
            t.pool.buffers[p].state = .repair ∧
            ∃ q : RepairRequest, (q ∈ t.repair.queue ∨ ∃ job, t.repair.engine = some job ∧ job.request = q) ∧ q.buf = p ∧
              q.next = if y.overflow then none else some b) ∧
          (isHeavy → t.pool.buffers[p].successorHold = false) ∧
          (¬ isHeavy → t.reels[r].state = .running →
            t.pool.buffers[p].successorHold = s.pool.buffers[p].successorHold)

/-- A REEL-END cell (R19, R20, R32): on a head with no bound reel it is sunk and the head is IDLE; a bound reel with no frame in
hand enters DRAINING with close reason REEL_END. A frame in hand is closed short first: the missing lines become bad lines,
the frame counts as assembled, and as short when a line was missing (R31). The bound reel that the gap leaves then enters
DRAINING with close reason REEL_END; when a deferred UNMOUNT-REEL END took the reel at that gap, its close reason is
UNMOUNT, and with no reel left bound to the head the cell is sunk (R16, R32). -/
def Obligations.ReelEndDrainsTheBoundReel : Prop :=
  ∀ (s : State) (h : Head) (c : RxCell), s.links.ports[headPort h].link = .up →
    let t (g : HeadIntake → HeadIntake) : State :=
      { s with intake := { s.intake with heads := modEntry s.intake.heads h g } }
    (passesCheck kindReelEnd c = false → exec (.reelEnd h c) s = .next
      ((t fun x => { x with checkFailures := x.checkFailures + 1 }).raise .cellCheck h.val none 0).handOver) ∧
    (passesCheck kindReelEnd c = true → (∀ b d, s.intake.heads[h].assembly ≠ .assembling b d) → s.boundSlot h = none →
      exec (.reelEnd h c) s = .next (t fun x => { x with assembly := .idle, sunkCells := x.sunkCells + 1 }).handOver) ∧
    (∀ r, passesCheck kindReelEnd c = true → (∀ b d, s.intake.heads[h].assembly ≠ .assembling b d) →
      s.boundSlot h = some r →
      let u : State := { t fun x => { x with assembly := .idle } with
        reels := s.reels.set r
          { s.reels[r] with state := .draining, closeReason := some .reelEnd, cues := [], deferred := [] } }
      exec (.reelEnd h c) s = .next (((u.requestPending r).clearLatestHold r).closeIfEmpty r).handOver) ∧
    (∀ b d, passesCheck kindReelEnd c = true → s.intake.heads[h].assembly = .assembling b d →
      let u := s.closeFrame h b d
      (u.boundSlot h = none → exec (.reelEnd h c) s = .next ({ u with
        intake := { u.intake with heads := modEntry u.intake.heads h fun x =>
          { x with sunkCells := x.sunkCells + 1 } } } : State).handOver) ∧
      ∀ r, u.boundSlot h = some r →
        let v : State := { u with
          reels := u.reels.set r
            { u.reels[r] with state := .draining, closeReason := some .reelEnd, cues := [], deferred := [] } }
        exec (.reelEnd h c) s = .next (((v.requestPending r).clearLatestHold r).closeIfEmpty r).handOver) ∧
    (∀ r b d, passesCheck kindReelEnd c = true → s.intake.heads[h].assembly = .assembling b d → s.boundSlot h = some r →
      d.slot = r → s.pool.buffers[b].delivery = .neverSent →
      let x := s.reels[r]
      let missing := (List.range s.pool.buffers[b].lines).filter fun l => decide (l ∉ s.pool.buffers[b].received)
      ∃ v, exec (.reelEnd h c) s = .next v ∧ v.intake.heads[h].assembly = .idle ∧
        (∀ l, l < s.pool.buffers[b].lines → l ∈ v.pool.buffers[b].received) ∧
        v.pool.buffers[b].badLines = s.pool.buffers[b].badLines + missing.length ∧
        v.reels[r].counters.framesAssembled = x.counters.framesAssembled + 1 ∧
        v.reels[r].counters.shortFrames = x.counters.shortFrames + (if missing = [] then 0 else 1) ∧
        v.reels[r].state ∉ [.mounted, .running, .held] ∧ v.reels[r].cues = [] ∧ v.reels[r].deferred = [] ∧
        ((∀ e ∈ x.deferred, e.ends = false) → v.reels[r].closeReason = some .reelEnd) ∧
        ((∃ e ∈ x.deferred, e.ends = true) → v.reels[r].closeReason = some .unmount) ∧ v.settings = s.settings)

/-! ### The pool and the repair engine (chapters 3 and 5) -/

/-- The release test (R54, R55): nothing while the delivery is outstanding; DONE while a hold remains; otherwise the buffer is
FREE with its hold and delivery fields at the values of R45, the reel's latest frame is absent if it named the buffer, a
DRAINING reel that owns no buffer closes, and a PACED pool whose free count comes to the resume mark opens. -/
def Obligations.ReleaseTestFreesASettledBuffer : Prop :=
  ∀ (s : State) (b : Buf),
    let x := s.pool.buffers[b]
    let put (y : Buffer) : State := { s with pool := { s.pool with buffers := s.pool.buffers.set b y } }
    (x.delivery ≠ .resolved → s.releaseTest b = s) ∧
    (x.delivery = .resolved → x.successorHold = true ∨ 0 < x.neighbourHolds →
      s.releaseTest b = put { x with state := .done }) ∧
    (x.delivery = .resolved → x.successorHold = false → x.neighbourHolds = 0 →
      let u : State := { put { x with
          state := .free, successorHold := false, neighbourHolds := 0, lane := none, delivery := .neverSent
          resolution := none, repairTimer := none, ackTimer := none } with
        reels := if s.reels[x.slot].latest = some b then s.reels.set x.slot { s.reels[x.slot] with latest := none }
          else s.reels }
      let v := if s.reels[x.slot].state = .draining ∧ (∀ k : Buf, u.pool.buffers[k].slot = x.slot →
          u.pool.buffers[k].state = .free) then u.closeReel x.slot else u
      s.releaseTest b = if v.pool.pacing = .paced ∧ v.freeCount = v.pool.resumeMark then v.becomeOpen else v)

/-- A repair requested (R52, R80, R81, R83): prev is the reel's buffer of the frame before, if it carries the successor hold,
which becomes a neighbour hold; next gains a neighbour hold; the frame goes to REPAIR with its timer cancelled; the
request joins the queue's tail, and an IDLE engine takes the head of the queue with the span limit in force. -/
def Obligations.RepairRequestNamesItsNeighbours : Prop :=
  ∀ (s : State) (b : Buf) (prev next : Option Buf), next ≠ some b → (prev = none ∨ next ≠ prev) →
    let x := s.pool.buffers
    let serves (k : Buf) : Prop := x[k].state ≠ .free ∧ x[k].slot = x[b].slot ∧ x[k].frame + 1 = x[b].frame ∧
      x[k].successorHold = true
    (∀ k, prev = some k → serves k ∧ ∀ i < k, ¬ serves i) → (prev = none → ∀ k, ¬ serves k) →
    ∃ buffers : Vector Buffer 32,
      (∀ k : Buf, buffers[k] = { x[k] with
        state := if k = b then .repair else x[k].state
        successorHold := if prev = some k then false else x[k].successorHold
        neighbourHolds := x[k].neighbourHolds + (if prev = some k then 1 else 0) + (if next = some k then 1 else 0)
        repairTimer := if k = b then none else x[k].repairTimer }) ∧
      s.requestRepair b next = { s with
        pool := { s.pool with buffers := buffers }
        repair := match s.repair.engine, s.repair.queue with
          | none, [] => { s.repair with queue := [], engine := some ⟨⟨b, prev, next⟩, s.repair.span, false⟩ }
          | none, q :: rest => { s.repair with
              queue := rest ++ [⟨b, prev, next⟩], engine := some ⟨q, s.repair.span, false⟩ }
          | some _, queue => { s.repair with queue := queue ++ [⟨b, prev, next⟩] } }

/-- The expiry of a repair-wait timer requests the repair with no next frame (R78). The expiry of an ack timer resolves the
frame as TIMED_OUT, counts it, raises STORE_TIMEOUT and makes the release test (R139). A timer that is not running does
not expire (log entry 3). -/
def Obligations.TimersExpireOnlyWhileRunning : Prop :=
  ∀ (s : State) (b : Buf),
    let x := s.pool.buffers[b]
    (x.state = .pending → x.repairTimer ≠ none →
      exec (.repairWaitTimerExpiry b) s = .next (s.requestRepair b none).handOver) ∧
    (x.state ≠ .pending ∨ x.repairTimer = none → exec (.repairWaitTimerExpiry b) s = .next s) ∧
    (x.state = .awaitAck → x.ackTimer ≠ none →
      let u : State := { s with
        reels := modEntry s.reels x.slot fun y =>
          { y with counters := { y.counters with framesTimedOut := y.counters.framesTimedOut + 1 } }
        pool := { s.pool with
          buffers := s.pool.buffers.set b
            { x with delivery := .resolved, resolution := some .timedOut, ackTimer := none } } }
      exec (.ackTimerExpiry b) s = .next
        (((u.raise .storeTimeout x.slot.val (some x.record) x.frame).releaseTest b).handOver)) ∧
    (x.state ≠ .awaitAck ∨ x.ackTimer = none → exec (.ackTimerExpiry b) s = .next s)

/-- The values a repair gives (R85 to R91): a sample to fill is one that a run of the frame covers, and it takes the temporal
value if it has one and the spatial value otherwise; a neighbour's sample is usable inside the neighbour's frame, at the
registered line, where none of its runs covers it; the temporal value is the rounded mean of two usable samples, or the one,
and with none there is no temporal value; the spatial value is the interpolation rounded down, within its endpoints, or the
nearer or only endpoint; else there is none. The endpoints of a run are the frame's own samples just before and just behind
it, where the line has them (R88). -/
def Obligations.RepairValuesFollowTheirRules : Prop :=
  (∀ (cur nb : Buffer) (m : Memory) (l j : Nat) (x : Sample),
    let line : Int := (l : Int) - cur.offset + nb.offset
    usableSample cur nb m l j = some x ↔ 0 ≤ line ∧ line < nb.lines ∧ j < nb.width ∧
      (∀ r ∈ nb.runs, ¬ ((r.line : Int) = line ∧ r.start ≤ j ∧ j < r.start + r.length)) ∧
      x = m.read (sampleAddress line.toNat j)) ∧
  (∀ p n : Sample, ∃ v, temporalValue (some p) (some n) = some v ∧
    v.r.toNat = (p.r.toNat + n.r.toNat + 1) / 2 ∧ v.g.toNat = (p.g.toNat + n.g.toNat + 1) / 2 ∧
    v.b.toNat = (p.b.toNat + n.b.toNat + 1) / 2) ∧
  (∀ p : Sample, temporalValue (some p) none = some p ∧ temporalValue none (some p) = some p) ∧
  temporalValue none none = none ∧
  (∀ (span length k : Nat) (vl vr : Sample), 1 ≤ k → k ≤ length → length ≤ span →
    ∃ v, spatialValue span length k (some vl) (some vr) = some v ∧
      ∀ f ∈ [Sample.r, Sample.g, Sample.b],
        (((f v).toNat : Int) = (f vl).toNat + ((((f vr).toNat : Int) - (f vl).toNat) * k).fdiv (length + 1)) ∧
        min (f vl).toNat (f vr).toNat ≤ (f v).toNat ∧ (f v).toNat ≤ max (f vl).toNat (f vr).toNat) ∧
  (∀ (span length k : Nat) (vl vr : Sample),
    (span < length → k ≤ length + 1 - k → spatialValue span length k (some vl) (some vr) = some vl) ∧
    (span < length → length + 1 - k < k → spatialValue span length k (some vl) (some vr) = some vr) ∧
    spatialValue span length k (some vl) none = some vl ∧ spatialValue span length k none (some vr) = some vr ∧
    spatialValue span length k none none = none) ∧
  (∀ (m : Memory) (width : Nat) (r : Run),
    (1 ≤ r.start → leftEndpoint m r = some (m.read (sampleAddress r.line (r.start - 1)))) ∧
    (r.start = 0 → leftEndpoint m r = none) ∧
    (r.start + r.length < width → rightEndpoint m width r = some (m.read (sampleAddress r.line (r.start + r.length)))) ∧
    (width ≤ r.start + r.length → rightEndpoint m width r = none)) ∧
  ∀ (s : State) (job : RepairJob),
    let b := job.request.buf
    let cur := s.pool.buffers[b]
    let seen (nb : Option Buf) (l j : Nat) : Option Sample :=
      nb.bind fun k => usableSample cur s.pool.buffers[k] s.pool.dram[k] l j
    let temporal (r : Run) (i : Nat) : Option Sample :=
      temporalValue (seen job.request.prev r.line (r.start + i)) (seen job.request.next r.line (r.start + i))
    (∀ f, f ∈ s.repairFills job ↔ ∃ r ∈ cur.runs, ∃ i, i < r.length ∧
      f = ⟨sampleAddress r.line (r.start + i), s.repairValue job r i⟩) ∧
    (∀ r i v, temporal r i = some v → s.repairValue job r i = some v) ∧
    ∀ r i, temporal r i = none → s.repairValue job r i =
      spatialValue job.span r.length (i + 1) (leftEndpoint s.pool.dram[b] r) (rightEndpoint s.pool.dram[b] cur.width r)

/-- REPAIR_COMPLETION (R85, R91, R92): the values are written in R, G and B with the IR value kept, nothing else in the DRAM
changes, the counts are written and added to the reel, the neighbour holds that the request took are released, which frees
a settled neighbour left with no hold, the frame joins its lane, or is discarded when its reel was aborted, and the engine
takes the next request. With the engine IDLE the event does not occur (log entry 3). -/
def Obligations.RepairCompletionWritesAndMovesOn : Prop :=
  ∀ s : State, (s.repair.engine = none → exec .repairCompletion s = .next s) ∧
    ∀ job, s.repair.engine = some job → s.MemoryWf → (∀ q ∈ s.repair.queue, q.buf ≠ job.request.buf) →
      let b := job.request.buf
      let x := s.pool.buffers[b]
      let fills := s.repairFills job
      ∃ t, exec .repairCompletion s = .next t ∧
        (∀ k : Buf, k ≠ b → t.pool.dram[k] = s.pool.dram[k]) ∧
        (∀ a, (t.pool.dram[b].read a).ir = (s.pool.dram[b].read a).ir) ∧
        (∀ a, (∀ f ∈ fills, f.address ≠ a) → t.pool.dram[b].read a = s.pool.dram[b].read a) ∧
        ((fills.map Fill.address).Nodup → ∀ f ∈ fills,
          t.pool.dram[b].read f.address = match f.value with
            | some v => { v with ir := (s.pool.dram[b].read f.address).ir }
            | none => s.pool.dram[b].read f.address) ∧
        t.pool.buffers[b].repaired = fills.countP (fun f => f.value.isSome) ∧
        t.pool.buffers[b].unrepaired = fills.countP (fun f => f.value.isNone) ∧
        t.reels[x.slot].counters.repairedSamples = s.reels[x.slot].counters.repairedSamples +
          BitVec.ofNat 64 (fills.countP fun f => f.value.isSome) ∧
        t.reels[x.slot].counters.unrepairedSamples = s.reels[x.slot].counters.unrepairedSamples +
          BitVec.ofNat 64 (fills.countP fun f => f.value.isNone) ∧
        (job.aborted = false → t.pool.buffers[b].state ∈ [.queued, .sending] ∧
          t.pool.buffers[b].lane = some s.delivery.laneMap[laneIndex x.frame x.slot]) ∧
        (job.aborted = true → t.pool.buffers[b].state ∈ [.free, .done] ∧
          t.reels[x.slot].counters.discardedAbort = s.reels[x.slot].counters.discardedAbort + 1) ∧
        (∀ k : Buf, k ≠ b →
          let taken := (if job.request.prev = some k then 1 else 0) + (if job.request.next = some k then 1 else 0)
          (t.pool.buffers[k].state ≠ .free →
            t.pool.buffers[k].neighbourHolds = s.pool.buffers[k].neighbourHolds - taken) ∧
          (0 < taken → s.pool.buffers[k].neighbourHolds = taken → s.pool.buffers[k].delivery = .resolved →
            s.pool.buffers[k].successorHold = false → (∀ l : Lane, k ∉ s.delivery.queues[l]) →
            t.pool.buffers[k].state = .free)) ∧
        t.repair = (match s.repair.queue with
          | [] => { s.repair with engine := none }
          | q :: rest => { s.repair with queue := rest, engine := some ⟨q, s.repair.span, false⟩ }) ∧
        t.settings = s.settings

/-! ### Grading (chapter 7) -/

/-- The black stage, R117, the gain stage, R118, and the curve stage, R119, as their formulas give them; every curve-stage
value lies between the two curve points it was interpolated from. -/
def Obligations.BlackGainAndCurveStages : Prop :=
  (∀ (x black : Channel) (trim : Int), trimInRange trim →
    (effectiveBlack black trim : Int) = max 0 (min 65535 ((black.toNat : Int) + 64 * trim)) ∧
    (blackStage x black trim : Int) = max 0 ((x.toNat : Int) - effectiveBlack black trim) ∧
    blackStage x black trim ≤ 65535) ∧
  (∀ (a : Nat) (gain : Channel), a ≤ 65535 →
    gainStage a gain = min 65535 ((a * gain.toNat + 2048) / 4096) ∧ (gain = 4096 → gainStage a gain = a) ∧
    (gain = 0 → gainStage a gain = 0)) ∧
  ∀ (g : Nat) (curve : Vector Channel 257), (h : g ≤ 65535) →
    let lo := (curve[g / 256]'(by omega)).toNat
    let hi := (curve[g / 256 + 1]'(by omega)).toNat
    (curveStage g curve : Int) = lo + (((hi : Int) - lo) * (g % 256 : Nat) + 128).fdiv 256 ∧
    min lo hi ≤ curveStage g curve ∧ curveStage g curve ≤ max lo hi ∧ (g % 256 = 0 → curveStage g curve = lo)

/-- The depth and dither stages (R120 to R123): the output value is the kept part, or one more where the profile dithers at
depth 10 or 12, the rank is below the threshold and the kept part below the top code; it lies in 0 to 2ᴰ − 1; and a tile
whose samples share one value below the top code has exactly as many positions raised as the threshold. -/
def Obligations.DitherRaisesAsManyAsTheThreshold : Prop :=
  ∀ (y : Nat) (depth : Depth) (dither : Bool), y ≤ 65535 →
    let s := 16 - depth.bits
    let q := y / 2 ^ s
    let threshold := y % 2 ^ s * 2 ^ (6 - s)
    (∀ rank, ditherStage y depth dither rank ≤ 2 ^ depth.bits - 1) ∧
    (∀ rank, dither = false ∨ depth = .d16 → ditherStage y depth dither rank = q) ∧
    (∀ rank, dither = true → depth ≠ .d16 → q < 2 ^ depth.bits - 1 →
      ditherStage y depth dither rank = if rank < threshold then q + 1 else q) ∧
    (∀ rank, q = 2 ^ depth.bits - 1 → ditherStage y depth dither rank = q) ∧
    (dither = true → depth ≠ .d16 → q < 2 ^ depth.bits - 1 →
      ∀ k0 j0 : Nat, (((List.range 8).flatMap fun k => (List.range 8).map fun j =>
        ditherStage y depth dither (tileRank (8 * k0 + k) (8 * j0 + j))).countP fun v => decide (v = q + 1)) = threshold)

/-- The registration shift on output (R115): output line k carries source line k + offset graded sample by sample, at the output
line's own tile row, or is a pad line of code 0 where that line lies outside the frame. A sample is graded channel by
channel: R, G and B each pass through black, gain, curve, depth and dither in that order, with their own trim, black
offset, gain and curve, and all three at the rank of the sample's place in the output (R116). -/
def Obligations.OutputLinesAreShiftedByTheOffset : Prop :=
  (∀ (x : Sample) (p : Profile) (g : Grade) (k j : Nat),
    let staged (v : Channel) (c : ChannelProfile) (trim : Int) : Nat :=
      ditherStage (curveStage (gainStage (blackStage v c.black trim) c.gain) c.curve) p.depth p.dither (tileRank k j)
    gradeSample x p g k j = ⟨staged x.r p.channels[0] g.trimR, staged x.g p.channels[1] g.trimG, staged x.b p.channels[2] g.trimB⟩) ∧
  ∀ (b : Buffer) (m : Memory) (p : Profile) (k : Nat),
    (outputLine b m p k).length = b.width ∧
    ∀ j, (h : j < (outputLine b m p k).length) →
      (∀ l : Nat, (l : Int) = k + b.offset → l < b.lines →
        (outputLine b m p k)[j] = gradeSample (m.read (sampleAddress l j)) p b.grade k j) ∧
      ((k : Int) + b.offset < 0 ∨ (b.lines : Int) ≤ k + b.offset → (outputLine b m p k)[j] = ⟨0, 0, 0⟩)

/-! ### Delivery (chapter 8) and the ports' sends -/

/-- The store arbiter (R131, R133) and the CREDIT cell (R130): with the transmitter IDLE and the store link UP, the first lane
after the last served that has a frame and a credit starts its frame: a credit is spent, the lane is the last served, the
buffer is SENDING, and FRAME-OUT goes out. With no such lane nothing happens. A CREDIT adds to its lane's credit, up to
15, and the arbiter searches. Log entry 4 is about a reset input held low. -/
def Obligations.ArbiterStartsTheNextEligibleLane : Prop :=
  (∀ (s : State) (k : Nat) (l : Lane) (b : Buf) (rest : List Buf),
    let eligible (l : Lane) : Prop := s.delivery.queues[l] ≠ [] ∧ 1 ≤ s.delivery.credits[l]
    s.delivery.transmitter = .idle → s.links.ports[portS].link = .up → s.resetLow = false →
    k < 4 → l = s.delivery.lastServed + 1 + Fin.ofNat 4 k → eligible l →
    (∀ i, i < k → ¬ eligible (s.delivery.lastServed + 1 + Fin.ofNat 4 i)) → s.delivery.queues[l] = b :: rest →
    s.arbiterSearch = { s with
      delivery := { s.delivery with
        credits := s.delivery.credits.set l (s.delivery.credits[l] - 1)
        lastServed := l
        queues := s.delivery.queues.set l rest
        transmitter := .sending b 0 }
      pool := { s.pool with buffers := s.pool.buffers.set b { s.pool.buffers[b] with state := .sending } }
      links := { s.links with
        boundaryUsed := false
        ports := modEntry s.links.ports portS fun q => { q with seqOut := q.seqOut + 1 } }
      wire := s.wire ++ [⟨portS, cellBytes 0x20 s.links.ports[portS].seqOut
        (frameOutPayload l s.pool.buffers[b] s.profiles[s.pool.buffers[b].grade.profile].depth)⟩] }) ∧
  (∀ s : State, s.delivery.transmitter ≠ .idle ∨ s.links.ports[portS].link = .down ∨ s.resetLow = true ∨
    (∀ l : Lane, s.delivery.queues[l] = [] ∨ s.delivery.credits[l] = 0) → s.arbiterSearch = s) ∧
  ∀ (s : State) (c : RxCell), s.links.ports[portS].link = .up →
    (passesCheckOnS kindCredit c = true → ∀ l : Lane, l.val = fieldAt c.payload 0 1 →
      exec (.credit c) s = .next (({ s with delivery := { s.delivery with
        credits := modEntry s.delivery.credits l fun n => min 15 (n + fieldAt c.payload 1 1) } } :
          State).arbiterSearch).handOver) ∧
    (passesCheckOnS kindCredit c = false → exec (.credit c) s = .next
      (({ s with links := { s.links with checkFailuresS := s.links.checkFailuresS + 1 } } : State).raise
        .cellCheck 4 none 0).handOver)

/-- OUT_LINE and SEND_COMPLETION (R134, R135): the transmitter's next output line goes out, graded, and the next line grows by
one; after the last line the buffer waits for its acknowledgement with its ack timer set to the ack wait, the transmitter
is IDLE and the arbiter searches. A management cell waiting at a boundary goes first, one at each (R177). Where the
boundaries lie is log entry 13 (DEDUCED), and that a command whose cell or completion is not due changes nothing is log
entry 3 (DESIGN CHOICE). -/
def Obligations.TheFrameIsSentLineByLine : Prop :=
  ∀ (s : State) (b : Buf) (k : Nat), s.delivery.transmitter = .sending b k →
    let x := s.pool.buffers[b]
    (k < x.lines → s.links.ports[portS].link = .up → s.resetLow = false →
      s.links.ports[portS].transmit = [] ∨ s.links.boundaryUsed = true →
      exec .outLine s = .next ({ s with
        delivery := { s.delivery with transmitter := .sending b (k + 1) }
        links := { s.links with
          boundaryUsed := false
          ports := modEntry s.links.ports portS fun q => { q with seqOut := q.seqOut + 1 } }
        wire := s.wire ++ [⟨portS, cellBytes 0x21 s.links.ports[portS].seqOut
          (outLinePayload k (outputLine x s.pool.dram[b] s.profiles[x.grade.profile] k))⟩] } : State).handOver) ∧
    (s.links.ports[portS].transmit ≠ [] → s.links.boundaryUsed = false → exec .outLine s = .next s) ∧
    (x.lines ≤ k → exec .outLine s = .next s ∧
      exec .sendCompletion s = .next (({ s with
        delivery := { s.delivery with transmitter := .idle }
        pool := { s.pool with
          buffers := s.pool.buffers.set b
            { x with state := .awaitAck, delivery := .awaitingAck, ackTimer := some s.delivery.ackWait } } } :
            State).arbiterSearch).handOver) ∧
    (k < x.lines → exec .sendCompletion s = .next s)

/-- A STORE-ACK (R138): the buffer in AWAIT_ACK of its catalogue index and frame number is resolved ACKNOWLEDGED, its timer
cancelled, its reel's count grown and the release test made; with no such buffer the acknowledgement is stale. The lane
is not used in the match. A failed check is counted on port S (R176). -/
def Obligations.StoreAckResolvesTheMatchingFrame : Prop :=
  ∀ (s : State) (c : RxCell), s.links.ports[portS].link = .up →
    let wanted (k : Buf) : Prop := s.pool.buffers[k].state = .awaitAck ∧
      s.pool.buffers[k].record.val = fieldAt c.payload 1 2 ∧ s.pool.buffers[k].frame = fieldAt c.payload 3 3
    (∀ b : Buf, passesCheckOnS kindStoreAck c = true → wanted b → (∀ k < b, ¬ wanted k) →
      let x := s.pool.buffers[b]
      exec (.storeAck c) s = .next ((({ s with
        reels := modEntry s.reels x.slot fun y =>
          { y with counters := { y.counters with framesAcknowledged := y.counters.framesAcknowledged + 1 } }
        pool := { s.pool with
          buffers := s.pool.buffers.set b
            { x with delivery := .resolved, resolution := some .acknowledged, ackTimer := none } } } :
            State).releaseTest b).handOver)) ∧
    (passesCheckOnS kindStoreAck c = true → (∀ k, ¬ wanted k) → exec (.storeAck c) s = .next
      ({ s with delivery := { s.delivery with staleAcks := s.delivery.staleAcks + 1 } } : State).handOver) ∧
    (passesCheckOnS kindStoreAck c = false → exec (.storeAck c) s = .next
      (({ s with links := { s.links with checkFailuresS := s.links.checkFailuresS + 1 } } : State).raise
        .cellCheck 4 none 0).handOver)

/-- REPLY_SENT, NOTICE_SENT and FLOW_CELL_SENT (R177, R178, R185): a flow cell goes before the management cells of its port, a
management cell from the head of its list, both with the port's sequence number, and a NOTICE that has gone is no longer
in flight. On port S, between the cells of a frame, one management cell goes at each boundary (log entry 13, DEDUCED). That
REPLY_SENT changes nothing while a flow cell is due is log entry 3 (DESIGN CHOICE) on top of R177. -/
def Obligations.WaitingCellsAreSentInOrder : Prop :=
  ∀ (s : State) (p : Port), s.links.ports[p].link = .up → s.resetLow = false →
    let boundary : Prop := p = portS ∧ ∃ b k, s.delivery.transmitter = .sending b k ∧ k < s.pool.buffers[b].lines
    let sent (kind : Byte) (payload : List Byte) (used : Bool) (f : PortState → PortState) : State := { s with
      links := { s.links with
        boundaryUsed := used
        ports := modEntry s.links.ports p fun q => { f q with seqOut := q.seqOut + 1 } }
      wire := s.wire ++ [⟨p, cellBytes kind s.links.ports[p].seqOut payload⟩] }
    (∀ tag code status results rest used, s.links.ports[p].transmit = .reply tag code status results :: rest →
      s.links.ports[p].flow = [] → (¬ boundary ∧ used = s.links.boundaryUsed ∨
        boundary ∧ s.links.boundaryUsed = false ∧ used = true) →
      exec (.replySent p) s = .next
        (sent 0x31 (replyPayload tag code status results) used fun q => { q with transmit := rest }).handOver) ∧
    (∀ f n level rest used, s.notices.inFlight = some f → f.port = p →
      s.links.ports[p].transmit = .notice n level :: rest →
      s.links.ports[p].flow = [] → (¬ boundary ∧ used = s.links.boundaryUsed ∨
        boundary ∧ s.links.boundaryUsed = false ∧ used = true) →
      exec .noticeSent s = .next ({ sent 0x32 (noticePayload n level) used fun q => { q with transmit := rest } with
        notices := { s.notices with inFlight := none } } : State).handOver) ∧
    (∀ h c rest, headPort h = p → s.links.ports[p].flow = c :: rest →
      exec (.flowCellSent h) s = .next
        (sent c.kind [] s.links.boundaryUsed fun q => { q with flow := rest }).handOver) ∧
    (s.links.ports[p].flow ≠ [] → exec (.replySent p) s = .next s)

/-- An ORDER cell that passes its check joins the tail of its port's queue, or, with 4 orders there, is answered OVERFLOW,
counted and reported with the port number (R179). A cell of a kind its port does not handle is sunk and counted, and one
that fails its check is dropped and counted, with CELL_CHECK detail 0 (R25, R176). -/
def Obligations.OrdersAreQueuedAndOtherKindsSunk : Prop :=
  ∀ (s : State) (p : Port) (c : RxCell), s.links.ports[p].link = .up →
    let o := readOrder c.payload
    let onPort (f : PortState → PortState) : State :=
      { s with links := { s.links with ports := modEntry s.links.ports p f } }
    let onHead (h : Head) (f : HeadIntake → HeadIntake) : State :=
      { s with intake := { s.intake with heads := modEntry s.intake.heads h f } }
    let dropped : State := match headOf p with
      | some h => (onHead h fun x => { x with checkFailures := x.checkFailures + 1 }).raise .cellCheck h.val none 0
      | none => ({ s with links := { s.links with checkFailuresS := s.links.checkFailuresS + 1 } } : State).raise
          .cellCheck 4 none 0
    let sunk : State := match headOf p with
      | some h => onHead h fun x => { x with sunkCells := x.sunkCells + 1 }
      | none => { s with links := { s.links with sunkCellsS := s.links.sunkCellsS + 1 } }
    (passesCheck kindOrder c = true → s.links.ports[p].orders.length < 4 →
      exec (.order p c) s = .next (onPort fun q => { q with orders := q.orders ++ [o] }).handOver) ∧
    (passesCheck kindOrder c = true → 4 ≤ s.links.ports[p].orders.length → s.links.ports[p].transmit.length < 8 →
      exec (.order p c) s = .next ((onPort fun q => { q with
        transmit := q.transmit ++ [.reply o.tag o.code .overflow []], overflow := q.overflow + 1 }).raise
          .orderOverflow 0 none p.val).handOver) ∧
    (passesCheck kindOrder c = true → 4 ≤ s.links.ports[p].orders.length → 8 ≤ s.links.ports[p].transmit.length →
      exec (.order p c) s = .next ((onPort fun q => { q with
        dropped := q.dropped + 1, overflow := q.overflow + 1 }).raise .orderOverflow 0 none p.val).handOver) ∧
    (passesCheck kindOrder c = false → exec (.order p c) s = .next dropped.handOver) ∧
    ∀ kind, kindHandled p kind = false →
      (passesCheck kind c = true → exec (.otherKindCell p kind c) s = .next sunk.handOver) ∧
      (passesCheck kind c = false → exec (.otherKindCell p kind c) s = .next dropped.handOver)

/-! ### Closing and reshelving (chapters 9 and 10) -/

/-- The score and the class at a reel's close (R22, R154 to R157): the five terms, each at most its ceiling, limited to
1000; the prior score when no frame was assembled (R155); class D for nitrate, and for acetate or an unknown base of vinegar
grade 2 or more, and otherwise A, B or C by the score. The close of a reel (R22, R157, R165): REEL_CLOSED is raised,
the record takes the score, the class, the estimate, the ppm, the close reason and one more scan; with fewer than 16
tickets the reel's ticket is formed, and otherwise the CLOSED slot joins the wait list's tail. -/
def Obligations.ClosedReelIsScoredAndTicketed : Prop :=
  (∀ (x : Reel) (record : Record), record.priorScore ≤ 1000 →
     let c := x.counters
     let f := c.framesAssembled.toNat
     let ts := match x.shrinkEstimate with | some e => (max 0 (min 400 (2 * e))).toNat | none => 0
     let ppm := if c.samplesScanned.toNat = 0 then 0 else c.defectiveSamples.toNat * 1000000 / c.samplesScanned.toNat
     let score := conditionScore x record
     (f ≠ 0 → score = min 1000 (ts + min 300 (ppm / 100) + min 200 (c.heavyFrames.toNat * 1000 / f) +
       min 100 (c.perfFaultFrames.toNat * 1000 / f) + 50 * record.vinegar)) ∧
     (f = 0 → score = record.priorScore) ∧ score ≤ 1000 ∧
     ∀ (base : Base) (vinegar n : Nat),
       (base = .nitrate → chooseClass base vinegar n = .classD) ∧
       (base = .acetate ∨ base = .unknown → 2 ≤ vinegar → chooseClass base vinegar n = .classD) ∧
       ((base = .acetate ∨ base = .unknown) ∧ vinegar < 2 ∨ base = .polyester →
         chooseClass base vinegar n = if n ≤ 399 then .classA else if n ≤ 699 then .classB else .classC)) ∧
  (∀ (s : State) (r : Slot) (reason : CloseReason), s.reels[r].closeReason = some reason →
     let x := s.reels[r]
     let record := s.catalogue[x.record]
     let score := conditionScore x record
     let u : State := ({ s with
       reels := s.reels.set r { x with state := .closed }
       catalogue := s.catalogue.set x.record { record with
         lastScore := some score
         lastClass := some (chooseClass record.base record.vinegar score)
         lastShrink := x.shrinkEstimate
         lastPpm := some (if x.counters.samplesScanned.toNat = 0 then 0
           else x.counters.defectiveSamples.toNat * 1000000 / x.counters.samplesScanned.toNat)
         lastReason := some reason
         scanCount := min 255 (record.scanCount + 1) } } : State).raise .reelClosed r.val (some x.record)
           (match reason with | .reelEnd => 0 | .unmount => 1 | .abort => 2 | .reset => 3)
     (s.shelf.tickets.length < 16 → s.closeReel r = u.formTicket r) ∧
     (16 ≤ s.shelf.tickets.length →
       s.closeReel r = { u with shelf := { s.shelf with waitList := s.shelf.waitList ++ [r] } }))

/-- The formation of a ticket (R164, R165): it joins the queue's tail with the first number from the next ticket number on that
no ticket carries, for the slot's record and the record's last class; the next number is one more, wrapping; the record
is PENDING_SHELF, the slot FREE, and the other tickets keep their places, numbers, records and classes. The allocation
for it runs on that state, its outcome is applied, and a home left FREE, locked or not, makes a retry pass (R165 step 4;
log entry 9). The outcome of an allocation (R167): a position found is RESERVED with the record as its owner, the record names it, a home that is another
position is freed with its class and lock kept, the ticket is ISSUED with the position, and TICKET_ISSUED is raised; with
nothing found the ticket waits with no position, and TICKET_AWAITING_SPACE is raised. -/
def Obligations.FormedTicketTakesTheNextFreeNumber : Prop :=
  (∀ (s : State) (r : Slot) (c : VaultClass), s.shelf.tickets.length < 16 →
    s.shelf.tickets.Pairwise (fun a b => a.number ≠ b.number) → s.catalogue[s.reels[r].record].lastClass = some c →
    let t := s.formTicket r
    let used := s.shelf.tickets.map Ticket.number
    let i := s.reels[r].record
    ∃ n k, t.shelf.tickets.map (fun x => (x.number, x.record, x.cls)) =
        s.shelf.tickets.map (fun x => (x.number, x.record, x.cls)) ++ [(n, i, c)] ∧
      n = s.shelf.nextNumber + BitVec.ofNat 16 k ∧ n ∉ used ∧ k ≤ 15 ∧
      (∀ i, i < k → s.shelf.nextNumber + BitVec.ofNat 16 i ∈ used) ∧
      t.shelf.nextNumber = n + 1 ∧ t.shelf.waitList = s.shelf.waitList ∧
      t.catalogue[i].state = .pendingShelf ∧
      t.reels = s.reels.set r { s.reels[r] with state := .free } ∧
      let x : Ticket := ⟨n, i, c, none, .awaitingSpace⟩
      let home := s.catalogue[i].position
      let u : State := { s with
        reels := t.reels
        catalogue := s.catalogue.set i { s.catalogue[i] with state := .pendingShelf }
        shelf := { s.shelf with tickets := s.shelf.tickets ++ [x], nextNumber := n + 1 } }
      (allocate s.shelf.positions none c home = none → t = u.leaveWaiting x) ∧
      ∀ q, allocate s.shelf.positions none c home = some q →
        ((∃ k, home = some k ∧ k ≠ q) → t = (u.issueTicket x q).retryPass none) ∧
        ((∀ k, home = some k → k = q) → t = u.issueTicket x q)) ∧
  ∀ (s : State) (x : Ticket),
    let numbered (f : Ticket → Ticket) : List Ticket := s.shelf.tickets.map fun y => if y.number = x.number then f y else y
    s.leaveWaiting x = ({ s with shelf := { s.shelf with
      tickets := numbered fun y => { y with state := .awaitingSpace, position := none } } } : State).raise
        .ticketAwaitingSpace 0 (some x.record) x.number.toNat ∧
    ∀ q : PositionNo, ∃ positions : Vector Position 1024,
      s.issueTicket x q = ({ s with
        catalogue := s.catalogue.set x.record { s.catalogue[x.record] with position := some q }
        shelf := { s.shelf with
          positions := positions
          tickets := numbered fun y => { y with state := .issued, position := some q } } } : State).raise
            .ticketIssued 0 (some x.record) x.number.toNat ∧
      ∀ k : PositionNo, positions[k] =
        if k = q then { s.shelf.positions[k] with state := .reserved, owner := some x.record }
        else if s.catalogue[x.record].position = some k then { s.shelf.positions[k] with state := .free, owner := none }
        else s.shelf.positions[k]

/-- The search of an allocation, R166: the home of the ticket's class with its lock clear; then the lowest FREE unlocked
position of the class; then, for class A, of B and of C in turn, and for class B, of C; an excluded position is passed
over at every step, and a position of class D is found for class D only. -/
def Obligations.AllocationSearchesHomeThenColderClasses : Prop :=
  ∀ (ps : Vector Position 1024) (excluded home : Option PositionNo) (c : VaultClass),
    let homeFits (h : PositionNo) : Prop := home = some h ∧ ps[h].cls = some c ∧ ps[h].lock = false ∧ excluded ≠ some h
    let fits (d : VaultClass) (q : PositionNo) : Prop :=
      ps[q].cls = some d ∧ ps[q].state = .free ∧ ps[q].lock = false ∧ excluded ≠ some q
    let lowest (d : VaultClass) (q : PositionNo) : Prop := fits d q ∧ ∀ k < q, ¬ fits d k
    let found := allocate ps excluded c home
    (∀ h, homeFits h → found = some h) ∧
    ((∀ h, ¬ homeFits h) →
      (∀ q, lowest c q → found = some q) ∧
      ((∀ q, ¬ fits c q) →
        (c = .classA → ∀ q, lowest .classB q → found = some q) ∧
        (c = .classA → (∀ q, ¬ fits .classB q) → ∀ q, lowest .classC q → found = some q) ∧
        (c = .classA → (∀ q, ¬ fits .classB q) → (∀ q, ¬ fits .classC q) → found = none) ∧
        (c = .classB → ∀ q, lowest .classC q → found = some q) ∧
        (c = .classB → (∀ q, ¬ fits .classC q) → found = none) ∧
        (c = .classC ∨ c = .classD → found = none))) ∧
    ∀ q, found = some q → (ps[q].cls = some .classD ↔ c = .classD)

/-- The retry passes of one event (R168): they end with no waiting ticket that finds a position, the oldest waiting ticket that
finds one is issued it, every ticket keeps its place, number, record and class, a ticket that is not waiting is not
touched, and with no waiting ticket nothing happens. -/
def Obligations.RetryPassesServeTheOldestFirst : Prop :=
  ∀ (s : State) (excl : Option (BitVec 16 × PositionNo)), s.shelf.tickets.Pairwise (fun a b => a.number ≠ b.number) →
    let t := s.retryPass excl
    (∀ x ∈ t.shelf.tickets, x.state = .awaitingSpace → t.allocateFor excl x = none) ∧
    (∀ older x younger q, s.shelf.tickets = older ++ x :: younger →
      (∀ y ∈ older, y.state = .awaitingSpace → s.allocateFor excl y = none) → x.state = .awaitingSpace →
      s.allocateFor excl x = some q → { x with state := .issued, position := some q } ∈ t.shelf.tickets) ∧
    t.shelf.tickets.map (fun x => (x.number, x.record, x.cls)) =
      s.shelf.tickets.map (fun x => (x.number, x.record, x.cls)) ∧
    (∀ x ∈ s.shelf.tickets, x.state ≠ .awaitingSpace → x ∈ t.shelf.tickets) ∧
    ((∀ x ∈ s.shelf.tickets, x.state ≠ .awaitingSpace) → t = s) ∧
    t = { s with
      catalogue := t.catalogue
      shelf := { s.shelf with positions := t.shelf.positions, tickets := t.shelf.tickets }
      notices := { s.notices with waiting := t.notices.waiting } }

end Statements
end

