-- ==== Sys2Proof/Laws/Dram.lean ====
section
/-! SUPPORT. The stacked DRAM under every operation that does not store a line or a repair: one lemma for each, which says
that the operation leaves every region alone. -/

namespace Sys2Proof.Machine

variable (s : State)

@[simp] theorem State.modReel_dram (r : Slot) (f : Reel → Reel) : (s.modReel r f).pool.dram = s.pool.dram := rfl

@[simp] theorem State.countReel_dram (r : Slot) (f : ReelCounters → ReelCounters) :
    (s.countReel r f).pool.dram = s.pool.dram :=
  rfl

@[simp] theorem State.modHead_dram (h : Head) (f : HeadIntake → HeadIntake) :
    (s.modHead h f).pool.dram = s.pool.dram :=
  rfl

@[simp] theorem State.modBuffer_dram (b : Buf) (f : Buffer → Buffer) : (s.modBuffer b f).pool.dram = s.pool.dram :=
  rfl

@[simp] theorem State.modRecord_dram (i : RecordNo) (f : Record → Record) :
    (s.modRecord i f).pool.dram = s.pool.dram :=
  rfl

@[simp] theorem State.modPosition_dram (q : PositionNo) (f : Position → Position) :
    (s.modPosition q f).pool.dram = s.pool.dram :=
  rfl

@[simp] theorem State.modPort_dram (p : Port) (f : PortState → PortState) : (s.modPort p f).pool.dram = s.pool.dram :=
  rfl

@[simp] theorem State.modTicket_dram (n : BitVec 16) (f : Ticket → Ticket) :
    (s.modTicket n f).pool.dram = s.pool.dram :=
  rfl

@[simp] theorem State.modQueue_dram (l : Lane) (f : List Buf → List Buf) : (s.modQueue l f).pool.dram = s.pool.dram :=
  rfl

@[simp] theorem State.raise_dram (k : NoticeKind) (i : Nat) (c : Option RecordNo) (d : Nat) :
    (s.raise k i c d).pool.dram = s.pool.dram :=
  rfl

@[simp] theorem State.sendCell_dram (p : Port) (k : Byte) (x : List Byte) :
    (s.sendCell p k x).pool.dram = s.pool.dram :=
  rfl

@[simp] theorem State.giveNotice_dram (n : Notice) : (s.giveNotice n).pool.dram = s.pool.dram := rfl

@[simp] theorem State.leaveLanes_dram (b : Buf) : (s.leaveLanes b).pool.dram = s.pool.dram := rfl

@[simp] theorem State.setLink_dram (p : Port) (l : Link) : (s.setLink p l).pool.dram = s.pool.dram := rfl

@[simp] theorem State.formFlow_dram (h : Head) (c : FlowCell) : (s.formFlow h c).pool.dram = s.pool.dram := by
  unfold State.formFlow; split <;> simp

@[simp] theorem State.formReply_dram (p : Port) (g : BitVec 16) (c : Byte) (x : Status) (ws : List Word) :
    (s.formReply p g c x ws).pool.dram = s.pool.dram := by
  unfold State.formReply; split <;> simp

@[simp] theorem State.handOver_dram : (s.handOver).pool.dram = s.pool.dram := by
  unfold State.handOver; split <;> [split <;> simp; rfl]

@[simp] theorem State.returnNotice_dram (p : Port) : (s.returnNotice p).pool.dram = s.pool.dram := by
  unfold State.returnNotice; split <;> [rfl; split <;> rfl]

@[simp] theorem State.issueTicket_dram (t : Ticket) (q : PositionNo) :
    (s.issueTicket t q).pool.dram = s.pool.dram := by
  unfold State.issueTicket; split <;> [(split <;> simp); simp]

@[simp] theorem State.leaveWaiting_dram (t : Ticket) : (s.leaveWaiting t).pool.dram = s.pool.dram := by
  simp [State.leaveWaiting]

@[simp] theorem retryPasses_dram (x : Option (BitVec 16 × PositionNo)) (n : Nat) (s : State) :
    (retryPasses x n s).pool.dram = s.pool.dram := by
  induction n generalizing s with
  | zero => rfl
  | succ n ih => unfold retryPasses; split <;> simp [ih]

@[simp] theorem State.retryPass_dram (x : Option (BitVec 16 × PositionNo)) :
    (s.retryPass x).pool.dram = s.pool.dram := by
  simp [State.retryPass]

@[simp] theorem State.allocateTicket_dram (x : Option (BitVec 16 × PositionNo)) (t : Ticket) :
    (s.allocateTicket x t).pool.dram = s.pool.dram := by
  unfold State.allocateTicket; split <;> [simp; split <;> simp]

@[simp] theorem State.formTicket_dram (r : Slot) : (s.formTicket r).pool.dram = s.pool.dram := by
  simp only [State.formTicket, State.modReel_dram, State.allocateTicket_dram, State.modRecord_dram]

@[simp] theorem State.closeReel_dram (r : Slot) : (s.closeReel r).pool.dram = s.pool.dram := by
  unfold State.closeReel; dsimp only; split <;> simp

@[simp] theorem State.closeIfEmpty_dram (r : Slot) : (s.closeIfEmpty r).pool.dram = s.pool.dram := by
  unfold State.closeIfEmpty; split <;> simp

/-- A loop of one operation that leaves the regions alone does so as well. -/
theorem foldl_dram {α : Type} {f : State → α → State} (h : ∀ s a, (f s a).pool.dram = s.pool.dram) (l : List α) (s : State) :
    (l.foldl f s).pool.dram = s.pool.dram := by
  induction l generalizing s with
  | nil => rfl
  | cons a l ih => simp [ih, h]

@[simp] theorem State.flowToHeads_dram (c : FlowCell) (p : Head → Bool) :
    (s.flowToHeads c p).pool.dram = s.pool.dram := by
  unfold State.flowToHeads; exact foldl_dram (by simp) _ _

@[simp] theorem State.becomePaced_dram : (s.becomePaced).pool.dram = s.pool.dram := by
  simp only [State.becomePaced, State.raise_dram, State.flowToHeads_dram]

@[simp] theorem State.becomeOpen_dram : (s.becomeOpen).pool.dram = s.pool.dram := by
  simp only [State.becomeOpen, State.raise_dram, State.flowToHeads_dram]

@[simp] theorem State.paceFall_dram : (s.paceFall).pool.dram = s.pool.dram := by unfold State.paceFall; split <;> simp

@[simp] theorem State.paceRise_dram : (s.paceRise).pool.dram = s.pool.dram := by unfold State.paceRise; split <;> simp

@[simp] theorem State.tellPaced_dram (h : Head) : (s.tellPaced h).pool.dram = s.pool.dram := by
  unfold State.tellPaced; split <;> simp

@[simp] theorem State.forgetLatest_dram (b : Buf) : (s.forgetLatest b).pool.dram = s.pool.dram := by
  unfold State.forgetLatest; dsimp only; split <;> simp

@[simp] theorem State.release_dram (b : Buf) : (s.release b).pool.dram = s.pool.dram := by simp [State.release]

@[simp] theorem State.releaseTest_dram (b : Buf) : (s.releaseTest b).pool.dram = s.pool.dram := by
  unfold State.releaseTest; split <;> [rfl; (split <;> simp)]

@[simp] theorem State.clearSuccessor_dram (b : Buf) : (s.clearSuccessor b).pool.dram = s.pool.dram := by
  unfold State.clearSuccessor; split <;> simp

@[simp] theorem State.clearLatestHold_dram (r : Slot) : (s.clearLatestHold r).pool.dram = s.pool.dram := by
  unfold State.clearLatestHold; split <;> simp

@[simp] theorem State.releaseNeighbour_dram (b : Buf) : (s.releaseNeighbour b).pool.dram = s.pool.dram := by
  unfold State.releaseNeighbour; dsimp only; split <;> simp

@[simp] theorem State.releaseNeighbours_dram (q : RepairRequest) :
    (s.releaseNeighbours q).pool.dram = s.pool.dram := by
  unfold State.releaseNeighbours; dsimp only; split <;> split <;> simp

@[simp] theorem State.startSend_dram (l : Lane) (b : Buf) : (s.startSend l b).pool.dram = s.pool.dram := by
  simp only [State.startSend, State.sendCell_dram]; rfl

@[simp] theorem State.arbiterSearch_dram : (s.arbiterSearch).pool.dram = s.pool.dram := by
  unfold State.arbiterSearch; split <;> [(split <;> [rfl; (split <;> simp)]); rfl]

@[simp] theorem State.joinLane_dram (b : Buf) : (s.joinLane b).pool.dram = s.pool.dram := by simp [State.joinLane]

@[simp] theorem State.engineTake_dram : (s.engineTake).pool.dram = s.pool.dram := by
  unfold State.engineTake; split <;> rfl

@[simp] theorem State.addNeighbour_dram (b : Buf) : (s.addNeighbour b).pool.dram = s.pool.dram := by
  simp [State.addNeighbour]

@[simp] theorem State.requestRepair_dram (b : Buf) (n : Option Buf) :
    (s.requestRepair b n).pool.dram = s.pool.dram := by
  unfold State.requestRepair
  dsimp only
  rw [State.engineTake_dram]
  split <;> split <;> rfl

@[simp] theorem State.requestPending_dram (r : Slot) : (s.requestPending r).pool.dram = s.pool.dram := by
  unfold State.requestPending; split <;> simp

@[simp] theorem State.discardedNext_dram (r : Slot) : (s.discardedNext r).pool.dram = s.pool.dram := by
  simp [State.discardedNext]

@[simp] theorem State.withdrawRequests_dram (b : Buf) : (s.withdrawRequests b).pool.dram = s.pool.dram := by
  unfold State.withdrawRequests
  exact (foldl_dram (by simp) _ _).trans rfl

@[simp] theorem State.discard_dram (b : Buf) : (s.discard b).pool.dram = s.pool.dram := by simp [State.discard]

@[simp] theorem State.takeHold_dram (r : Slot) (c : Nat) : (s.takeHold r c).pool.dram = s.pool.dram := by
  unfold State.takeHold; dsimp only; split <;> simp

@[simp] theorem State.enterDraining_dram (r : Slot) (c : CloseReason) :
    (s.enterDraining r c).pool.dram = s.pool.dram := by
  simp [State.enterDraining]

@[simp] theorem State.applyPolicy_dram (r : Slot) (p : Policy) : (s.applyPolicy r p).pool.dram = s.pool.dram := by
  simp [State.applyPolicy]

@[simp] theorem applyDeferred_dram (r : Slot) (l : List Deferred) (s : State) :
    (applyDeferred r l s).pool.dram = s.pool.dram := by
  induction l generalizing s with
  | nil => rfl
  | cons d l ih => cases d <;> simp [applyDeferred, ih]

@[simp] theorem State.applyDeferredOrders_dram (r : Slot) : (s.applyDeferredOrders r).pool.dram = s.pool.dram := by
  simp [State.applyDeferredOrders]

@[simp] theorem State.internalHolds_dram (r : Slot) (x y : Bool) :
    (s.internalHolds r x y).pool.dram = s.pool.dram := by
  unfold State.internalHolds; dsimp only; split <;> [(split <;> [(split <;> simp); rfl]); rfl]

@[simp] theorem State.perfUpdate_dram (r : Slot) (c : List Cause) : (s.perfUpdate r c).pool.dram = s.pool.dram := by
  unfold State.perfUpdate; dsimp only; split <;> simp

@[simp] theorem State.heavyPath_dram (b : Buf) (r : Slot) : (s.heavyPath b r).pool.dram = s.pool.dram := by
  simp [State.heavyPath]

@[simp] theorem State.becomePending_dram (b : Buf) : (s.becomePending b).pool.dram = s.pool.dram := by
  simp [State.becomePending]

@[simp] theorem State.predecessorAtEnd_dram (b p : Buf) (x : Bool) :
    (s.predecessorAtEnd b p x).pool.dram = s.pool.dram := by
  unfold State.predecessorAtEnd
  dsimp only
  split
  all_goals split <;> simp

@[simp] theorem State.defectEnd_dram (b : Buf) (r : Slot) (p : Option Buf) (x : Bool) :
    (s.defectEnd b r p x).pool.dram = s.pool.dram := by
  unfold State.defectEnd; dsimp only; split <;> split <;> simp

@[simp] theorem State.abortFrame_dram (r : Slot) (b : Buf) : (s.abortFrame r b).pool.dram = s.pool.dram := by
  simp [State.abortFrame]

@[simp] theorem State.abortBuffer_dram (r : Slot) (b : Buf) : (s.abortBuffer r b).pool.dram = s.pool.dram := by
  unfold State.abortBuffer
  dsimp only
  split
  · rfl
  · split
    iterate 3 simp
    · split
      · split
        · rfl
        · simp
      · simp
    all_goals rfl

@[simp] theorem State.clearAllHolds_dram (r : Slot) : (s.clearAllHolds r).pool.dram = s.pool.dram := by
  unfold State.clearAllHolds; exact foldl_dram (fun s b => by split <;> simp) _ _

@[simp] theorem State.abortReel_dram (r : Slot) : (s.abortReel r).pool.dram = s.pool.dram := by
  unfold State.abortReel
  dsimp only
  rw [State.closeIfEmpty_dram, State.modReel_dram, foldl_dram (fun s b => s.abortBuffer_dram r b),
    State.clearAllHolds_dram]
  split <;> simp

@[simp] theorem State.headCheckFailure_dram (h : Head) (d : Nat) :
    (s.headCheckFailure h d).pool.dram = s.pool.dram := by
  simp [State.headCheckFailure]

@[simp] theorem State.headSink_dram (h : Head) : (s.headSink h).pool.dram = s.pool.dram := by simp [State.headSink]

@[simp] theorem State.storeCheckFailure_dram : (s.storeCheckFailure).pool.dram = s.pool.dram := rfl

@[simp] theorem State.storeSink_dram : (s.storeSink).pool.dram = s.pool.dram := rfl

@[simp] theorem State.sinkFrame_dram (h : Head) : (s.sinkFrame h).pool.dram = s.pool.dram := by simp [State.sinkFrame]

@[simp] theorem State.bufferFrame_dram (h : Head) (r : Slot) (b : Buf) (f : FrameHeadFields) :
    (s.bufferFrame h r b f).pool.dram = s.pool.dram := by
  unfold State.bufferFrame; dsimp only; split <;> [(split <;> simp); simp]

@[simp] theorem State.openedFrame_dram (h : Head) (r : Slot) (f : FrameHeadFields) :
    (s.openedFrame h r f).pool.dram = s.pool.dram := by
  unfold State.openedFrame; dsimp only; split <;> [simp; (split <;> [simp; (split <;> simp)])]

@[simp] theorem State.openingTests_dram (h : Head) (f : FrameHeadFields) :
    (s.openingTests h f).pool.dram = s.pool.dram := by
  unfold State.openingTests; split <;> [simp; (split <;> [simp; (split <;> simp)])]

@[simp] theorem State.oversizeDiscard_dram (h : Head) (b : Buf) (d : FrameDesc) :
    (s.oversizeDiscard h b d).pool.dram = s.pool.dram := by
  simp [State.oversizeDiscard]

@[simp] theorem State.strayLine_dram (h : Head) (x : Bool) : (s.strayLine h x).pool.dram = s.pool.dram := by
  unfold State.strayLine; dsimp only; split <;> simp

@[simp] theorem State.emptyPort_dram (p : Port) : (s.emptyPort p).pool.dram = s.pool.dram := by simp [State.emptyPort]

@[simp] theorem State.gainHeadLink_dram (h : Head) : (s.gainHeadLink h).pool.dram = s.pool.dram := by
  unfold State.gainHeadLink; dsimp only; split <;> simp

@[simp] theorem State.cutSend_dram : (s.cutSend).pool.dram = s.pool.dram := by
  unfold State.cutSend
  split
  · rfl
  · dsimp only
    split <;> rfl

@[simp] theorem State.loseStoreLink_dram : (s.loseStoreLink).pool.dram = s.pool.dram := by
  unfold State.loseStoreLink
  simp only [State.emptyPort_dram, State.raise_dram]
  exact (State.cutSend_dram _).trans rfl

@[simp] theorem State.resolve_dram (b : Buf) (x : Resolution) : (s.resolve b x).pool.dram = s.pool.dram := by
  simp [State.resolve]

@[simp] theorem State.takeStoreAck_dram (p : List Byte) : (s.takeStoreAck p).pool.dram = s.pool.dram := by
  unfold State.takeStoreAck; split <;> [rfl; simp]

@[simp] theorem State.addCredit_dram (l : Lane) (n : Nat) : (s.addCredit l n).pool.dram = s.pool.dram := by
  unfold State.addCredit; exact (State.arbiterSearch_dram _).trans rfl

@[simp] theorem State.onStoreAck_dram (c : RxCell) : (s.onStoreAck c).pool.dram = s.pool.dram := by
  unfold State.onStoreAck; split <;> simp

@[simp] theorem State.onCredit_dram (c : RxCell) : (s.onCredit c).pool.dram = s.pool.dram := by
  unfold State.onCredit; split <;> simp

@[simp] theorem State.onCheckFailure_dram (p : Port) : (s.onCheckFailure p).pool.dram = s.pool.dram := by
  unfold State.onCheckFailure; split <;> simp

@[simp] theorem State.onSunk_dram (p : Port) : (s.onSunk p).pool.dram = s.pool.dram := by
  unfold State.onSunk; split <;> simp

@[simp] theorem State.queueOrder_dram (p : Port) (o : Order) : (s.queueOrder p o).pool.dram = s.pool.dram := by
  unfold State.queueOrder; dsimp only; split <;> simp

@[simp] theorem State.onOrder_dram (p : Port) (c : RxCell) : (s.onOrder p c).pool.dram = s.pool.dram := by
  unfold State.onOrder; split <;> simp

@[simp] theorem State.onOtherKind_dram (p : Port) (k : Byte) (c : RxCell) :
    (s.onOtherKind p k c).pool.dram = s.pool.dram := by
  unfold State.onOtherKind; split <;> simp

/-- The engine in a new state. -/
theorem State.setEngine_dram (e : Option RepairJob) :
    ({ s with repair := { s.repair with engine := e } } : State).pool.dram = s.pool.dram := rfl

@[simp] theorem State.ackExpiry_dram (b : Buf) : (s.ackExpiry b).pool.dram = s.pool.dram := by simp [State.ackExpiry]

@[simp] theorem State.sendLine_dram (b : Buf) (k : Nat) : (s.sendLine b k).pool.dram = s.pool.dram := by
  simp only [State.sendLine, State.sendCell_dram]

@[simp] theorem State.completeSend_dram (b : Buf) : (s.completeSend b).pool.dram = s.pool.dram := by
  unfold State.completeSend; exact (State.arbiterSearch_dram _).trans rfl

@[simp] theorem State.sendMgmt_dram (p : Port) (c : MgmtCell) : (s.sendMgmt p c).pool.dram = s.pool.dram := by
  simp only [State.sendMgmt, State.sendCell_dram, State.modPort_dram]

@[simp] theorem State.sendNotice_dram (p : Port) (c : MgmtCell) : (s.sendNotice p c).pool.dram = s.pool.dram := by
  exact (State.sendMgmt_dram s p c)

@[simp] theorem State.takeFromShelf_dram (i : RecordNo) : (s.takeFromShelf i).pool.dram = s.pool.dram := by
  unfold State.takeFromShelf; dsimp only; split <;> simp

@[simp] theorem State.mount_dram (a : MountArgs) (r : Slot) : (s.mount a r).pool.dram = s.pool.dram := by
  simp [State.mount]

@[simp] theorem State.resume_dram (r : Slot) : (s.resume r).pool.dram = s.pool.dram := by simp [State.resume]

@[simp] theorem State.createRecord_dram (i : RecordNo) (a : Account) (q : Option PositionNo) :
    (s.createRecord i a q).pool.dram = s.pool.dram := by
  unfold State.createRecord; dsimp only; split <;> simp

@[simp] theorem State.eraseRecord_dram (i : RecordNo) : (s.eraseRecord i).pool.dram = s.pool.dram := by
  unfold State.eraseRecord; split <;> [(dsimp only; split <;> simp); simp]

@[simp] theorem State.definePositions_dram (a : ShelfRange) (c : Option VaultClass) :
    (s.definePositions a c).pool.dram = s.pool.dram :=
  rfl

@[simp] theorem State.setLock_dram (q : PositionNo) (x : Bool) : (s.setLock q x).pool.dram = s.pool.dram := by
  simp [State.setLock]

@[simp] theorem State.admitWaiting_dram : (s.admitWaiting).pool.dram = s.pool.dram := by
  unfold State.admitWaiting; split <;> [rfl; exact (State.formTicket_dram _ _).trans rfl]

@[simp] theorem State.confirm_dram (t : Ticket) : (s.confirm t).pool.dram = s.pool.dram := by
  unfold State.confirm
  dsimp only
  rw [State.admitWaiting_dram]
  split <;> rfl

@[simp] theorem State.refusePosition_dram (t : Ticket) (q : PositionNo) (x : Bool) :
    (s.refusePosition t q x).pool.dram = s.pool.dram := by
  unfold State.refusePosition; dsimp only; split <;> simp

end Sys2Proof.Machine
end

