-- ==== Sys2Proof/Laws/Memory.lean ====
section
/-! SUPPORT. The laws of a buffer's region: a read after a write, the canonical form under every operation, and the equality of
canonical regions that read the same. -/

namespace Sys2Proof.Machine

/-- A canonical form from an address on is one from any lower address on. -/
theorem Memory.wfFrom_mono {m : Memory} {a b : Nat} (h : Memory.wfFrom b m = true) (hab : a ≤ b) :
    Memory.wfFrom a m = true := by
  cases m with
  | nil => rfl
  | cons e m =>
    simp only [Memory.wfFrom, Bool.and_eq_true, decide_eq_true_eq] at h ⊢
    exact ⟨⟨by omega, h.1.2⟩, h.2⟩

/-- Below its lowest address a canonical region reads as unwritten. -/
theorem Memory.read_of_lt {m : Memory} {a b : Nat} (h : Memory.wfFrom b m = true) (hab : a < b) :
    m.read a = Memory.unwritten := by
  induction m generalizing b with
  | nil => rfl
  | cons e m ih =>
    simp only [Memory.wfFrom, Bool.and_eq_true, decide_eq_true_eq] at h
    have hne : ¬ e.1 = a := by omega
    simp only [Memory.read, if_neg hne]
    exact ih h.2 (by omega)

/-- A write keeps the canonical form. -/
theorem Memory.wfFrom_write {m : Memory} {b : Nat} (h : Memory.wfFrom b m = true) {a : Nat} (hba : b ≤ a) (x : Sample) :
    Memory.wfFrom b (m.write a x) = true := by
  induction m generalizing b with
  | nil => by_cases hx : x = Memory.unwritten <;> simp [Memory.write, Memory.wfFrom, hx, hba]
  | cons e m ih =>
    simp only [Memory.wfFrom, Bool.and_eq_true, decide_eq_true_eq] at h
    unfold Memory.write
    split
    · rename_i hlt
      by_cases hx : x = Memory.unwritten
      · simp only [hx, if_true, Memory.wfFrom, Bool.and_eq_true, decide_eq_true_eq]
        exact h
      · simp only [hx, if_false, Memory.wfFrom, Bool.and_eq_true, decide_eq_true_eq]
        exact ⟨⟨hba, hx⟩, ⟨by omega, h.1.2⟩, h.2⟩
    · split
      · rename_i _ he
        by_cases hx : x = Memory.unwritten
        · simp only [hx, if_true]
          exact Memory.wfFrom_mono h.2 (by omega)
        · simp only [hx, if_false, Memory.wfFrom, Bool.and_eq_true, decide_eq_true_eq]
          exact ⟨⟨hba, hx⟩, by rw [he]; exact h.2⟩
      · simp only [Memory.wfFrom, Bool.and_eq_true, decide_eq_true_eq]
        exact ⟨h.1, ih h.2 (by omega)⟩

/-- A write keeps the canonical form of a region. -/
theorem Memory.wf_write {m : Memory} (h : m.wf = true) (a : Nat) (x : Sample) : (m.write a x).wf = true :=
  Memory.wfFrom_write h (Nat.zero_le a) x

/-- What a region reads after a write: the sample written at its address, and the old sample everywhere else. -/
theorem Memory.read_write {m : Memory} {b : Nat} (h : Memory.wfFrom b m = true) (a c : Nat) (x : Sample) :
    (m.write a x).read c = if a = c then x else m.read c := by
  induction m generalizing b with
  | nil =>
    by_cases hx : x = Memory.unwritten <;> by_cases hac : a = c <;> simp [Memory.write, Memory.read, hx, hac]
  | cons e m ih =>
    simp only [Memory.wfFrom, Bool.and_eq_true, decide_eq_true_eq] at h
    unfold Memory.write
    split
    · rename_i hlt
      by_cases hx : x = Memory.unwritten
      · subst hx
        simp only [if_true]
        by_cases hac : a = c
        · subst hac
          have hne : ¬ e.1 = a := by omega
          simp only [if_true, Memory.read, if_neg hne]
          exact Memory.read_of_lt h.2 (by omega)
        · simp [hac]
      · simp only [hx, if_false]
        simp only [Memory.read]
    · split
      · rename_i _ he
        by_cases hx : x = Memory.unwritten
        · subst hx
          simp only [if_true]
          by_cases hac : a = c
          · subst hac
            simp only [if_true]
            exact Memory.read_of_lt h.2 (by omega)
          · simp [Memory.read, hac, ← he]
        · simp only [hx, if_false, Memory.read]
          by_cases hac : a = c
          · simp [hac]
          · have : ¬ e.1 = c := by omega
            simp [hac, this]
      · rename_i hlt hne
        simp only [Memory.read]
        by_cases hec : e.1 = c
        · have hac : ¬ a = c := by omega
          simp [hec, hac]
        · simp only [hec, if_false]
          exact ih h.2

/-- What a canonical region reads after a write. -/
theorem Memory.read_write_wf {m : Memory} (h : m.wf = true) (a c : Nat) (x : Sample) :
    (m.write a x).read c = if a = c then x else m.read c :=
  Memory.read_write h a c x

/-- Writing a run of samples keeps the canonical form. -/
theorem Memory.wf_writeFrom {m : Memory} (h : m.wf = true) (a : Nat) (xs : List Sample) : (m.writeFrom a xs).wf = true := by
  induction xs generalizing m a with
  | nil => exact h
  | cons x xs ih => exact ih (Memory.wf_write h a x) (a + 1)

/-- What a canonical region reads after a run of samples is written. -/
theorem Memory.read_writeFrom {m : Memory} (h : m.wf = true) (a c : Nat) (xs : List Sample) :
    (m.writeFrom a xs).read c = if a ≤ c ∧ c < a + xs.length then xs.getD (c - a) Memory.unwritten else m.read c := by
  induction xs generalizing m a with
  | nil =>
    have : ¬ (a ≤ c ∧ c < a + ([] : List Sample).length) := by simp
    rw [if_neg this]
    rfl
  | cons x xs ih =>
    simp only [Memory.writeFrom]
    rw [ih (Memory.wf_write h a x), Memory.read_write_wf h]
    simp only [List.length_cons]
    by_cases hac : a = c
    · subst hac
      have h1 : ¬ (a + 1 ≤ a ∧ a < a + 1 + xs.length) := by omega
      have h2 : a ≤ a ∧ a < a + (xs.length + 1) := by omega
      rw [if_neg h1, if_pos h2]
      simp
    · by_cases hin : a + 1 ≤ c ∧ c < a + 1 + xs.length
      · have h2 : a ≤ c ∧ c < a + (xs.length + 1) := by omega
        rw [if_pos hin, if_pos h2]
        obtain ⟨d, rfl⟩ : ∃ d, c = a + 1 + d := ⟨c - (a + 1), by omega⟩
        have e1 : a + 1 + d - (a + 1) = d := by omega
        have e2 : a + 1 + d - a = d + 1 := by omega
        rw [e1, e2]
        simp
      · have h2 : ¬ (a ≤ c ∧ c < a + (xs.length + 1)) := by omega
        rw [if_neg hin, if_neg h2, if_neg hac]

/-- Storing a line keeps the canonical form. -/
theorem Memory.wf_writeLine {m : Memory} (h : m.wf = true) (l : Nat) (xs : List Sample) : (m.writeLine l xs).wf = true :=
  Memory.wf_writeFrom h _ xs

/-- A fill keeps the canonical form. -/
theorem Memory.wf_fill {m : Memory} (h : m.wf = true) (f : Fill) : (m.fill f).wf = true := by
  unfold Memory.fill
  split
  · exact Memory.wf_write h _ _
  · exact h

/-- A list of fills keeps the canonical form. -/
theorem Memory.wf_fills {m : Memory} (h : m.wf = true) (fs : List Fill) : (fs.foldl Memory.fill m).wf = true := by
  induction fs generalizing m with
  | nil => exact h
  | cons f fs ih => exact ih (Memory.wf_fill h f)

/-- Two canonical regions that read the same at every address are equal. -/
theorem Memory.eq_of_read {m m' : Memory} {b : Nat} (h : Memory.wfFrom b m = true) (h' : Memory.wfFrom b m' = true)
    (hr : ∀ a, m.read a = m'.read a) : m = m' := by
  induction m generalizing m' b with
  | nil =>
    cases m' with
    | nil => rfl
    | cons e m' =>
      simp only [Memory.wfFrom, Bool.and_eq_true, decide_eq_true_eq] at h'
      have := hr e.1
      simp only [Memory.read, if_true] at this
      exact absurd this.symm h'.1.2
  | cons e m ih =>
    obtain ⟨k, v⟩ := e
    simp only [Memory.wfFrom, Bool.and_eq_true, decide_eq_true_eq] at h
    cases m' with
    | nil =>
      have := hr k
      simp only [Memory.read, if_true] at this
      exact absurd this h.1.2
    | cons e' m' =>
      obtain ⟨k', v'⟩ := e'
      simp only [Memory.wfFrom, Bool.and_eq_true, decide_eq_true_eq] at h'
      rcases Nat.lt_trichotomy k k' with hlt | heq | hgt
      · have h1 := hr k
        have hne : ¬ k' = k := by omega
        simp only [Memory.read, if_true, hne, if_false, Memory.read_of_lt h'.2 (by omega : k < k' + 1)] at h1
        exact absurd h1 h.1.2
      · subst heq
        have h1 := hr k
        simp only [Memory.read, if_true] at h1
        subst h1
        congr 1
        refine ih h.2 h'.2 fun a => ?_
        have h2 := hr a
        by_cases hka : k = a
        · subst hka
          rw [Memory.read_of_lt h.2 (by omega), Memory.read_of_lt h'.2 (by omega)]
        · simpa [Memory.read, hka] using h2
      · have h1 := hr k'
        have hne : ¬ k = k' := by omega
        simp only [Memory.read, if_true, hne, if_false, Memory.read_of_lt h.2 (by omega : k' < k + 1)] at h1
        exact absurd h1.symm h'.1.2

end Sys2Proof.Machine
end

