-- ==== Sys2Proof/Laws/Tables.lean ====
section
/-! SUPPORT. What the operations on tables do: the entry an update changes and the entries it leaves, and what a search
finds. -/

namespace Sys2Proof.Machine

variable {α β : Type} {n : Nat}

/-- An entry of an updated table. -/
theorem modEntry_get (v : Vector α n) (i j : Fin n) (f : α → α) :
    (modEntry v i f)[j] = if i = j then f v[j] else v[j] := by
  unfold modEntry
  by_cases h : i = j
  · subst h; simp
  · have : i.val ≠ j.val := fun e => h (Fin.ext e)
    simp [h, Vector.getElem_set_ne, this]

/-- An entry of an updated table, by number. -/
theorem modEntry_getElem (v : Vector α n) (i : Fin n) (f : α → α) (j : Nat) (hj : j < n) :
    (modEntry v i f)[j] = if i.val = j then f v[j] else v[j] := by
  have := modEntry_get v i ⟨j, hj⟩ f
  simp only [Fin.getElem_fin, Fin.ext_iff] at this
  exact this

/-- The updated entry. -/
@[simp] theorem modEntry_self (v : Vector α n) (i : Fin n) (f : α → α) : (modEntry v i f)[i.val] = f v[i.val] := by
  simp [modEntry_getElem]

/-- An entry that the update does not name. -/
theorem modEntry_of_ne (v : Vector α n) {i j : Fin n} (h : i ≠ j) (f : α → α) : (modEntry v i f)[j] = v[j] := by
  rw [modEntry_get, if_neg h]

/-- Every entry of a table has a property after an update that keeps it on the updated entry. -/
theorem modEntry_forall {P : α → Prop} {v : Vector α n} (h : ∀ j : Fin n, P v[j]) (i : Fin n) {f : α → α}
    (hf : P v[i] → P (f v[i])) (j : Fin n) : P (modEntry v i f)[j] := by
  rw [modEntry_get]
  split
  · rename_i e; subst e; exact hf (h _)
  · exact h j

/-- An update that leaves its entry as it is leaves the table as it is. -/
theorem modEntry_id (v : Vector α n) (i : Fin n) {f : α → α} (h : f v[i] = v[i]) : modEntry v i f = v := by
  apply Vector.ext
  intro j hj
  have := modEntry_get v i ⟨j, hj⟩ f
  simp only [Fin.getElem_fin] at this
  rw [this]
  split
  · rename_i e; subst e; exact h
  · rfl

/-- An entry of a table changed whole. -/
@[simp] theorem mapEntries_get (f : Nat → α → β) (v : Vector α n) (i : Nat) (hi : i < n) :
    (mapEntries f v)[i] = f i v[i] := by
  simp [mapEntries]

/-- What `firstFrom` finds: the first place of the list that passes. -/
theorem firstFrom_some {p : Nat → α → Bool} {l : List α} {i k : Nat} (h : firstFrom p i l = some k) :
    ∃ j, ∃ hj : j < l.length, k = i + j ∧ p k l[j] = true ∧ ∀ m, (hm : m < j) → p (i + m) (l[m]'(by omega)) = false := by
  induction l generalizing i with
  | nil => simp [firstFrom] at h
  | cons a l ih =>
    simp only [firstFrom] at h
    split at h
    · rename_i ha
      cases h
      exact ⟨0, by simp, by simp, by simpa using ha, fun m hm => absurd hm (by omega)⟩
    · rename_i ha
      obtain ⟨j, hj, rfl, hp, hl⟩ := ih h
      refine ⟨j + 1, by simpa using hj, by omega, by simpa [Nat.add_assoc, Nat.add_comm 1] using hp, ?_⟩
      intro m hm
      cases m with
      | zero => simpa using ha
      | succ m => simpa [Nat.add_assoc, Nat.add_comm 1] using hl m (by omega)

/-- When `firstFrom` finds nothing, nothing passes. -/
theorem firstFrom_none {p : Nat → α → Bool} {l : List α} {i : Nat} (h : firstFrom p i l = none) (j : Nat) (hj : j < l.length) :
    p (i + j) l[j] = false := by
  induction l generalizing i j with
  | nil => simp at hj
  | cons a l ih =>
    simp only [firstFrom] at h
    split at h
    · cases h
    · rename_i ha
      cases j with
      | zero => simpa using ha
      | succ j => simpa [Nat.add_assoc, Nat.add_comm 1] using ih h j (by simpa using hj)

/-- What `firstEntry` finds: an entry that passes, with none that passes below it. -/
theorem firstEntry_some {p : Nat → α → Bool} {v : Vector α n} {i : Fin n} (h : firstEntry p v = some i) :
    p i.val v[i] = true ∧ ∀ j : Fin n, j < i → p j.val v[j] = false := by
  unfold firstEntry at h
  split at h
  · cases h
  · rename_i k hk
    split at h
    · cases h
      obtain ⟨j, hj, hjk, hp, hl⟩ := firstFrom_some hk
      simp only [Nat.zero_add] at hjk
      subst hjk
      refine ⟨by simpa using hp, fun m hm => ?_⟩
      simpa using hl m.val hm
    · cases h

/-- When `firstEntry` finds nothing, no entry passes. -/
theorem firstEntry_none {p : Nat → α → Bool} {v : Vector α n} (h : firstEntry p v = none) (j : Fin n) :
    p j.val v[j] = false := by
  unfold firstEntry at h
  split at h
  · rename_i hk
    simpa using firstFrom_none hk j.val (by simp)
  · rename_i k hk
    split at h
    · cases h
    · rename_i hn
      obtain ⟨m, hm, hk', -⟩ := firstFrom_some hk
      simp only [Nat.zero_add] at hk'
      simp at hm
      omega

/-- The number of entries that pass is at most the number of entries. -/
theorem countEntries_le (p : α → Bool) (v : Vector α n) : countEntries p v ≤ n := by
  simpa [countEntries] using List.countP_le_length (p := p) (l := v.toList)

end Sys2Proof.Machine
end

