-- ==== Sys2Proof/Laws/Orders.lean ====
section
/-! SUPPORT. The order queues of the ports under every operation that an order's effects are made of: one lemma for each, which
says that the operation leaves them alone (R180). -/

namespace Sys2Proof.Machine

/-- The order queues of the five ports. -/
def State.orderQueues (s : State) : Vector (List Order) 5 := s.links.ports.map PortState.orders

variable (s : State)

@[simp] theorem State.modReel_orderQueues (r : Slot) (f : Reel → Reel) :
    (s.modReel r f).orderQueues = s.orderQueues :=
  rfl

@[simp] theorem State.countReel_orderQueues (r : Slot) (f : ReelCounters → ReelCounters) :
    (s.countReel r f).orderQueues = s.orderQueues :=
  rfl

@[simp] theorem State.modHead_orderQueues (h : Head) (f : HeadIntake → HeadIntake) :
    (s.modHead h f).orderQueues = s.orderQueues :=
  rfl

@[simp] theorem State.modBuffer_orderQueues (b : Buf) (f : Buffer → Buffer) :
    (s.modBuffer b f).orderQueues = s.orderQueues :=
  rfl

@[simp] theorem State.modMemory_orderQueues (b : Buf) (f : Memory → Memory) :
    (s.modMemory b f).orderQueues = s.orderQueues :=
  rfl

@[simp] theorem State.modRecord_orderQueues (i : RecordNo) (f : Record → Record) :
    (s.modRecord i f).orderQueues = s.orderQueues :=
  rfl

@[simp] theorem State.modPosition_orderQueues (q : PositionNo) (f : Position → Position) :
    (s.modPosition q f).orderQueues = s.orderQueues :=
  rfl

@[simp] theorem State.modTicket_orderQueues (n : BitVec 16) (f : Ticket → Ticket) :
    (s.modTicket n f).orderQueues = s.orderQueues :=
  rfl

@[simp] theorem State.modQueue_orderQueues (l : Lane) (f : List Buf → List Buf) :
    (s.modQueue l f).orderQueues = s.orderQueues :=
  rfl

@[simp] theorem State.raise_orderQueues (k : NoticeKind) (i : Nat) (c : Option RecordNo) (d : Nat) :
    (s.raise k i c d).orderQueues = s.orderQueues :=
  rfl

@[simp] theorem State.leaveLanes_orderQueues (b : Buf) : (s.leaveLanes b).orderQueues = s.orderQueues := rfl

/-- A change of a port that keeps its orders keeps the order queues. -/
@[simp] theorem State.modPort_orderQueues (p : Port) {f : PortState → PortState} (h : ∀ q, (f q).orders = q.orders) :
    (s.modPort p f).orderQueues = s.orderQueues := by
  apply Vector.ext
  intro k hk
  simp only [State.orderQueues, State.modPort, Vector.getElem_map, modEntry_getElem]
  split <;> [exact h _; rfl]

@[simp] theorem State.sendCell_orderQueues (p : Port) (k : Byte) (x : List Byte) :
    (s.sendCell p k x).orderQueues = s.orderQueues := by
  exact s.modPort_orderQueues p fun _ => rfl

@[simp] theorem State.giveNotice_orderQueues (n : Notice) : (s.giveNotice n).orderQueues = s.orderQueues := by
  exact s.modPort_orderQueues s.notices.port fun _ => rfl

/-! ### Cells, notices and tickets -/

@[simp] theorem State.formFlow_orderQueues (h : Head) (c : FlowCell) :
    (s.formFlow h c).orderQueues = s.orderQueues := by
  unfold State.formFlow; split <;> simp

@[simp] theorem State.formReply_orderQueues (p : Port) (g : BitVec 16) (c : Byte) (x : Status) (ws : List Word) :
    (s.formReply p g c x ws).orderQueues = s.orderQueues := by
  unfold State.formReply; split <;> simp

@[simp] theorem State.handOver_orderQueues : (s.handOver).orderQueues = s.orderQueues := by
  unfold State.handOver; split <;> [split <;> simp; rfl]

@[simp] theorem State.returnNotice_orderQueues (p : Port) : (s.returnNotice p).orderQueues = s.orderQueues := by
  unfold State.returnNotice; split <;> [rfl; split <;> rfl]

@[simp] theorem State.issueTicket_orderQueues (t : Ticket) (q : PositionNo) :
    (s.issueTicket t q).orderQueues = s.orderQueues := by
  unfold State.issueTicket; split <;> [(split <;> simp); simp]

@[simp] theorem State.leaveWaiting_orderQueues (t : Ticket) : (s.leaveWaiting t).orderQueues = s.orderQueues := by
  simp [State.leaveWaiting]

@[simp] theorem retryPasses_orderQueues (x : Option (BitVec 16 × PositionNo)) (n : Nat) (s : State) :
    (retryPasses x n s).orderQueues = s.orderQueues := by
  induction n generalizing s with
  | zero => rfl
  | succ n ih => unfold retryPasses; split <;> simp [ih]

@[simp] theorem State.retryPass_orderQueues (x : Option (BitVec 16 × PositionNo)) :
    (s.retryPass x).orderQueues = s.orderQueues := by
  simp [State.retryPass]

@[simp] theorem State.allocateTicket_orderQueues (x : Option (BitVec 16 × PositionNo)) (t : Ticket) :
    (s.allocateTicket x t).orderQueues = s.orderQueues := by
  unfold State.allocateTicket; split <;> [simp; split <;> simp]

@[simp] theorem State.formTicket_orderQueues (r : Slot) : (s.formTicket r).orderQueues = s.orderQueues := by
  simp only [State.formTicket, State.modReel_orderQueues, State.allocateTicket_orderQueues, State.modRecord_orderQueues]; rfl

@[simp] theorem State.closeReel_orderQueues (r : Slot) : (s.closeReel r).orderQueues = s.orderQueues := by
  unfold State.closeReel; dsimp only; split <;> [simp; (simp only [State.orderQueues]; rfl)]

@[simp] theorem State.closeIfEmpty_orderQueues (r : Slot) : (s.closeIfEmpty r).orderQueues = s.orderQueues := by
  unfold State.closeIfEmpty; split <;> simp

/-! ### The pool -/

/-- A loop of one operation that leaves the order queues alone does so as well. -/
theorem foldl_orderQueues {α : Type} {f : State → α → State} (h : ∀ s a, (f s a).orderQueues = s.orderQueues) (l : List α)
    (s : State) :
    (l.foldl f s).orderQueues = s.orderQueues := by
  induction l generalizing s with
  | nil => rfl
  | cons a l ih => simp [ih, h]

@[simp] theorem State.flowToHeads_orderQueues (c : FlowCell) (p : Head → Bool) :
    (s.flowToHeads c p).orderQueues = s.orderQueues := by
  unfold State.flowToHeads; exact foldl_orderQueues (by simp) _ _

@[simp] theorem State.becomePaced_orderQueues : (s.becomePaced).orderQueues = s.orderQueues := by
  simp only [State.becomePaced, State.raise_orderQueues, State.flowToHeads_orderQueues]; rfl

@[simp] theorem State.becomeOpen_orderQueues : (s.becomeOpen).orderQueues = s.orderQueues := by
  simp only [State.becomeOpen, State.raise_orderQueues, State.flowToHeads_orderQueues]; rfl

@[simp] theorem State.paceFall_orderQueues : (s.paceFall).orderQueues = s.orderQueues := by
  unfold State.paceFall; split <;> simp

@[simp] theorem State.paceRise_orderQueues : (s.paceRise).orderQueues = s.orderQueues := by
  unfold State.paceRise; split <;> simp

@[simp] theorem State.tellPaced_orderQueues (h : Head) : (s.tellPaced h).orderQueues = s.orderQueues := by
  unfold State.tellPaced; split <;> simp

@[simp] theorem State.forgetLatest_orderQueues (b : Buf) : (s.forgetLatest b).orderQueues = s.orderQueues := by
  unfold State.forgetLatest; dsimp only; split <;> simp

@[simp] theorem State.release_orderQueues (b : Buf) : (s.release b).orderQueues = s.orderQueues := by
  simp [State.release]

@[simp] theorem State.releaseTest_orderQueues (b : Buf) : (s.releaseTest b).orderQueues = s.orderQueues := by
  unfold State.releaseTest; split <;> [rfl; (split <;> simp)]

@[simp] theorem State.clearSuccessor_orderQueues (b : Buf) : (s.clearSuccessor b).orderQueues = s.orderQueues := by
  unfold State.clearSuccessor; split <;> simp

@[simp] theorem State.clearLatestHold_orderQueues (r : Slot) : (s.clearLatestHold r).orderQueues = s.orderQueues := by
  unfold State.clearLatestHold; split <;> simp

@[simp] theorem State.releaseNeighbour_orderQueues (b : Buf) :
    (s.releaseNeighbour b).orderQueues = s.orderQueues := by
  unfold State.releaseNeighbour; dsimp only; split <;> simp

@[simp] theorem State.releaseNeighbours_orderQueues (q : RepairRequest) :
    (s.releaseNeighbours q).orderQueues = s.orderQueues := by
  unfold State.releaseNeighbours; dsimp only; split <;> split <;> simp

/-! ### Delivery -/

@[simp] theorem State.startSend_orderQueues (l : Lane) (b : Buf) : (s.startSend l b).orderQueues = s.orderQueues := by
  simp only [State.startSend, State.sendCell_orderQueues]; rfl

@[simp] theorem State.arbiterSearch_orderQueues : (s.arbiterSearch).orderQueues = s.orderQueues := by
  unfold State.arbiterSearch; split <;> [(split <;> [rfl; (split <;> simp)]); rfl]

@[simp] theorem State.joinLane_orderQueues (b : Buf) : (s.joinLane b).orderQueues = s.orderQueues := by
  simp [State.joinLane]

/-! ### Repair -/

@[simp] theorem State.engineTake_orderQueues : (s.engineTake).orderQueues = s.orderQueues := by
  unfold State.engineTake; split <;> rfl

@[simp] theorem State.addNeighbour_orderQueues (b : Buf) : (s.addNeighbour b).orderQueues = s.orderQueues := by
  simp [State.addNeighbour]

@[simp] theorem State.requestRepair_orderQueues (b : Buf) (n : Option Buf) :
    (s.requestRepair b n).orderQueues = s.orderQueues := by
  unfold State.requestRepair
  dsimp only
  rw [State.engineTake_orderQueues]
  split <;> split <;> rfl

@[simp] theorem State.requestPending_orderQueues (r : Slot) : (s.requestPending r).orderQueues = s.orderQueues := by
  unfold State.requestPending; split <;> simp

@[simp] theorem State.discardedNext_orderQueues (r : Slot) : (s.discardedNext r).orderQueues = s.orderQueues := by
  simp [State.discardedNext]

@[simp] theorem State.withdrawRequests_orderQueues (b : Buf) :
    (s.withdrawRequests b).orderQueues = s.orderQueues := by
  unfold State.withdrawRequests
  exact (foldl_orderQueues (by simp) _ _).trans rfl

@[simp] theorem State.discard_orderQueues (b : Buf) : (s.discard b).orderQueues = s.orderQueues := by
  simp [State.discard]

/-! ### Reels and frame gaps -/

@[simp] theorem State.takeGoodLine_orderQueues (b : Buf) (t l : Nat) (xs : List Sample) :
    (s.takeGoodLine b t l xs).orderQueues = s.orderQueues := by
  simp [State.takeGoodLine]

@[simp] theorem State.takeBadLine_orderQueues (b : Buf) (l : Nat) :
    (s.takeBadLine b l).orderQueues = s.orderQueues := by
  simp [State.takeBadLine]

@[simp] theorem State.takeHold_orderQueues (r : Slot) (c : Nat) : (s.takeHold r c).orderQueues = s.orderQueues := by
  unfold State.takeHold; dsimp only; split <;> simp

@[simp] theorem State.enterDraining_orderQueues (r : Slot) (c : CloseReason) :
    (s.enterDraining r c).orderQueues = s.orderQueues := by
  simp [State.enterDraining]

@[simp] theorem State.applyPolicy_orderQueues (r : Slot) (p : Policy) :
    (s.applyPolicy r p).orderQueues = s.orderQueues := by
  simp [State.applyPolicy]

@[simp] theorem applyDeferred_orderQueues (r : Slot) (l : List Deferred) (s : State) :
    (applyDeferred r l s).orderQueues = s.orderQueues := by
  induction l generalizing s with
  | nil => rfl
  | cons d l ih => cases d <;> simp [applyDeferred, ih]

@[simp] theorem State.applyDeferredOrders_orderQueues (r : Slot) :
    (s.applyDeferredOrders r).orderQueues = s.orderQueues := by
  simp [State.applyDeferredOrders]

@[simp] theorem State.internalHolds_orderQueues (r : Slot) (x y : Bool) :
    (s.internalHolds r x y).orderQueues = s.orderQueues := by
  unfold State.internalHolds; dsimp only; split <;> [(split <;> [(split <;> simp); rfl]); rfl]

@[simp] theorem State.perfUpdate_orderQueues (r : Slot) (c : List Cause) :
    (s.perfUpdate r c).orderQueues = s.orderQueues := by
  unfold State.perfUpdate; dsimp only; split <;> simp

@[simp] theorem State.heavyPath_orderQueues (b : Buf) (r : Slot) : (s.heavyPath b r).orderQueues = s.orderQueues := by
  simp [State.heavyPath]

@[simp] theorem State.becomePending_orderQueues (b : Buf) : (s.becomePending b).orderQueues = s.orderQueues := by
  simp [State.becomePending]

@[simp] theorem State.predecessorAtEnd_orderQueues (b p : Buf) (x : Bool) :
    (s.predecessorAtEnd b p x).orderQueues = s.orderQueues := by
  unfold State.predecessorAtEnd
  dsimp only
  split
  all_goals split <;> simp

@[simp] theorem State.takeMissing_orderQueues (b : Buf) : (s.takeMissing b).orderQueues = s.orderQueues := by
  unfold State.takeMissing; exact foldl_orderQueues (by simp) _ _

@[simp] theorem State.assembleFrame_orderQueues (b : Buf) (r : Slot) :
    (s.assembleFrame b r).orderQueues = s.orderQueues := by
  simp [State.assembleFrame]

@[simp] theorem State.defectEnd_orderQueues (b : Buf) (r : Slot) (p : Option Buf) (x : Bool) :
    (s.defectEnd b r p x).orderQueues = s.orderQueues := by
  unfold State.defectEnd; dsimp only; split <;> split <;> simp

@[simp] theorem State.closeFrame_orderQueues (h : Head) (b : Buf) (d : FrameDesc) :
    (s.closeFrame h b d).orderQueues = s.orderQueues := by
  simp [State.closeFrame]

@[simp] theorem State.endAssembly_orderQueues (h : Head) : (s.endAssembly h).orderQueues = s.orderQueues := by
  unfold State.endAssembly; split <;> simp

@[simp] theorem State.abortFrame_orderQueues (r : Slot) (b : Buf) :
    (s.abortFrame r b).orderQueues = s.orderQueues := by
  simp [State.abortFrame]

@[simp] theorem State.abortBuffer_orderQueues (r : Slot) (b : Buf) :
    (s.abortBuffer r b).orderQueues = s.orderQueues := by
  unfold State.abortBuffer
  dsimp only
  split
  · rfl
  · split
    iterate 3 simp
    · split
      · split
        · rfl
        · simp
      · simp
    all_goals rfl

@[simp] theorem State.clearAllHolds_orderQueues (r : Slot) : (s.clearAllHolds r).orderQueues = s.orderQueues := by
  unfold State.clearAllHolds; exact foldl_orderQueues (fun s b => by split <;> simp) _ _

@[simp] theorem State.abortReel_orderQueues (r : Slot) : (s.abortReel r).orderQueues = s.orderQueues := by
  unfold State.abortReel
  dsimp only
  rw [State.closeIfEmpty_orderQueues, State.modReel_orderQueues, foldl_orderQueues (fun s b => s.abortBuffer_orderQueues r b),
    State.clearAllHolds_orderQueues]
  split <;> simp

/-! ### Orders -/

@[simp] theorem State.takeFromShelf_orderQueues (i : RecordNo) : (s.takeFromShelf i).orderQueues = s.orderQueues := by
  unfold State.takeFromShelf; dsimp only; split <;> simp

@[simp] theorem State.mount_orderQueues (a : MountArgs) (r : Slot) : (s.mount a r).orderQueues = s.orderQueues := by
  simp [State.mount]

@[simp] theorem State.resume_orderQueues (r : Slot) : (s.resume r).orderQueues = s.orderQueues := by
  simp [State.resume]

@[simp] theorem State.createRecord_orderQueues (i : RecordNo) (a : Account) (q : Option PositionNo) :
    (s.createRecord i a q).orderQueues = s.orderQueues := by
  unfold State.createRecord; dsimp only; split <;> simp

@[simp] theorem State.eraseRecord_orderQueues (i : RecordNo) : (s.eraseRecord i).orderQueues = s.orderQueues := by
  unfold State.eraseRecord; split <;> [(dsimp only; split <;> simp); simp]

@[simp] theorem State.definePositions_orderQueues (a : ShelfRange) (c : Option VaultClass) :
    (s.definePositions a c).orderQueues = s.orderQueues :=
  rfl

@[simp] theorem State.setLock_orderQueues (q : PositionNo) (x : Bool) :
    (s.setLock q x).orderQueues = s.orderQueues := by
  simp [State.setLock]

@[simp] theorem State.admitWaiting_orderQueues : (s.admitWaiting).orderQueues = s.orderQueues := by
  unfold State.admitWaiting; split <;> [rfl; exact (State.formTicket_orderQueues _ _).trans rfl]

@[simp] theorem State.confirm_orderQueues (t : Ticket) : (s.confirm t).orderQueues = s.orderQueues := by
  unfold State.confirm
  dsimp only
  rw [State.admitWaiting_orderQueues]
  split <;> rfl

@[simp] theorem State.refusePosition_orderQueues (t : Ticket) (q : PositionNo) (x : Bool) :
    (s.refusePosition t q x).orderQueues = s.orderQueues := by
  unfold State.refusePosition; dsimp only; split <;> simp

theorem State.abandonRepair_links : s.abandonRepair.links = s.links := by
  unfold State.abandonRepair; split <;> rfl

@[simp] theorem State.softReset_orderQueues : s.softReset.orderQueues = s.orderQueues := by
  apply Vector.ext
  intro k hk
  simp only [State.orderQueues, State.softReset, Vector.getElem_map, mapEntries_get, s.abandonRepair_links]
  rfl

/-- The reply of an order and the hand-over that ends its event keep the order queues of the order's effect. -/
@[simp] theorem replied_orderQueues (p : Port) (o : Order) (e : OrderEffect) : (replied p o e).orderQueues = e.1.orderQueues := by
  simp [replied]

end Sys2Proof.Machine
end

