-- ==== Sys2Proof/Laws/Standing.lean ====
section
/-! SUPPORT. The standing part of a state (the settings, the order unit's port, the reset input, the queue) under every
operation of the blocks' own work: one lemma for each, which says that the operation leaves it alone. -/

namespace Sys2Proof.Machine

variable (s : State)

@[simp] theorem State.modReel_standing (r : Slot) (f : Reel → Reel) : (s.modReel r f).standing = s.standing := rfl

@[simp] theorem State.countReel_standing (r : Slot) (f : ReelCounters → ReelCounters) :
    (s.countReel r f).standing = s.standing :=
  rfl

@[simp] theorem State.modHead_standing (h : Head) (f : HeadIntake → HeadIntake) :
    (s.modHead h f).standing = s.standing :=
  rfl

@[simp] theorem State.modBuffer_standing (b : Buf) (f : Buffer → Buffer) : (s.modBuffer b f).standing = s.standing :=
  rfl

@[simp] theorem State.modMemory_standing (b : Buf) (f : Memory → Memory) : (s.modMemory b f).standing = s.standing :=
  rfl

@[simp] theorem State.modRecord_standing (i : RecordNo) (f : Record → Record) :
    (s.modRecord i f).standing = s.standing :=
  rfl

@[simp] theorem State.modPosition_standing (q : PositionNo) (f : Position → Position) :
    (s.modPosition q f).standing = s.standing :=
  rfl

@[simp] theorem State.modPort_standing (p : Port) (f : PortState → PortState) :
    (s.modPort p f).standing = s.standing :=
  rfl

@[simp] theorem State.modTicket_standing (n : BitVec 16) (f : Ticket → Ticket) :
    (s.modTicket n f).standing = s.standing :=
  rfl

@[simp] theorem State.modQueue_standing (l : Lane) (f : List Buf → List Buf) :
    (s.modQueue l f).standing = s.standing :=
  rfl

@[simp] theorem State.raise_standing (k : NoticeKind) (i : Nat) (c : Option RecordNo) (d : Nat) :
    (s.raise k i c d).standing = s.standing :=
  rfl

@[simp] theorem State.sendCell_standing (p : Port) (k : Byte) (x : List Byte) :
    (s.sendCell p k x).standing = s.standing :=
  rfl

@[simp] theorem State.giveNotice_standing (n : Notice) : (s.giveNotice n).standing = s.standing := rfl

@[simp] theorem State.leaveLanes_standing (b : Buf) : (s.leaveLanes b).standing = s.standing := rfl

@[simp] theorem State.setLink_standing (p : Port) (l : Link) : (s.setLink p l).standing = s.standing := rfl

/-! ### Cells, notices and tickets -/

@[simp] theorem State.formFlow_standing (h : Head) (c : FlowCell) : (s.formFlow h c).standing = s.standing := by
  unfold State.formFlow; split <;> simp

@[simp] theorem State.formReply_standing (p : Port) (g : BitVec 16) (c : Byte) (x : Status) (ws : List Word) :
    (s.formReply p g c x ws).standing = s.standing := by
  unfold State.formReply; split <;> simp

@[simp] theorem State.handOver_standing : (s.handOver).standing = s.standing := by
  unfold State.handOver; split <;> [split <;> simp; rfl]

@[simp] theorem State.returnNotice_standing (p : Port) : (s.returnNotice p).standing = s.standing := by
  unfold State.returnNotice; split <;> [rfl; split <;> rfl]

@[simp] theorem State.issueTicket_standing (t : Ticket) (q : PositionNo) :
    (s.issueTicket t q).standing = s.standing := by
  unfold State.issueTicket; split <;> [(split <;> simp); simp]

@[simp] theorem State.leaveWaiting_standing (t : Ticket) : (s.leaveWaiting t).standing = s.standing := by
  simp [State.leaveWaiting]

@[simp] theorem retryPasses_standing (x : Option (BitVec 16 × PositionNo)) (n : Nat) (s : State) :
    (retryPasses x n s).standing = s.standing := by
  induction n generalizing s with
  | zero => rfl
  | succ n ih => unfold retryPasses; split <;> simp [ih]

@[simp] theorem State.retryPass_standing (x : Option (BitVec 16 × PositionNo)) :
    (s.retryPass x).standing = s.standing := by
  simp [State.retryPass]

@[simp] theorem State.allocateTicket_standing (x : Option (BitVec 16 × PositionNo)) (t : Ticket) :
    (s.allocateTicket x t).standing = s.standing := by
  unfold State.allocateTicket; split <;> [simp; split <;> simp]

@[simp] theorem State.formTicket_standing (r : Slot) : (s.formTicket r).standing = s.standing := by
  simp only [State.formTicket, State.modReel_standing, State.allocateTicket_standing, State.modRecord_standing]; rfl

@[simp] theorem State.closeReel_standing (r : Slot) : (s.closeReel r).standing = s.standing := by
  unfold State.closeReel; dsimp only; split <;> [simp; (simp only [State.standing, State.settings]; rfl)]

@[simp] theorem State.closeIfEmpty_standing (r : Slot) : (s.closeIfEmpty r).standing = s.standing := by
  unfold State.closeIfEmpty; split <;> simp

/-! ### The pool -/

/-- A loop of one operation that leaves the standing part alone does so as well. -/
theorem foldl_standing {α : Type} {f : State → α → State} (h : ∀ s a, (f s a).standing = s.standing) (l : List α) (s : State) :
    (l.foldl f s).standing = s.standing := by
  induction l generalizing s with
  | nil => rfl
  | cons a l ih => simp [ih, h]

@[simp] theorem State.flowToHeads_standing (c : FlowCell) (p : Head → Bool) :
    (s.flowToHeads c p).standing = s.standing := by
  unfold State.flowToHeads; exact foldl_standing (by simp) _ _

@[simp] theorem State.becomePaced_standing : (s.becomePaced).standing = s.standing := by
  simp only [State.becomePaced, State.raise_standing, State.flowToHeads_standing]; rfl

@[simp] theorem State.becomeOpen_standing : (s.becomeOpen).standing = s.standing := by
  simp only [State.becomeOpen, State.raise_standing, State.flowToHeads_standing]; rfl

@[simp] theorem State.paceFall_standing : (s.paceFall).standing = s.standing := by
  unfold State.paceFall; split <;> simp

@[simp] theorem State.paceRise_standing : (s.paceRise).standing = s.standing := by
  unfold State.paceRise; split <;> simp

@[simp] theorem State.tellPaced_standing (h : Head) : (s.tellPaced h).standing = s.standing := by
  unfold State.tellPaced; split <;> simp

@[simp] theorem State.forgetLatest_standing (b : Buf) : (s.forgetLatest b).standing = s.standing := by
  unfold State.forgetLatest; dsimp only; split <;> simp

@[simp] theorem State.release_standing (b : Buf) : (s.release b).standing = s.standing := by simp [State.release]

@[simp] theorem State.releaseTest_standing (b : Buf) : (s.releaseTest b).standing = s.standing := by
  unfold State.releaseTest; split <;> [rfl; (split <;> simp)]

@[simp] theorem State.clearSuccessor_standing (b : Buf) : (s.clearSuccessor b).standing = s.standing := by
  unfold State.clearSuccessor; split <;> simp

@[simp] theorem State.clearLatestHold_standing (r : Slot) : (s.clearLatestHold r).standing = s.standing := by
  unfold State.clearLatestHold; split <;> simp

@[simp] theorem State.releaseNeighbour_standing (b : Buf) : (s.releaseNeighbour b).standing = s.standing := by
  unfold State.releaseNeighbour; dsimp only; split <;> simp

@[simp] theorem State.releaseNeighbours_standing (q : RepairRequest) :
    (s.releaseNeighbours q).standing = s.standing := by
  unfold State.releaseNeighbours; dsimp only; split <;> split <;> simp

/-! ### Delivery -/

@[simp] theorem State.startSend_standing (l : Lane) (b : Buf) : (s.startSend l b).standing = s.standing := by
  simp only [State.startSend, State.sendCell_standing]; rfl

@[simp] theorem State.arbiterSearch_standing : (s.arbiterSearch).standing = s.standing := by
  unfold State.arbiterSearch; split <;> [(split <;> [rfl; (split <;> simp)]); rfl]

@[simp] theorem State.joinLane_standing (b : Buf) : (s.joinLane b).standing = s.standing := by simp [State.joinLane]

/-! ### Repair -/

@[simp] theorem State.engineTake_standing : (s.engineTake).standing = s.standing := by
  unfold State.engineTake; split <;> rfl

@[simp] theorem State.addNeighbour_standing (b : Buf) : (s.addNeighbour b).standing = s.standing := by
  simp [State.addNeighbour]

@[simp] theorem State.requestRepair_standing (b : Buf) (n : Option Buf) :
    (s.requestRepair b n).standing = s.standing := by
  unfold State.requestRepair
  dsimp only
  rw [State.engineTake_standing]
  split <;> split <;> rfl

@[simp] theorem State.requestPending_standing (r : Slot) : (s.requestPending r).standing = s.standing := by
  unfold State.requestPending; split <;> simp

@[simp] theorem State.discardedNext_standing (r : Slot) : (s.discardedNext r).standing = s.standing := by
  simp [State.discardedNext]

@[simp] theorem State.withdrawRequests_standing (b : Buf) : (s.withdrawRequests b).standing = s.standing := by
  unfold State.withdrawRequests
  exact (foldl_standing (by simp) _ _).trans rfl

@[simp] theorem State.discard_standing (b : Buf) : (s.discard b).standing = s.standing := by simp [State.discard]

/-! ### Reels and frame gaps -/

@[simp] theorem State.takeGoodLine_standing (b : Buf) (t l : Nat) (xs : List Sample) :
    (s.takeGoodLine b t l xs).standing = s.standing := by
  simp [State.takeGoodLine]

@[simp] theorem State.takeBadLine_standing (b : Buf) (l : Nat) : (s.takeBadLine b l).standing = s.standing := by
  simp [State.takeBadLine]

@[simp] theorem State.takeHold_standing (r : Slot) (c : Nat) : (s.takeHold r c).standing = s.standing := by
  unfold State.takeHold; dsimp only; split <;> simp

@[simp] theorem State.enterDraining_standing (r : Slot) (c : CloseReason) :
    (s.enterDraining r c).standing = s.standing := by
  simp [State.enterDraining]

@[simp] theorem State.applyPolicy_standing (r : Slot) (p : Policy) : (s.applyPolicy r p).standing = s.standing := by
  simp [State.applyPolicy]

@[simp] theorem applyDeferred_standing (r : Slot) (l : List Deferred) (s : State) :
    (applyDeferred r l s).standing = s.standing := by
  induction l generalizing s with
  | nil => rfl
  | cons d l ih => cases d <;> simp [applyDeferred, ih]

@[simp] theorem State.applyDeferredOrders_standing (r : Slot) : (s.applyDeferredOrders r).standing = s.standing := by
  simp [State.applyDeferredOrders]

@[simp] theorem State.internalHolds_standing (r : Slot) (x y : Bool) :
    (s.internalHolds r x y).standing = s.standing := by
  unfold State.internalHolds; dsimp only; split <;> [(split <;> [(split <;> simp); rfl]); rfl]

@[simp] theorem State.perfUpdate_standing (r : Slot) (c : List Cause) : (s.perfUpdate r c).standing = s.standing := by
  unfold State.perfUpdate; dsimp only; split <;> simp

@[simp] theorem State.heavyPath_standing (b : Buf) (r : Slot) : (s.heavyPath b r).standing = s.standing := by
  simp [State.heavyPath]

@[simp] theorem State.becomePending_standing (b : Buf) : (s.becomePending b).standing = s.standing := by
  simp [State.becomePending]

@[simp] theorem State.predecessorAtEnd_standing (b p : Buf) (x : Bool) :
    (s.predecessorAtEnd b p x).standing = s.standing := by
  unfold State.predecessorAtEnd
  dsimp only
  split
  all_goals split <;> simp

@[simp] theorem State.takeMissing_standing (b : Buf) : (s.takeMissing b).standing = s.standing := by
  unfold State.takeMissing; exact foldl_standing (by simp) _ _

@[simp] theorem State.assembleFrame_standing (b : Buf) (r : Slot) : (s.assembleFrame b r).standing = s.standing := by
  simp [State.assembleFrame]

@[simp] theorem State.defectEnd_standing (b : Buf) (r : Slot) (p : Option Buf) (x : Bool) :
    (s.defectEnd b r p x).standing = s.standing := by
  unfold State.defectEnd; dsimp only; split <;> split <;> simp

@[simp] theorem State.closeFrame_standing (h : Head) (b : Buf) (d : FrameDesc) :
    (s.closeFrame h b d).standing = s.standing := by
  simp [State.closeFrame]

@[simp] theorem State.endAssembly_standing (h : Head) : (s.endAssembly h).standing = s.standing := by
  unfold State.endAssembly; split <;> simp

@[simp] theorem State.abortFrame_standing (r : Slot) (b : Buf) : (s.abortFrame r b).standing = s.standing := by
  simp [State.abortFrame]

@[simp] theorem State.abortBuffer_standing (r : Slot) (b : Buf) : (s.abortBuffer r b).standing = s.standing := by
  unfold State.abortBuffer
  dsimp only
  split
  · rfl
  · split
    iterate 3 simp
    · split
      · split
        · rfl
        · simp
      · simp
    all_goals rfl

@[simp] theorem State.clearAllHolds_standing (r : Slot) : (s.clearAllHolds r).standing = s.standing := by
  unfold State.clearAllHolds; exact foldl_standing (fun s b => by split <;> simp) _ _

@[simp] theorem State.abortReel_standing (r : Slot) : (s.abortReel r).standing = s.standing := by
  unfold State.abortReel
  dsimp only
  rw [State.closeIfEmpty_standing, State.modReel_standing, foldl_standing (fun s b => s.abortBuffer_standing r b),
    State.clearAllHolds_standing]
  split <;> simp

/-! ### Intake -/

@[simp] theorem State.headCheckFailure_standing (h : Head) (d : Nat) :
    (s.headCheckFailure h d).standing = s.standing := by
  simp [State.headCheckFailure]

@[simp] theorem State.headSink_standing (h : Head) : (s.headSink h).standing = s.standing := by simp [State.headSink]

@[simp] theorem State.storeCheckFailure_standing : (s.storeCheckFailure).standing = s.standing := rfl

@[simp] theorem State.storeSink_standing : (s.storeSink).standing = s.standing := rfl

@[simp] theorem State.sinkFrame_standing (h : Head) : (s.sinkFrame h).standing = s.standing := by
  simp [State.sinkFrame]

@[simp] theorem State.bufferFrame_standing (h : Head) (r : Slot) (b : Buf) (f : FrameHeadFields) :
    (s.bufferFrame h r b f).standing = s.standing := by
  unfold State.bufferFrame; dsimp only; split <;> [(split <;> simp); simp]

@[simp] theorem State.openedFrame_standing (h : Head) (r : Slot) (f : FrameHeadFields) :
    (s.openedFrame h r f).standing = s.standing := by
  unfold State.openedFrame; dsimp only; split <;> [simp; (split <;> [simp; (split <;> simp)])]

@[simp] theorem State.openingTests_standing (h : Head) (f : FrameHeadFields) :
    (s.openingTests h f).standing = s.standing := by
  unfold State.openingTests; split <;> [simp; (split <;> [simp; (split <;> simp)])]

@[simp] theorem State.takeFrameHead_standing (h : Head) (f : FrameHeadFields) :
    (s.takeFrameHead h f).standing = s.standing := by
  unfold State.takeFrameHead; dsimp only; split <;> simp

@[simp] theorem State.oversizeDiscard_standing (h : Head) (b : Buf) (d : FrameDesc) :
    (s.oversizeDiscard h b d).standing = s.standing := by
  simp [State.oversizeDiscard]

@[simp] theorem State.takeLine_standing (h : Head) (b : Buf) (d : FrameDesc) (x : Bool) (p : List Byte) :
    (s.takeLine h b d x p).standing = s.standing := by
  unfold State.takeLine
  dsimp only
  split
  · split <;> simp
  · split
    · split <;> simp
    · split
      · simp
      · split <;> simp

@[simp] theorem State.strayLine_standing (h : Head) (x : Bool) : (s.strayLine h x).standing = s.standing := by
  unfold State.strayLine; dsimp only; split <;> simp

@[simp] theorem State.takeFrameEnd_standing (h : Head) : (s.takeFrameEnd h).standing = s.standing := by
  unfold State.takeFrameEnd; split <;> simp

@[simp] theorem State.takeReelEnd_standing (h : Head) : (s.takeReelEnd h).standing = s.standing := by
  unfold State.takeReelEnd; dsimp only; split <;> simp

/-! ### Links, arrivals and events -/

@[simp] theorem State.emptyPort_standing (p : Port) : (s.emptyPort p).standing = s.standing := by
  simp [State.emptyPort]

@[simp] theorem State.loseHeadLink_standing (h : Head) : (s.loseHeadLink h).standing = s.standing := by
  unfold State.loseHeadLink
  dsimp only
  split
  · split <;> simp
  · simp

@[simp] theorem State.gainHeadLink_standing (h : Head) : (s.gainHeadLink h).standing = s.standing := by
  unfold State.gainHeadLink; dsimp only; split <;> simp

@[simp] theorem State.cutSend_standing : (s.cutSend).standing = s.standing := by
  unfold State.cutSend
  split
  · rfl
  · dsimp only
    split <;> rfl

@[simp] theorem State.loseStoreLink_standing : (s.loseStoreLink).standing = s.standing := by
  unfold State.loseStoreLink
  simp only [State.emptyPort_standing, State.raise_standing]
  exact (State.cutSend_standing _).trans rfl

@[simp] theorem State.resolve_standing (b : Buf) (x : Resolution) : (s.resolve b x).standing = s.standing := by
  simp [State.resolve]

@[simp] theorem State.takeStoreAck_standing (p : List Byte) : (s.takeStoreAck p).standing = s.standing := by
  unfold State.takeStoreAck; split <;> [rfl; simp]

@[simp] theorem State.addCredit_standing (l : Lane) (n : Nat) : (s.addCredit l n).standing = s.standing := by
  unfold State.addCredit; exact (State.arbiterSearch_standing _).trans rfl

@[simp] theorem State.onFrameHead_standing (h : Head) (c : RxCell) : (s.onFrameHead h c).standing = s.standing := by
  unfold State.onFrameHead; split <;> simp

@[simp] theorem State.onLine_standing (h : Head) (c : RxCell) : (s.onLine h c).standing = s.standing := by
  unfold State.onLine; split <;> simp

@[simp] theorem State.onFrameEnd_standing (h : Head) (c : RxCell) : (s.onFrameEnd h c).standing = s.standing := by
  unfold State.onFrameEnd; split <;> simp

@[simp] theorem State.onReelEnd_standing (h : Head) (c : RxCell) : (s.onReelEnd h c).standing = s.standing := by
  unfold State.onReelEnd; split <;> simp

@[simp] theorem State.onStoreAck_standing (c : RxCell) : (s.onStoreAck c).standing = s.standing := by
  unfold State.onStoreAck; split <;> simp

@[simp] theorem State.onCredit_standing (c : RxCell) : (s.onCredit c).standing = s.standing := by
  unfold State.onCredit; split <;> simp

@[simp] theorem State.onCheckFailure_standing (p : Port) : (s.onCheckFailure p).standing = s.standing := by
  unfold State.onCheckFailure; split <;> simp

@[simp] theorem State.onSunk_standing (p : Port) : (s.onSunk p).standing = s.standing := by
  unfold State.onSunk; split <;> simp

@[simp] theorem State.queueOrder_standing (p : Port) (o : Order) : (s.queueOrder p o).standing = s.standing := by
  unfold State.queueOrder; dsimp only; split <;> simp

@[simp] theorem State.onOrder_standing (p : Port) (c : RxCell) : (s.onOrder p c).standing = s.standing := by
  unfold State.onOrder; split <;> simp

@[simp] theorem State.onOtherKind_standing (p : Port) (k : Byte) (c : RxCell) :
    (s.onOtherKind p k c).standing = s.standing := by
  unfold State.onOtherKind; split <;> simp

@[simp] theorem State.onCell_standing (p : Port) (k : Byte) (c : RxCell) :
    (s.onCell p k c).standing = s.standing := by
  unfold State.onCell
  split
  · simp
  · split <;> (repeat' split) <;> simp

/-- The engine in a new state. -/
theorem State.setEngine_standing (e : Option RepairJob) :
    ({ s with repair := { s.repair with engine := e } } : State).standing = s.standing := rfl

@[simp] theorem State.ackExpiry_standing (b : Buf) : (s.ackExpiry b).standing = s.standing := by
  simp [State.ackExpiry]

@[simp] theorem State.writeRepair_standing (j : RepairJob) : (s.writeRepair j).standing = s.standing := by
  simp [State.writeRepair]

@[simp] theorem State.completeRepair_standing (j : RepairJob) : (s.completeRepair j).standing = s.standing := by
  unfold State.completeRepair
  dsimp only
  rw [State.engineTake_standing, State.setEngine_standing]
  split <;> simp

@[simp] theorem State.sendLine_standing (b : Buf) (k : Nat) : (s.sendLine b k).standing = s.standing := by
  simp only [State.sendLine, State.sendCell_standing]; rfl

@[simp] theorem State.completeSend_standing (b : Buf) : (s.completeSend b).standing = s.standing := by
  unfold State.completeSend; exact (State.arbiterSearch_standing _).trans rfl

@[simp] theorem State.sendMgmt_standing (p : Port) (c : MgmtCell) : (s.sendMgmt p c).standing = s.standing := by
  simp only [State.sendMgmt, State.sendCell_standing, State.modPort_standing]; rfl

@[simp] theorem State.sendNotice_standing (p : Port) (c : MgmtCell) : (s.sendNotice p c).standing = s.standing := by
  exact (State.sendMgmt_standing s p c)

/-! ### Orders -/

@[simp] theorem State.takeFromShelf_standing (i : RecordNo) : (s.takeFromShelf i).standing = s.standing := by
  unfold State.takeFromShelf; dsimp only; split <;> simp

@[simp] theorem State.mount_standing (a : MountArgs) (r : Slot) : (s.mount a r).standing = s.standing := by
  simp [State.mount]

@[simp] theorem State.resume_standing (r : Slot) : (s.resume r).standing = s.standing := by simp [State.resume]

@[simp] theorem State.createRecord_standing (i : RecordNo) (a : Account) (q : Option PositionNo) :
    (s.createRecord i a q).standing = s.standing := by
  unfold State.createRecord; dsimp only; split <;> simp

@[simp] theorem State.eraseRecord_standing (i : RecordNo) : (s.eraseRecord i).standing = s.standing := by
  unfold State.eraseRecord; split <;> [(dsimp only; split <;> simp); simp]

@[simp] theorem State.definePositions_standing (a : ShelfRange) (c : Option VaultClass) :
    (s.definePositions a c).standing = s.standing :=
  rfl

@[simp] theorem State.setLock_standing (q : PositionNo) (x : Bool) : (s.setLock q x).standing = s.standing := by
  simp [State.setLock]

@[simp] theorem State.admitWaiting_standing : (s.admitWaiting).standing = s.standing := by
  unfold State.admitWaiting; split <;> [rfl; exact (State.formTicket_standing _ _).trans rfl]

@[simp] theorem State.confirm_standing (t : Ticket) : (s.confirm t).standing = s.standing := by
  unfold State.confirm
  dsimp only
  rw [State.admitWaiting_standing]
  split <;> rfl

@[simp] theorem State.refusePosition_standing (t : Ticket) (q : PositionNo) (x : Bool) :
    (s.refusePosition t q x).standing = s.standing := by
  unfold State.refusePosition; dsimp only; split <;> simp

end Sys2Proof.Machine
end

