-- ==== Sys2Proof/Laws/State.lean ====
section
/-! SUPPORT. The small lemmas of State's updates: for each update, one lemma for each field, true by unfolding. -/

namespace Sys2Proof.Machine

variable (s : State)

/-! ### modReel -/

@[simp] theorem State.modReel_reels (r : Slot) (f : Reel → Reel) : (s.modReel r f).reels = modEntry s.reels r f := rfl
@[simp] theorem State.modReel_intake (r : Slot) (f : Reel → Reel) : (s.modReel r f).intake = s.intake := rfl
@[simp] theorem State.modReel_pool (r : Slot) (f : Reel → Reel) : (s.modReel r f).pool = s.pool := rfl
@[simp] theorem State.modReel_defect (r : Slot) (f : Reel → Reel) : (s.modReel r f).defect = s.defect := rfl
@[simp] theorem State.modReel_repair (r : Slot) (f : Reel → Reel) : (s.modReel r f).repair = s.repair := rfl
@[simp] theorem State.modReel_profiles (r : Slot) (f : Reel → Reel) : (s.modReel r f).profiles = s.profiles := rfl
@[simp] theorem State.modReel_delivery (r : Slot) (f : Reel → Reel) : (s.modReel r f).delivery = s.delivery := rfl
@[simp] theorem State.modReel_catalogue (r : Slot) (f : Reel → Reel) : (s.modReel r f).catalogue = s.catalogue := rfl
@[simp] theorem State.modReel_shelf (r : Slot) (f : Reel → Reel) : (s.modReel r f).shelf = s.shelf := rfl
@[simp] theorem State.modReel_notices (r : Slot) (f : Reel → Reel) : (s.modReel r f).notices = s.notices := rfl
@[simp] theorem State.modReel_links (r : Slot) (f : Reel → Reel) : (s.modReel r f).links = s.links := rfl
@[simp] theorem State.modReel_lastPort (r : Slot) (f : Reel → Reel) : (s.modReel r f).lastPort = s.lastPort := rfl
@[simp] theorem State.modReel_resetLow (r : Slot) (f : Reel → Reel) : (s.modReel r f).resetLow = s.resetLow := rfl
@[simp] theorem State.modReel_wire (r : Slot) (f : Reel → Reel) : (s.modReel r f).wire = s.wire := rfl
@[simp] theorem State.modReel_abandoned (r : Slot) (f : Reel → Reel) : (s.modReel r f).abandoned = s.abandoned := rfl
@[simp] theorem State.modReel_pending (r : Slot) (f : Reel → Reel) : (s.modReel r f).pending = s.pending := rfl

/-! ### countReel -/

@[simp] theorem State.countReel_reels (r : Slot) (f : ReelCounters → ReelCounters) :
    (s.countReel r f).reels =
      modEntry s.reels r fun x => { x with counters := f x.counters } := rfl
@[simp] theorem State.countReel_intake (r : Slot) (f : ReelCounters → ReelCounters) :
    (s.countReel r f).intake =
      s.intake := rfl
@[simp] theorem State.countReel_pool (r : Slot) (f : ReelCounters → ReelCounters) :
    (s.countReel r f).pool =
      s.pool := rfl
@[simp] theorem State.countReel_defect (r : Slot) (f : ReelCounters → ReelCounters) :
    (s.countReel r f).defect =
      s.defect := rfl
@[simp] theorem State.countReel_repair (r : Slot) (f : ReelCounters → ReelCounters) :
    (s.countReel r f).repair =
      s.repair := rfl
@[simp] theorem State.countReel_profiles (r : Slot) (f : ReelCounters → ReelCounters) :
    (s.countReel r f).profiles =
      s.profiles := rfl
@[simp] theorem State.countReel_delivery (r : Slot) (f : ReelCounters → ReelCounters) :
    (s.countReel r f).delivery =
      s.delivery := rfl
@[simp] theorem State.countReel_catalogue (r : Slot) (f : ReelCounters → ReelCounters) :
    (s.countReel r f).catalogue =
      s.catalogue := rfl
@[simp] theorem State.countReel_shelf (r : Slot) (f : ReelCounters → ReelCounters) :
    (s.countReel r f).shelf =
      s.shelf := rfl
@[simp] theorem State.countReel_notices (r : Slot) (f : ReelCounters → ReelCounters) :
    (s.countReel r f).notices =
      s.notices := rfl
@[simp] theorem State.countReel_links (r : Slot) (f : ReelCounters → ReelCounters) :
    (s.countReel r f).links =
      s.links := rfl
@[simp] theorem State.countReel_lastPort (r : Slot) (f : ReelCounters → ReelCounters) :
    (s.countReel r f).lastPort =
      s.lastPort := rfl
@[simp] theorem State.countReel_resetLow (r : Slot) (f : ReelCounters → ReelCounters) :
    (s.countReel r f).resetLow =
      s.resetLow := rfl
@[simp] theorem State.countReel_wire (r : Slot) (f : ReelCounters → ReelCounters) :
    (s.countReel r f).wire =
      s.wire := rfl
@[simp] theorem State.countReel_abandoned (r : Slot) (f : ReelCounters → ReelCounters) :
    (s.countReel r f).abandoned =
      s.abandoned := rfl
@[simp] theorem State.countReel_pending (r : Slot) (f : ReelCounters → ReelCounters) :
    (s.countReel r f).pending =
      s.pending := rfl

/-! ### modHead -/

@[simp] theorem State.modHead_reels (h : Head) (f : HeadIntake → HeadIntake) : (s.modHead h f).reels = s.reels := rfl
@[simp] theorem State.modHead_intake (h : Head) (f : HeadIntake → HeadIntake) :
    (s.modHead h f).intake =
      { s.intake with heads := modEntry s.intake.heads h f } := rfl
@[simp] theorem State.modHead_pool (h : Head) (f : HeadIntake → HeadIntake) : (s.modHead h f).pool = s.pool := rfl
@[simp] theorem State.modHead_defect (h : Head) (f : HeadIntake → HeadIntake) :
    (s.modHead h f).defect =
      s.defect := rfl
@[simp] theorem State.modHead_repair (h : Head) (f : HeadIntake → HeadIntake) :
    (s.modHead h f).repair =
      s.repair := rfl
@[simp] theorem State.modHead_profiles (h : Head) (f : HeadIntake → HeadIntake) :
    (s.modHead h f).profiles =
      s.profiles := rfl
@[simp] theorem State.modHead_delivery (h : Head) (f : HeadIntake → HeadIntake) :
    (s.modHead h f).delivery =
      s.delivery := rfl
@[simp] theorem State.modHead_catalogue (h : Head) (f : HeadIntake → HeadIntake) :
    (s.modHead h f).catalogue =
      s.catalogue := rfl
@[simp] theorem State.modHead_shelf (h : Head) (f : HeadIntake → HeadIntake) : (s.modHead h f).shelf = s.shelf := rfl
@[simp] theorem State.modHead_notices (h : Head) (f : HeadIntake → HeadIntake) :
    (s.modHead h f).notices =
      s.notices := rfl
@[simp] theorem State.modHead_links (h : Head) (f : HeadIntake → HeadIntake) : (s.modHead h f).links = s.links := rfl
@[simp] theorem State.modHead_lastPort (h : Head) (f : HeadIntake → HeadIntake) :
    (s.modHead h f).lastPort =
      s.lastPort := rfl
@[simp] theorem State.modHead_resetLow (h : Head) (f : HeadIntake → HeadIntake) :
    (s.modHead h f).resetLow =
      s.resetLow := rfl
@[simp] theorem State.modHead_wire (h : Head) (f : HeadIntake → HeadIntake) : (s.modHead h f).wire = s.wire := rfl
@[simp] theorem State.modHead_abandoned (h : Head) (f : HeadIntake → HeadIntake) :
    (s.modHead h f).abandoned =
      s.abandoned := rfl
@[simp] theorem State.modHead_pending (h : Head) (f : HeadIntake → HeadIntake) :
    (s.modHead h f).pending =
      s.pending := rfl

/-! ### modBuffer -/

@[simp] theorem State.modBuffer_reels (b : Buf) (f : Buffer → Buffer) : (s.modBuffer b f).reels = s.reels := rfl
@[simp] theorem State.modBuffer_intake (b : Buf) (f : Buffer → Buffer) : (s.modBuffer b f).intake = s.intake := rfl
@[simp] theorem State.modBuffer_pool (b : Buf) (f : Buffer → Buffer) :
    (s.modBuffer b f).pool =
      { s.pool with buffers := modEntry s.pool.buffers b f } := rfl
@[simp] theorem State.modBuffer_defect (b : Buf) (f : Buffer → Buffer) : (s.modBuffer b f).defect = s.defect := rfl
@[simp] theorem State.modBuffer_repair (b : Buf) (f : Buffer → Buffer) : (s.modBuffer b f).repair = s.repair := rfl
@[simp] theorem State.modBuffer_profiles (b : Buf) (f : Buffer → Buffer) :
    (s.modBuffer b f).profiles =
      s.profiles := rfl
@[simp] theorem State.modBuffer_delivery (b : Buf) (f : Buffer → Buffer) :
    (s.modBuffer b f).delivery =
      s.delivery := rfl
@[simp] theorem State.modBuffer_catalogue (b : Buf) (f : Buffer → Buffer) :
    (s.modBuffer b f).catalogue =
      s.catalogue := rfl
@[simp] theorem State.modBuffer_shelf (b : Buf) (f : Buffer → Buffer) : (s.modBuffer b f).shelf = s.shelf := rfl
@[simp] theorem State.modBuffer_notices (b : Buf) (f : Buffer → Buffer) : (s.modBuffer b f).notices = s.notices := rfl
@[simp] theorem State.modBuffer_links (b : Buf) (f : Buffer → Buffer) : (s.modBuffer b f).links = s.links := rfl
@[simp] theorem State.modBuffer_lastPort (b : Buf) (f : Buffer → Buffer) :
    (s.modBuffer b f).lastPort =
      s.lastPort := rfl
@[simp] theorem State.modBuffer_resetLow (b : Buf) (f : Buffer → Buffer) :
    (s.modBuffer b f).resetLow =
      s.resetLow := rfl
@[simp] theorem State.modBuffer_wire (b : Buf) (f : Buffer → Buffer) : (s.modBuffer b f).wire = s.wire := rfl
@[simp] theorem State.modBuffer_abandoned (b : Buf) (f : Buffer → Buffer) :
    (s.modBuffer b f).abandoned =
      s.abandoned := rfl
@[simp] theorem State.modBuffer_pending (b : Buf) (f : Buffer → Buffer) : (s.modBuffer b f).pending = s.pending := rfl

/-! ### modMemory -/

@[simp] theorem State.modMemory_reels (b : Buf) (f : Memory → Memory) : (s.modMemory b f).reels = s.reels := rfl
@[simp] theorem State.modMemory_intake (b : Buf) (f : Memory → Memory) : (s.modMemory b f).intake = s.intake := rfl
@[simp] theorem State.modMemory_pool (b : Buf) (f : Memory → Memory) :
    (s.modMemory b f).pool =
      { s.pool with dram := modEntry s.pool.dram b f } := rfl
@[simp] theorem State.modMemory_defect (b : Buf) (f : Memory → Memory) : (s.modMemory b f).defect = s.defect := rfl
@[simp] theorem State.modMemory_repair (b : Buf) (f : Memory → Memory) : (s.modMemory b f).repair = s.repair := rfl
@[simp] theorem State.modMemory_profiles (b : Buf) (f : Memory → Memory) :
    (s.modMemory b f).profiles =
      s.profiles := rfl
@[simp] theorem State.modMemory_delivery (b : Buf) (f : Memory → Memory) :
    (s.modMemory b f).delivery =
      s.delivery := rfl
@[simp] theorem State.modMemory_catalogue (b : Buf) (f : Memory → Memory) :
    (s.modMemory b f).catalogue =
      s.catalogue := rfl
@[simp] theorem State.modMemory_shelf (b : Buf) (f : Memory → Memory) : (s.modMemory b f).shelf = s.shelf := rfl
@[simp] theorem State.modMemory_notices (b : Buf) (f : Memory → Memory) : (s.modMemory b f).notices = s.notices := rfl
@[simp] theorem State.modMemory_links (b : Buf) (f : Memory → Memory) : (s.modMemory b f).links = s.links := rfl
@[simp] theorem State.modMemory_lastPort (b : Buf) (f : Memory → Memory) :
    (s.modMemory b f).lastPort =
      s.lastPort := rfl
@[simp] theorem State.modMemory_resetLow (b : Buf) (f : Memory → Memory) :
    (s.modMemory b f).resetLow =
      s.resetLow := rfl
@[simp] theorem State.modMemory_wire (b : Buf) (f : Memory → Memory) : (s.modMemory b f).wire = s.wire := rfl
@[simp] theorem State.modMemory_abandoned (b : Buf) (f : Memory → Memory) :
    (s.modMemory b f).abandoned =
      s.abandoned := rfl
@[simp] theorem State.modMemory_pending (b : Buf) (f : Memory → Memory) : (s.modMemory b f).pending = s.pending := rfl

/-! ### modRecord -/

@[simp] theorem State.modRecord_reels (i : RecordNo) (f : Record → Record) : (s.modRecord i f).reels = s.reels := rfl
@[simp] theorem State.modRecord_intake (i : RecordNo) (f : Record → Record) :
    (s.modRecord i f).intake =
      s.intake := rfl
@[simp] theorem State.modRecord_pool (i : RecordNo) (f : Record → Record) : (s.modRecord i f).pool = s.pool := rfl
@[simp] theorem State.modRecord_defect (i : RecordNo) (f : Record → Record) :
    (s.modRecord i f).defect =
      s.defect := rfl
@[simp] theorem State.modRecord_repair (i : RecordNo) (f : Record → Record) :
    (s.modRecord i f).repair =
      s.repair := rfl
@[simp] theorem State.modRecord_profiles (i : RecordNo) (f : Record → Record) :
    (s.modRecord i f).profiles =
      s.profiles := rfl
@[simp] theorem State.modRecord_delivery (i : RecordNo) (f : Record → Record) :
    (s.modRecord i f).delivery =
      s.delivery := rfl
@[simp] theorem State.modRecord_catalogue (i : RecordNo) (f : Record → Record) :
    (s.modRecord i f).catalogue =
      modEntry s.catalogue i f := rfl
@[simp] theorem State.modRecord_shelf (i : RecordNo) (f : Record → Record) : (s.modRecord i f).shelf = s.shelf := rfl
@[simp] theorem State.modRecord_notices (i : RecordNo) (f : Record → Record) :
    (s.modRecord i f).notices =
      s.notices := rfl
@[simp] theorem State.modRecord_links (i : RecordNo) (f : Record → Record) : (s.modRecord i f).links = s.links := rfl
@[simp] theorem State.modRecord_lastPort (i : RecordNo) (f : Record → Record) :
    (s.modRecord i f).lastPort =
      s.lastPort := rfl
@[simp] theorem State.modRecord_resetLow (i : RecordNo) (f : Record → Record) :
    (s.modRecord i f).resetLow =
      s.resetLow := rfl
@[simp] theorem State.modRecord_wire (i : RecordNo) (f : Record → Record) : (s.modRecord i f).wire = s.wire := rfl
@[simp] theorem State.modRecord_abandoned (i : RecordNo) (f : Record → Record) :
    (s.modRecord i f).abandoned =
      s.abandoned := rfl
@[simp] theorem State.modRecord_pending (i : RecordNo) (f : Record → Record) :
    (s.modRecord i f).pending =
      s.pending := rfl

/-! ### modPosition -/

@[simp] theorem State.modPosition_reels (q : PositionNo) (f : Position → Position) :
    (s.modPosition q f).reels =
      s.reels := rfl
@[simp] theorem State.modPosition_intake (q : PositionNo) (f : Position → Position) :
    (s.modPosition q f).intake =
      s.intake := rfl
@[simp] theorem State.modPosition_pool (q : PositionNo) (f : Position → Position) :
    (s.modPosition q f).pool =
      s.pool := rfl
@[simp] theorem State.modPosition_defect (q : PositionNo) (f : Position → Position) :
    (s.modPosition q f).defect =
      s.defect := rfl
@[simp] theorem State.modPosition_repair (q : PositionNo) (f : Position → Position) :
    (s.modPosition q f).repair =
      s.repair := rfl
@[simp] theorem State.modPosition_profiles (q : PositionNo) (f : Position → Position) :
    (s.modPosition q f).profiles =
      s.profiles := rfl
@[simp] theorem State.modPosition_delivery (q : PositionNo) (f : Position → Position) :
    (s.modPosition q f).delivery =
      s.delivery := rfl
@[simp] theorem State.modPosition_catalogue (q : PositionNo) (f : Position → Position) :
    (s.modPosition q f).catalogue =
      s.catalogue := rfl
@[simp] theorem State.modPosition_shelf (q : PositionNo) (f : Position → Position) :
    (s.modPosition q f).shelf =
      { s.shelf with positions := modEntry s.shelf.positions q f } := rfl
@[simp] theorem State.modPosition_notices (q : PositionNo) (f : Position → Position) :
    (s.modPosition q f).notices =
      s.notices := rfl
@[simp] theorem State.modPosition_links (q : PositionNo) (f : Position → Position) :
    (s.modPosition q f).links =
      s.links := rfl
@[simp] theorem State.modPosition_lastPort (q : PositionNo) (f : Position → Position) :
    (s.modPosition q f).lastPort =
      s.lastPort := rfl
@[simp] theorem State.modPosition_resetLow (q : PositionNo) (f : Position → Position) :
    (s.modPosition q f).resetLow =
      s.resetLow := rfl
@[simp] theorem State.modPosition_wire (q : PositionNo) (f : Position → Position) :
    (s.modPosition q f).wire =
      s.wire := rfl
@[simp] theorem State.modPosition_abandoned (q : PositionNo) (f : Position → Position) :
    (s.modPosition q f).abandoned =
      s.abandoned := rfl
@[simp] theorem State.modPosition_pending (q : PositionNo) (f : Position → Position) :
    (s.modPosition q f).pending =
      s.pending := rfl

/-! ### modPort -/

@[simp] theorem State.modPort_reels (p : Port) (f : PortState → PortState) : (s.modPort p f).reels = s.reels := rfl
@[simp] theorem State.modPort_intake (p : Port) (f : PortState → PortState) : (s.modPort p f).intake = s.intake := rfl
@[simp] theorem State.modPort_pool (p : Port) (f : PortState → PortState) : (s.modPort p f).pool = s.pool := rfl
@[simp] theorem State.modPort_defect (p : Port) (f : PortState → PortState) : (s.modPort p f).defect = s.defect := rfl
@[simp] theorem State.modPort_repair (p : Port) (f : PortState → PortState) : (s.modPort p f).repair = s.repair := rfl
@[simp] theorem State.modPort_profiles (p : Port) (f : PortState → PortState) :
    (s.modPort p f).profiles =
      s.profiles := rfl
@[simp] theorem State.modPort_delivery (p : Port) (f : PortState → PortState) :
    (s.modPort p f).delivery =
      s.delivery := rfl
@[simp] theorem State.modPort_catalogue (p : Port) (f : PortState → PortState) :
    (s.modPort p f).catalogue =
      s.catalogue := rfl
@[simp] theorem State.modPort_shelf (p : Port) (f : PortState → PortState) : (s.modPort p f).shelf = s.shelf := rfl
@[simp] theorem State.modPort_notices (p : Port) (f : PortState → PortState) :
    (s.modPort p f).notices =
      s.notices := rfl
@[simp] theorem State.modPort_links (p : Port) (f : PortState → PortState) :
    (s.modPort p f).links =
      { s.links with ports := modEntry s.links.ports p f } := rfl
@[simp] theorem State.modPort_lastPort (p : Port) (f : PortState → PortState) :
    (s.modPort p f).lastPort =
      s.lastPort := rfl
@[simp] theorem State.modPort_resetLow (p : Port) (f : PortState → PortState) :
    (s.modPort p f).resetLow =
      s.resetLow := rfl
@[simp] theorem State.modPort_wire (p : Port) (f : PortState → PortState) : (s.modPort p f).wire = s.wire := rfl
@[simp] theorem State.modPort_abandoned (p : Port) (f : PortState → PortState) :
    (s.modPort p f).abandoned =
      s.abandoned := rfl
@[simp] theorem State.modPort_pending (p : Port) (f : PortState → PortState) :
    (s.modPort p f).pending =
      s.pending := rfl

/-! ### modQueue -/

@[simp] theorem State.modQueue_reels (l : Lane) (f : List Buf → List Buf) : (s.modQueue l f).reels = s.reels := rfl
@[simp] theorem State.modQueue_intake (l : Lane) (f : List Buf → List Buf) : (s.modQueue l f).intake = s.intake := rfl
@[simp] theorem State.modQueue_pool (l : Lane) (f : List Buf → List Buf) : (s.modQueue l f).pool = s.pool := rfl
@[simp] theorem State.modQueue_defect (l : Lane) (f : List Buf → List Buf) : (s.modQueue l f).defect = s.defect := rfl
@[simp] theorem State.modQueue_repair (l : Lane) (f : List Buf → List Buf) : (s.modQueue l f).repair = s.repair := rfl
@[simp] theorem State.modQueue_profiles (l : Lane) (f : List Buf → List Buf) :
    (s.modQueue l f).profiles =
      s.profiles := rfl
@[simp] theorem State.modQueue_delivery (l : Lane) (f : List Buf → List Buf) :
    (s.modQueue l f).delivery =
      { s.delivery with queues := modEntry s.delivery.queues l f } := rfl
@[simp] theorem State.modQueue_catalogue (l : Lane) (f : List Buf → List Buf) :
    (s.modQueue l f).catalogue =
      s.catalogue := rfl
@[simp] theorem State.modQueue_shelf (l : Lane) (f : List Buf → List Buf) : (s.modQueue l f).shelf = s.shelf := rfl
@[simp] theorem State.modQueue_notices (l : Lane) (f : List Buf → List Buf) :
    (s.modQueue l f).notices =
      s.notices := rfl
@[simp] theorem State.modQueue_links (l : Lane) (f : List Buf → List Buf) : (s.modQueue l f).links = s.links := rfl
@[simp] theorem State.modQueue_lastPort (l : Lane) (f : List Buf → List Buf) :
    (s.modQueue l f).lastPort =
      s.lastPort := rfl
@[simp] theorem State.modQueue_resetLow (l : Lane) (f : List Buf → List Buf) :
    (s.modQueue l f).resetLow =
      s.resetLow := rfl
@[simp] theorem State.modQueue_wire (l : Lane) (f : List Buf → List Buf) : (s.modQueue l f).wire = s.wire := rfl
@[simp] theorem State.modQueue_abandoned (l : Lane) (f : List Buf → List Buf) :
    (s.modQueue l f).abandoned =
      s.abandoned := rfl
@[simp] theorem State.modQueue_pending (l : Lane) (f : List Buf → List Buf) :
    (s.modQueue l f).pending =
      s.pending := rfl

/-! ### modTicket -/

@[simp] theorem State.modTicket_reels (n : BitVec 16) (f : Ticket → Ticket) : (s.modTicket n f).reels = s.reels := rfl
@[simp] theorem State.modTicket_intake (n : BitVec 16) (f : Ticket → Ticket) :
    (s.modTicket n f).intake =
      s.intake := rfl
@[simp] theorem State.modTicket_pool (n : BitVec 16) (f : Ticket → Ticket) : (s.modTicket n f).pool = s.pool := rfl
@[simp] theorem State.modTicket_defect (n : BitVec 16) (f : Ticket → Ticket) :
    (s.modTicket n f).defect =
      s.defect := rfl
@[simp] theorem State.modTicket_repair (n : BitVec 16) (f : Ticket → Ticket) :
    (s.modTicket n f).repair =
      s.repair := rfl
@[simp] theorem State.modTicket_profiles (n : BitVec 16) (f : Ticket → Ticket) :
    (s.modTicket n f).profiles =
      s.profiles := rfl
@[simp] theorem State.modTicket_delivery (n : BitVec 16) (f : Ticket → Ticket) :
    (s.modTicket n f).delivery =
      s.delivery := rfl
@[simp] theorem State.modTicket_catalogue (n : BitVec 16) (f : Ticket → Ticket) :
    (s.modTicket n f).catalogue =
      s.catalogue := rfl
@[simp] theorem State.modTicket_shelf (n : BitVec 16) (f : Ticket → Ticket) :
    (s.modTicket n f).shelf =
      { s.shelf with tickets := s.shelf.tickets.map fun t => if t.number = n then f t else t } := rfl
@[simp] theorem State.modTicket_notices (n : BitVec 16) (f : Ticket → Ticket) :
    (s.modTicket n f).notices =
      s.notices := rfl
@[simp] theorem State.modTicket_links (n : BitVec 16) (f : Ticket → Ticket) : (s.modTicket n f).links = s.links := rfl
@[simp] theorem State.modTicket_lastPort (n : BitVec 16) (f : Ticket → Ticket) :
    (s.modTicket n f).lastPort =
      s.lastPort := rfl
@[simp] theorem State.modTicket_resetLow (n : BitVec 16) (f : Ticket → Ticket) :
    (s.modTicket n f).resetLow =
      s.resetLow := rfl
@[simp] theorem State.modTicket_wire (n : BitVec 16) (f : Ticket → Ticket) : (s.modTicket n f).wire = s.wire := rfl
@[simp] theorem State.modTicket_abandoned (n : BitVec 16) (f : Ticket → Ticket) :
    (s.modTicket n f).abandoned =
      s.abandoned := rfl
@[simp] theorem State.modTicket_pending (n : BitVec 16) (f : Ticket → Ticket) :
    (s.modTicket n f).pending =
      s.pending := rfl

/-! ### raise -/

@[simp] theorem State.raise_reels (k : NoticeKind) (i : Nat) (c : Option RecordNo) (d : Nat) :
    (s.raise k i c d).reels =
      s.reels := rfl
@[simp] theorem State.raise_intake (k : NoticeKind) (i : Nat) (c : Option RecordNo) (d : Nat) :
    (s.raise k i c d).intake =
      s.intake := rfl
@[simp] theorem State.raise_pool (k : NoticeKind) (i : Nat) (c : Option RecordNo) (d : Nat) :
    (s.raise k i c d).pool =
      s.pool := rfl
@[simp] theorem State.raise_defect (k : NoticeKind) (i : Nat) (c : Option RecordNo) (d : Nat) :
    (s.raise k i c d).defect =
      s.defect := rfl
@[simp] theorem State.raise_repair (k : NoticeKind) (i : Nat) (c : Option RecordNo) (d : Nat) :
    (s.raise k i c d).repair =
      s.repair := rfl
@[simp] theorem State.raise_profiles (k : NoticeKind) (i : Nat) (c : Option RecordNo) (d : Nat) :
    (s.raise k i c d).profiles =
      s.profiles := rfl
@[simp] theorem State.raise_delivery (k : NoticeKind) (i : Nat) (c : Option RecordNo) (d : Nat) :
    (s.raise k i c d).delivery =
      s.delivery := rfl
@[simp] theorem State.raise_catalogue (k : NoticeKind) (i : Nat) (c : Option RecordNo) (d : Nat) :
    (s.raise k i c d).catalogue =
      s.catalogue := rfl
@[simp] theorem State.raise_shelf (k : NoticeKind) (i : Nat) (c : Option RecordNo) (d : Nat) :
    (s.raise k i c d).shelf =
      s.shelf := rfl
@[simp] theorem State.raise_notices (k : NoticeKind) (i : Nat) (c : Option RecordNo) (d : Nat) :
    (s.raise k i c d).notices =
      { s.notices with waiting := placeNotice ⟨k, i, c, d, 0⟩ (fun m => { m with record := c, detail := d, count := min 255 (m.count + 1) }) s.notices.waiting } := rfl
@[simp] theorem State.raise_links (k : NoticeKind) (i : Nat) (c : Option RecordNo) (d : Nat) :
    (s.raise k i c d).links =
      s.links := rfl
@[simp] theorem State.raise_lastPort (k : NoticeKind) (i : Nat) (c : Option RecordNo) (d : Nat) :
    (s.raise k i c d).lastPort =
      s.lastPort := rfl
@[simp] theorem State.raise_resetLow (k : NoticeKind) (i : Nat) (c : Option RecordNo) (d : Nat) :
    (s.raise k i c d).resetLow =
      s.resetLow := rfl
@[simp] theorem State.raise_wire (k : NoticeKind) (i : Nat) (c : Option RecordNo) (d : Nat) :
    (s.raise k i c d).wire =
      s.wire := rfl
@[simp] theorem State.raise_abandoned (k : NoticeKind) (i : Nat) (c : Option RecordNo) (d : Nat) :
    (s.raise k i c d).abandoned =
      s.abandoned := rfl
@[simp] theorem State.raise_pending (k : NoticeKind) (i : Nat) (c : Option RecordNo) (d : Nat) :
    (s.raise k i c d).pending =
      s.pending := rfl

/-! ### sendCell -/

@[simp] theorem State.sendCell_reels (p : Port) (k : Byte) (x : List Byte) : (s.sendCell p k x).reels = s.reels := rfl
@[simp] theorem State.sendCell_intake (p : Port) (k : Byte) (x : List Byte) :
    (s.sendCell p k x).intake =
      s.intake := rfl
@[simp] theorem State.sendCell_pool (p : Port) (k : Byte) (x : List Byte) : (s.sendCell p k x).pool = s.pool := rfl
@[simp] theorem State.sendCell_defect (p : Port) (k : Byte) (x : List Byte) :
    (s.sendCell p k x).defect =
      s.defect := rfl
@[simp] theorem State.sendCell_repair (p : Port) (k : Byte) (x : List Byte) :
    (s.sendCell p k x).repair =
      s.repair := rfl
@[simp] theorem State.sendCell_profiles (p : Port) (k : Byte) (x : List Byte) :
    (s.sendCell p k x).profiles =
      s.profiles := rfl
@[simp] theorem State.sendCell_delivery (p : Port) (k : Byte) (x : List Byte) :
    (s.sendCell p k x).delivery =
      s.delivery := rfl
@[simp] theorem State.sendCell_catalogue (p : Port) (k : Byte) (x : List Byte) :
    (s.sendCell p k x).catalogue =
      s.catalogue := rfl
@[simp] theorem State.sendCell_shelf (p : Port) (k : Byte) (x : List Byte) : (s.sendCell p k x).shelf = s.shelf := rfl
@[simp] theorem State.sendCell_notices (p : Port) (k : Byte) (x : List Byte) :
    (s.sendCell p k x).notices =
      s.notices := rfl
@[simp] theorem State.sendCell_links (p : Port) (k : Byte) (x : List Byte) :
    (s.sendCell p k x).links =
      { s.links with ports := modEntry s.links.ports p fun q => { q with seqOut := q.seqOut + 1 } } := rfl
@[simp] theorem State.sendCell_lastPort (p : Port) (k : Byte) (x : List Byte) :
    (s.sendCell p k x).lastPort =
      s.lastPort := rfl
@[simp] theorem State.sendCell_resetLow (p : Port) (k : Byte) (x : List Byte) :
    (s.sendCell p k x).resetLow =
      s.resetLow := rfl
@[simp] theorem State.sendCell_wire (p : Port) (k : Byte) (x : List Byte) :
    (s.sendCell p k x).wire =
      s.wire ++ [⟨p, cellBytes k s.links.ports[p].seqOut x⟩] := rfl
@[simp] theorem State.sendCell_abandoned (p : Port) (k : Byte) (x : List Byte) :
    (s.sendCell p k x).abandoned =
      s.abandoned := rfl
@[simp] theorem State.sendCell_pending (p : Port) (k : Byte) (x : List Byte) :
    (s.sendCell p k x).pending =
      s.pending := rfl

/-! ### popOrder -/

@[simp] theorem State.popOrder_reels (p : Port) : (s.popOrder p).reels = s.reels := rfl
@[simp] theorem State.popOrder_intake (p : Port) : (s.popOrder p).intake = s.intake := rfl
@[simp] theorem State.popOrder_pool (p : Port) : (s.popOrder p).pool = s.pool := rfl
@[simp] theorem State.popOrder_defect (p : Port) : (s.popOrder p).defect = s.defect := rfl
@[simp] theorem State.popOrder_repair (p : Port) : (s.popOrder p).repair = s.repair := rfl
@[simp] theorem State.popOrder_profiles (p : Port) : (s.popOrder p).profiles = s.profiles := rfl
@[simp] theorem State.popOrder_delivery (p : Port) : (s.popOrder p).delivery = s.delivery := rfl
@[simp] theorem State.popOrder_catalogue (p : Port) : (s.popOrder p).catalogue = s.catalogue := rfl
@[simp] theorem State.popOrder_shelf (p : Port) : (s.popOrder p).shelf = s.shelf := rfl
@[simp] theorem State.popOrder_notices (p : Port) : (s.popOrder p).notices = s.notices := rfl
@[simp] theorem State.popOrder_links (p : Port) :
    (s.popOrder p).links =
      { s.links with ports := modEntry s.links.ports p fun q => { q with orders := q.orders.drop 1 } } := rfl
@[simp] theorem State.popOrder_lastPort (p : Port) : (s.popOrder p).lastPort = p := rfl
@[simp] theorem State.popOrder_resetLow (p : Port) : (s.popOrder p).resetLow = s.resetLow := rfl
@[simp] theorem State.popOrder_wire (p : Port) : (s.popOrder p).wire = s.wire := rfl
@[simp] theorem State.popOrder_abandoned (p : Port) : (s.popOrder p).abandoned = s.abandoned := rfl
@[simp] theorem State.popOrder_pending (p : Port) : (s.popOrder p).pending = s.pending := rfl

end Sys2Proof.Machine
end

