-- ==== Sys2Proof/Tests/Slice0.lean ====
section
/-! SUPPORT. Tests. Each expected value comes from the manual's layouts, its worked cases, or a hand calculation from a rule.
The theorems named `witness_…` show that the hypotheses of a statement of Certificates/Slice0/Obligations.lean are met
together by a state and operands written out here. -/

namespace Sys2Proof.Tests

open Sys2Proof Sys2Proof.Machine

/-! ### Well-formed commands (WellFormed.lean) -/

theorem test_otherKind_handled_on_head_is_ill_formed :
    (Instr.otherKindCell 0 0x30 ⟨0, [], 0⟩).wellFormed = false ∧
    (Instr.otherKindCell 0 0x28 ⟨0, [], 0⟩).wellFormed = true := by decide

theorem test_otherKind_handled_on_store_is_ill_formed :
    (Instr.otherKindCell 4 0x29 ⟨0, [], 0⟩).wellFormed = false ∧
    (Instr.otherKindCell 4 0x01 ⟨0, [], 0⟩).wellFormed = true := by decide

theorem test_payload_beyond_length_field_is_ill_formed (c : RxCell) (h : c.payload.length = 2 ^ 32) (d : Head) :
    (Instr.line d c).wellFormed = false := by
  simp [Instr.wellFormed, RxCell.wellFormed, h]

/-! ### Cells (R175, section 11.7) -/

/-- R175 gives the check value over the bytes 0x31 to 0x39. -/
theorem test_checkValue_of_digits :
    checkValue [0x31, 0x32, 0x33, 0x34, 0x35, 0x36, 0x37, 0x38, 0x39] = 0xCBF43926 := by decide +kernel

/-- The kind codes of section 11.7. -/
theorem test_kind_codes :
    [kindFrameHead, kindLine, kindFrameEnd, kindReelEnd, kindHalt, kindGo, kindPaceHold, kindPaceGo, kindFrameOut,
      kindOutLine, kindStoreAck, kindCredit, kindOrder, kindReply, kindNotice] =
    [0x01, 0x02, 0x03, 0x04, 0x10, 0x11, 0x12, 0x13, 0x20, 0x21, 0x28, 0x29, 0x30, 0x31, 0x32] := by decide

/-- A FRAME-HEAD payload: frame 0x030201, 0x0504 lines, width 0x0706, two edges 0x0908 and 0x0B0A. -/
theorem test_frameHead_layout :
    readFrameHead [1, 2, 3, 4, 5, 6, 7, 2, 8, 9, 10, 11] = ⟨0x030201, 0x0504, 0x0706, [0x0908, 0x0B0A]⟩ ∧
    fitsLayout 0x01 [1, 2, 3, 4, 5, 6, 7, 2, 8, 9, 10, 11] = true ∧
    fitsLayout 0x01 [1, 2, 3, 4, 5, 6, 7, 2, 8, 9, 10] = false := by decide

/-- Of five edges the first four are used (R38). -/
theorem test_frameHead_fifth_edge_is_ignored :
    (readFrameHead [0, 0, 0, 1, 0, 1, 0, 5, 1, 0, 2, 0, 3, 0, 4, 0, 5, 0]).edges = [1, 2, 3, 4] := by decide

/-- A LINE payload: line index 0x0201, one sample of R 0x0605, G 0x0807, B 0x0A09 and IR 0x0C0B. -/
theorem test_line_layout :
    fieldAt [1, 2, 1, 0, 5, 6, 7, 8, 9, 10, 11, 12] 0 2 = 0x0201 ∧
    readSamples [5, 6, 7, 8, 9, 10, 11, 12] = [⟨0x0605, 0x0807, 0x0A09, 0x0C0B⟩] ∧
    fitsLayout 0x02 [1, 2, 1, 0, 5, 6, 7, 8, 9, 10, 11, 12] = true ∧ fitsLayout 0x02 [1, 2, 2, 0, 5, 6, 7, 8, 9, 10, 11, 12] = false := by
  decide

/-- An ORDER payload: tag 0x0201, code 3, one argument word 0x07060504. -/
theorem test_order_layout :
    readOrder [1, 2, 3, 1, 4, 5, 6, 7] = ⟨0x0201, 3, [0x07060504]⟩ ∧ fitsLayout 0x30 [1, 2, 3, 1, 4, 5, 6, 7] = true ∧
    fitsLayout 0x30 [1, 2, 3, 2, 4, 5, 6, 7] = false := by decide

/-- A REPLY payload: tag 0x0201, code 6, WRONG_STATE, two result words. -/
theorem test_reply_layout :
    replyPayload 0x0201 6 .wrongState [0x07060504, 9] = [1, 2, 6, 4, 2, 0, 4, 5, 6, 7, 9, 0, 0, 0] := by decide

/-- A NOTICE payload: STORE_TIMEOUT is code 7; POOL_LOW, code 11, has no instance and no catalogue index. -/
theorem test_notice_layout :
    noticePayload ⟨.storeTimeout, 5, some 0x102, 0x0A0B0C, 3⟩ 2 = [7, 2, 5, 3, 2, 1, 0x0C, 0x0B, 0x0A, 0] ∧
    noticePayload ⟨.poolLow, 0, none, 3, 255⟩ 1 = [11, 1, 0xFF, 255, 0xFF, 0xFF, 3, 0, 0, 0] := by decide

/-- A FRAME-OUT payload, field by field. -/
theorem test_frameOut_layout :
    frameOutPayload 2
      { record := 0x102, frame := 0x030201, lines := 0x0504, width := 0x0706, offset := -2, grade := ⟨7, -32, 31, -1⟩
        heavy := true, defective := 0x0D0C0B0A, repaired := 1, unrepaired := 2 } .d12 =
    [2, 2, 1, 1, 2, 3, 4, 5, 6, 7, 0xFE, 7, 0xE0, 0x1F, 0xFF, 12, 1, 0x0A, 0x0B, 0x0C, 0x0D, 1, 0, 0, 0, 2, 0, 0, 0] := by
  decide

/-- An OUT-LINE payload. -/
theorem test_outLine_layout : outLinePayload 0x0201 [⟨0x0403, 5, 6⟩] = [1, 2, 1, 0, 3, 4, 5, 0, 6, 0] := by decide

/-- A whole cell: a HALT of sequence number 9 has no payload and closes with its check, here the CRC-32 of its six bytes,
worked outside the model. -/
theorem test_cell_envelope : cellBytes 0x10 9 [] = [0x10, 9, 0, 0, 0, 0, 0x49, 0xC1, 0x04, 0xBF] := by
  decide +kernel

/-! ### Registration and shrink (section 2.11) -/

/-- The gauge entry of section 2.11. -/
def gauge211 : Gauge := ⟨12288, 1008, 32⟩

theorem test_offsets_of_section_2_11 :
    [[1000, 13200, 25400, 37600], [990, 13190], [40, 12300], [1000, 15000, 29000], [5000, 4000], [1500], []].map
      (frameOffset gauge211 0) = [0, -1, -32, 0, 32, 31, 0] := by decide

theorem test_estimates_of_section_2_11 :
    [[1000, 13200, 25400, 37600], [990, 13190], [40, 12300], [1000, 15000, 29000], [5000, 4000], [1500], []].map
      (fun e => updateEstimate (some 63) (measuredShrink gauge211 e)) =
      [some 64, some 64, some 58, some 63, some 63, some 63, some 63] := by decide

theorem test_causes_of_section_2_11 :
    [[1000, 13200, 25400, 37600], [990, 13190], [40, 12300], [1000, 15000, 29000], [5000, 4000], [1500], []].map
      (perfCauses gauge211) =
    [[], [], [.offsetClamped], [.shrinkOutOfRange], [.offsetClamped, .edgesOutOfOrder], [.tooFewEdges], [.noEdges]] := by
  decide

theorem test_shrink_of_fourth_row : measuredShrink gauge211 [1000, 15000, 29000] = some (-1393) := by decide

/-! ### Damage (section 4.8) -/

/-- A line of 20 samples whose IR value is below 12000 exactly at the places given. -/
def lineWith (places : List Nat) : List Sample :=
  (List.range 20).map fun j => if j ∈ places then ⟨0, 0, 0, 11999⟩ else ⟨0, 0, 0, 12000⟩

theorem test_runs_of_section_4_8 :
    lineRuns 12000 0 (lineWith [3, 4, 5, 19]) = [⟨0, 3, 3⟩, ⟨0, 19, 1⟩] ∧ lineRuns 12000 2 (lineWith []) = [] ∧
    lineRuns 12000 1 (lineWith [0, 1, 7, 8, 9, 10]) = [⟨1, 0, 2⟩, ⟨1, 7, 4⟩] := by decide +kernel

theorem test_heavy_decision_of_section_4_8 :
    [(20, 64), (500, 64), (499, 64), (500, 1)].map
      (fun l => heavyDecision ⟨l.1, l.2⟩ { lines := 5, width := 20, defective := 50, badLines := 2 }) =
      [true, false, true, true] := by decide

/-! ### Repair (section 5.7) -/

theorem test_spatial_repair_of_line_1800 :
    [1, 2, 3, 4].map (fun k => spatialValue 64 4 k (some ⟨10000, 9000, 500, 0⟩) (some ⟨10500, 8702, 503, 0⟩)) =
    [some ⟨10100, 8940, 500, 0⟩, some ⟨10200, 8880, 501, 0⟩, some ⟨10300, 8821, 501, 0⟩, some ⟨10400, 8761, 502, 0⟩] := by
  decide

theorem test_spatial_replication_of_line_1801 :
    spatialValue 64 70 35 (some ⟨1, 1, 1, 0⟩) (some ⟨2, 2, 2, 0⟩) = some ⟨1, 1, 1, 0⟩ ∧
    spatialValue 64 70 36 (some ⟨1, 1, 1, 0⟩) (some ⟨2, 2, 2, 0⟩) = some ⟨2, 2, 2, 0⟩ := by decide

/-! ### Grading (sections 7.5 and 7.6) -/

/-- The power-on curve with two neighbouring points replaced. -/
def curveWith (i : Nat) (lo hi : Channel) : Vector Channel 257 :=
  ⟨(List.range 257).map (fun k => if k = i then lo else if k = i + 1 then hi else 0) |>.toArray, by simp⟩

theorem test_stages_of_section_7_5 :
    blackStage 30000 4096 2 = 25776 ∧ gainStage 25776 5120 = 32220 ∧
    curveStage 32220 (curveWith 125 40000 40400) = 40344 := by decide +kernel

theorem test_dither_of_section_7_5 :
    [(3, 5), (0, 0), (12, 10), (7, 8)].map (fun x => ditherStage 40344 .d10 true (tileRank x.1 x.2)) =
      [630, 631, 631, 630] ∧ ditherStage 40344 .d12 true (tileRank 3 5) = 2522 ∧ ditherStage 40344 .d16 true 0 = 40344 := by
  decide

theorem test_limits_of_section_7_6 :
    gainStage 65535 0 = 0 ∧ ditherStage 1000 .d10 true 40 = 15 ∧ gainStage 60000 8192 = 65535 ∧
    ditherStage 65500 .d10 true 0 = 1023 ∧ ditherStage 65535 .d12 true 0 = 4095 ∧ blackStage 5000 100 (-32) = 5000 ∧
    blackStage 65535 65000 31 = 0 := by decide

theorem test_curves_of_section_7_6 :
    curveStage 65535 (curveWith 255 60000 62000) = 61992 ∧ curveStage 46180 (curveWith 180 30000 29000) = 29609 ∧
    curveStage 46335 (curveWith 180 30000 29000) = 29004 := by decide +kernel

/-- A frame of one line whose offset moves it out of the frame is sent as pad lines (section 7.7). -/
theorem test_pad_line : outputLine { lines := 1, width := 2, offset := -32 } [] powerOnProfile 0 = [⟨0, 0, 0⟩, ⟨0, 0, 0⟩] := by
  decide +kernel

/-! ### Lanes, scores and classes (sections 8.2, 9.8 and 9.9) -/

theorem test_lane_index : laneIndex 1002 2 = 26 ∧ laneIndex 57 1 = 1 := by decide

/-- A closed reel's counters and estimate. -/
def scored (f heavy perf : BitVec 32) (scanned defective : BitVec 64) (estimate : Option Int) : Reel :=
  { shrinkEstimate := estimate
    counters := { framesAssembled := f, heavyFrames := heavy, perfFaultFrames := perf, samplesScanned := scanned
                  defectiveSamples := defective } }

theorem test_score_of_section_9_8 :
    conditionScore (scored 2400 36 60 30198988800 151000000 (some 71)) { vinegar := 1, priorScore := 450 } = 282 ∧
    damagePpm (scored 2400 36 60 30198988800 151000000 (some 71)).counters = 5000 := by decide

theorem test_scores_of_section_9_9 :
    conditionScore (scored 1000 400 50 1000000000 45210000 (some 260)) { vinegar := 1 } = 1000 ∧
    conditionScore (scored 1000 400 50 1000000000 45210000 (some 260)) { vinegar := 3 } = 1000 ∧
    conditionScore (scored 500 0 0 500000000 500000 (some (-40))) { vinegar := 3 } = 160 ∧
    conditionScore (scored 0 0 0 0 0 none) { priorScore := 350 } = 350 := by decide

theorem test_classes_of_section_9_9 :
    [chooseClass .acetate 1 1000, chooseClass .acetate 3 1000, chooseClass .polyester 3 160, chooseClass .nitrate 0 350] =
      [.classC, .classD, .classA, .classD] ∧
    [0, 399, 400, 699, 700, 1000].map (chooseClass .polyester 0) =
      [.classA, .classA, .classB, .classB, .classC, .classC] := by decide

/-! ### Helpers of the tests on states -/

/-- The part with its five links UP. -/
def live : State := { State.reset with links := { ports := Vector.replicate 5 { link := .up } } }

/-- A state in which the order unit's next order is one of a code with argument words, on port S. -/
def onS (code : Byte) (args : List Word) (s : State) : State :=
  { s with
    links := { s.links with ports := s.links.ports.set 4 { link := .up, orders := [⟨7, code, args⟩] } }
    lastPort := 3 }

/-- The order that `onS` puts on port S is the next one. -/
theorem takes_onS (code : Byte) (args : List Word) (s : State) :
    (onS code args s).Takes portS ⟨7, code, args⟩ code.toNat args := by
  refine ⟨?_, rfl, rfl⟩
  simp [State.nextOrder, onS, portsAfter, State.portEligible, State.isUp, Config.maxTransmit]

/-- A state with one reel record replaced. -/
def withReel (r : Slot) (x : Reel) (s : State) : State := { s with reels := s.reels.set r x }

/-- A state with one buffer record replaced. -/
def withBuffer (b : Buf) (x : Buffer) (s : State) : State :=
  { s with pool := { s.pool with buffers := s.pool.buffers.set b x } }

/-- A state with the assembly of one head replaced. -/
def withAssembly (h : Head) (a : Assembly) (s : State) : State :=
  { s with intake := { s.intake with heads := s.intake.heads.set h { s.intake.heads[h] with assembly := a } } }

/-- A state with one catalogue record replaced. -/
def withRecord (i : RecordNo) (x : Record) (s : State) : State := { s with catalogue := s.catalogue.set i x }

/-- A state with one shelf position replaced. -/
def withPosition (q : PositionNo) (x : Position) (s : State) : State :=
  { s with shelf := { s.shelf with positions := s.shelf.positions.set q x } }

/-- A state with the ticket queue replaced. -/
def withTickets (l : List Ticket) (s : State) : State := { s with shelf := { s.shelf with tickets := l } }

/-- The part with every buffer in one state. -/
def allBuffers (x : BufferState) (s : State) : State :=
  { s with pool := { s.pool with buffers := Vector.replicate 32 { state := x } } }

/-- Whether a command leads to a next state of which a test holds. -/
def leadsTo (c : Instr) (s : State) (p : State → Bool) : Bool :=
  match exec c s with
  | .next t => p t
  | .fault _ | .refused _ => false

/-- A head that is not ASSEMBLING. -/
theorem not_assembling {a : Assembly} (h : a = .idle ∨ a = .sinking) (b : Buf) (d : FrameDesc) : a ≠ .assembling b d := by
  rcases h with rfl | rfl <;> exact nofun

/-! ### Witnesses: the part as a whole -/

theorem witness_idle : State.reset.pending = [] := rfl

theorem witness_InRange : live.InRange ∧ step live = .next live := by
  refine ⟨?_, rfl⟩
  have hc : ∀ i : RecordNo, live.catalogue[i] = {} := by intro i; simp [live, State.reset]
  constructor
  · intro r
    have : live.reels[r] = {} := by simp [live, State.reset]
    rw [this]
    constructor
    · simp [Policy.InRange]
    · exact ⟨⟨by decide, by decide⟩, ⟨by decide, by decide⟩, ⟨by decide, by decide⟩⟩
    · constructor <;> simp
    · simp
    · simp
    · simp
    · simp
    · decide
    · simp [shrinkOk]
    · exact ⟨by decide, by decide⟩
    · decide
  · intro g; simp [live, State.reset, Gauge.InRange]
  · intro b
    have : live.pool.buffers[b] = {} := by simp [live, State.reset]
    rw [this]
    constructor <;> simp [Config.maxLines, Config.maxWidth, Grade.InRange, trimInRange, offsetInRange]
  · decide
  · decide
  · decide
  · decide
  · intro l; simp [live, State.reset]
  · decide
  · intro i
    rw [hc]
    constructor <;> simp [shrinkOk]
  · decide
  · constructor
    · simp [live, State.reset]
    · simp [live, State.reset]
    · simp [live, State.reset]
    · simp [live, State.reset]
    · decide
    · decide
  · intro p; simp [live, PortState.InRange]

theorem witness_Tied : live.Tied ∧ step live = .next live := by
  refine ⟨?_, rfl⟩
  constructor <;> simp [live, State.reset, PositionState.taken]

theorem witness_MemoryWf : live.MemoryWf ∧ step live = .next live := by
  refine ⟨?_, rfl⟩
  intro b
  simp [live, State.reset, Memory.wf, Memory.wfFrom]

/-- Each setting's own order changes it. -/
theorem witness_SettingsChangeOnlyByTheirOrders :
    leadsTo .setGauge (onS 7 [0, 256, 0, 0] live) (fun t => decide (t.intake.gauges ≠ live.intake.gauges)) = true ∧
    leadsTo .setPoolMarks (onS 9 [1, 2] live) (fun t => decide (t.pool.lowMark ≠ 4 ∨ t.pool.resumeMark ≠ 10)) = true ∧
    leadsTo .setDefectLimits (onS 11 [1, 0] live) (fun t => decide (t.defect ≠ live.defect)) = true ∧
    leadsTo .setRepairLimits (onS 12 [100, 1] live) (fun t => decide (t.repair.wait ≠ 2000)) = true ∧
    leadsTo .writeLaneMap (onS 19 [0, 1, 3] live) (fun t => decide (t.delivery.laneMap ≠ live.delivery.laneMap)) = true ∧
    leadsTo .setAckWait (onS 20 [10] live) (fun t => decide (t.delivery.ackWait ≠ 1000)) = true ∧
    leadsTo .setNoticeLevels (onS 34 (List.replicate 18 3) live) (fun t => decide (t.notices.mask ≠ 0)) = true ∧
    leadsTo .setNoticePort (onS 35 [0] live) (fun t => decide (t.notices.port ≠ portS ∧ t.lastPort ≠ 3)) = true := by
  decide +kernel

theorem witness_ProfilesAndGaugesChangeOnlyUnused :
    leadsTo .setProfileLevels (onS 14 [0, 1, 0, 0, 0, 0, 0, 10, 1] live)
      (fun t => decide (t.profiles[0].depth ≠ live.profiles[0].depth)) = true ∧
    leadsTo .loadProfileCurve (onS 13 [7, 2, 256, 1, 5] live)
      (fun t => decide (t.profiles[7].channels[2].curve[256] ≠ live.profiles[7].channels[2].curve[256])) = true ∧
    leadsTo .setGauge (onS 7 [3, 65535, 65535, 64] live)
      (fun t => decide (t.intake.gauges[3] ≠ live.intake.gauges[3])) = true := by decide +kernel

theorem witness_NothingIsSentWhileResetIsLow :
    ({ live with resetLow := true } : State).resetLow = true ∧
    leadsTo (.replySent 0) { live with resetLow := true } (fun t => decide (t.wire = [] ∧ t.resetLow = true)) = true := by
  decide +kernel

/-- A REPLY waiting on an UP port goes out. -/
theorem witness_EachEventSendsAtMostOneCell :
    leadsTo (.replySent 4) { live with links := { live.links with
      ports := live.links.ports.set 4 { link := .up, transmit := [.reply 7 3 .done []], seqOut := 255 } } }
      (fun t => decide (t.wire.length = 1 ∧ t.links.ports[4].seqOut = 0)) = true := by decide +kernel

/-! ### Witnesses: notices, replies and the order unit -/

/-- A notice unit of mask 1 with two eligible notices of level 2 pending, and one that is not eligible. -/
def burst : NoticeUnit :=
  { waiting := [⟨.frameLost, 2, some 0, 900, 255⟩, ⟨.perfFault, 5, some 1, 7, 0⟩, ⟨.poolLow, 0, none, 3, 0⟩], mask := 1 }

theorem burst_inRange (f : Option InFlight) (h : ∀ x, f = some x → x.notice.count ≤ 255 ∧ x.notice.inst < 8) :
    ({ burst with inFlight := f } : NoticeUnit).InRange := by
  have h1 : burst.waiting.Pairwise fun a b => a.key < b.key := by decide
  have h2 : ∀ n ∈ burst.waiting, n.count ≤ 255 := by decide
  have h3 : ∀ n ∈ burst.waiting, n.inst < 8 := by decide
  have h4 : ∀ k : Fin 17, burst.levels[k] ≤ 3 := by decide
  exact ⟨h1, h2, h3, h, h4, by simp [burst]⟩

theorem witness_HandOverChoosesHighestThenFirst :
    ({ burst with inFlight := none } : NoticeUnit).InRange ∧
    burst.inFlight = none ∧ live.links.ports[burst.port].link = .up ∧ live.links.ports[burst.port].transmit.length < 8 ∧
    (∃ n ∈ burst.waiting, burst.mask ≤ burst.levelOf n ∧ ∀ m ∈ burst.waiting, burst.mask ≤ burst.levelOf m →
      burst.levelOf m < burst.levelOf n ∨ burst.levelOf m = burst.levelOf n ∧ n.key ≤ m.key) ∧
    (∀ n ∈ [(⟨.perfFault, 5, some 1, 7, 0⟩ : Notice)], burst.levelOf n < burst.mask) ∧
    State.reset.links.ports[State.reset.notices.port].link ≠ .up := by
  refine ⟨burst_inRange none (by simp), by decide, by decide, by decide, ?_, by decide, by decide⟩
  exact ⟨⟨.frameLost, 2, some 0, 900, 255⟩, by decide, by decide, by decide⟩

theorem witness_RaisesAndReturnsCoalesce :
    ({ burst with inFlight := some ⟨⟨.frameLost, 2, some 0, 905, 255⟩, 4⟩ } : NoticeUnit).InRange ∧
    (∃ n ∈ burst.waiting, n.kind = .frameLost ∧ n.inst = 2 ∧ n.count = 255) ∧
    (∀ n ∈ burst.waiting, n.kind ≠ .frameLost ∨ n.inst ≠ 7) ∧ (∃ n ∈ burst.waiting, n.kind ≠ .frameLost ∨ n.inst ≠ 2) := by
  refine ⟨burst_inRange _ ?_, by decide, by decide, by decide⟩
  rintro x ⟨⟩
  decide

/-- R185: a notice that returns joins the newer one of its entry, with the counts added and one more, up to 255. -/
theorem test_returned_notice_coalesces :
    (({ live with notices := { burst with inFlight := some ⟨⟨.poolLow, 0, none, 1, 4⟩, 4⟩ } } : State).returnNotice
      4).notices.waiting.getLast? = some ⟨.poolLow, 0, none, 3, 5⟩ := by decide +kernel

theorem witness_OrderUnitServesPortsInCycle :
    ((onS 32 [] live).nextOrder = some (portS, ⟨7, 32, []⟩) ∧ (onS 32 [] live).links.ports[portS].orders = [⟨7, 32, []⟩] ∧
      Instr.identify ∈ orderCommands 32) ∧
    ((onS 2 [7, 0] live).nextOrder = some (portS, ⟨7, 2, [7, 0]⟩) ∧
      (onS 2 [7, 0] live).links.ports[portS].orders = [⟨7, 2, [7, 0]⟩]) ∧
    ((onS 36 [] live).nextOrder = some (portS, ⟨7, 36, []⟩) ∧ (36 : Nat) ∉ orderCodes ∧
      ∃ n ∈ orderCodes, Instr.identify ∈ orderCommands n) :=
  ⟨⟨(takes_onS 32 [] live).1, by decide +kernel, by decide⟩, ⟨(takes_onS 2 _ live).1, by decide +kernel⟩,
    (takes_onS 36 [] live).1, by decide, 32, by decide, by decide⟩

/-- R180: with orders on H1 and S and H0 the last served, H1 is served: its first order leaves its queue, and nothing else. -/
theorem test_a_take_drops_one_order :
    let ports := live.links.ports.set 1 { link := .up, orders := [⟨7, 32, []⟩, ⟨8, 33, []⟩] }
    leadsTo .identify { live with
        links := { live.links with ports := ports.set 4 { link := .up, orders := [⟨9, 32, []⟩] } }, lastPort := 0 } (fun t => decide (
      t.lastPort = 1 ∧ t.links.ports.toList.map PortState.orders = [[], [⟨8, 33, []⟩], [], [], [⟨9, 32, []⟩]])) = true := by
  decide +kernel

/-- A port with a transmit list of a given length. -/
def listOf (n : Nat) : State := { live with links := { live.links with
  ports := live.links.ports.set 0 { link := .up, transmit := List.replicate n (.reply 0 0 .done []) } } }

theorem witness_ReplyJoinsTheTransmitList :
    ((listOf 7).links.ports[0].link = .up ∧ (listOf 7).links.ports[0].transmit.length < 8) ∧
    State.reset.links.ports[0].link = .down ∧ 8 ≤ (listOf 8).links.ports[0].transmit.length := by decide +kernel

theorem witness_WrongCodeOrWordCountIsBadOrder :
    ((onS 0 [] live).nextOrder = some (portS, ⟨7, 0, []⟩) ∧ (0 : Nat) ∉ orderCodes) ∧
    ((onS 36 [] live).nextOrder = some (portS, ⟨7, 36, []⟩) ∧ (36 : Nat) ∉ orderCodes) ∧
    (∃ n ∈ orderCodes, Instr.identify ∈ orderCommands n) ∧
    ((onS 1 [0, 0, 0, 0, 0, 0, 0, 0] live).nextOrder = some (portS, ⟨7, 1, [0, 0, 0, 0, 0, 0, 0, 0]⟩) ∧
      ([0, 0, 0, 0, 0, 0, 0, 0] : List Word).length ∉ acceptedCounts 1 ∧ Instr.mountReel ∈ orderCommands 1) ∧
    ((onS 13 [0, 0, 0, 2, 9] live).nextOrder = some (portS, ⟨7, 13, [0, 0, 0, 2, 9]⟩) ∧
      listCountRight 13 [0, 0, 0, 2, 9] = false ∧ Instr.loadProfileCurve ∈ orderCommands 13) ∧
    ((32 : Nat) ∈ orderCodes ∧ 32 ≠ 33 ∧ Instr.softReset ∈ orderCommands 33) ∧ live.nextOrder = none := by
  refine ⟨⟨(takes_onS 0 [] live).1, by decide⟩, ⟨(takes_onS 36 [] live).1, by decide⟩, ⟨32, by decide, by decide⟩,
    ⟨(takes_onS 1 _ live).1, by decide, by decide⟩, ⟨(takes_onS 13 _ live).1, by decide, by decide⟩, by decide, by decide +kernel⟩

/-- Orders, each with an argument word just out of its range. -/
def outOfRange : List (Byte × List Word) :=
  [(1, [4, 0, 0, 0, 0, 0, 0]), (1, [0, 0, 0, 0, 32, 0, 0]), (1, [0, 0, 0, 0, 0, 0, 0, 8, 0, 0, 0]), (2, [0, 2]), (3, [8]),
    (4, [8]), (5, [0, 0, 65536, 0, 0]), (6, [8]), (7, [0, 255, 0, 0]), (8, [4]), (9, [2, 2]), (10, [32]), (11, [0, 0]),
    (12, [150, 1]), (13, [0, 0, 256, 2, 0, 0]), (14, [0, 0, 0, 0, 0, 0, 0, 11, 0]), (15, [0, 3, 0, 1]), (16, [0, 0, 0, 0, 0xFFFFFFDF]),
    (17, [0, 16777216, 0, 0, 0, 0]), (18, [8]), (19, [31, 2, 0, 0]), (20, [9]), (21, [4]), (22, [512, 0, 0, 0, 0, 0, 0]),
    (23, [512]), (24, [512]), (25, [1023, 2, 0]), (26, [1024]), (27, [1024]), (28, [0, 65]), (30, [65536]), (31, [0, 2]),
    (34, 4 :: List.replicate 17 0), (35, [5])]

theorem witness_ArgumentOutOfRangeIsBadArgument :
    ∀ x ∈ outOfRange, x.2.length ∈ acceptedCounts x.1.toNat ∧ listCountRight x.1.toNat x.2 = true ∧
      argumentsInRange x.1.toNat x.2 = false ∧ orderCommands x.1.toNat ≠ [] := by decide +kernel

/-! ### Witnesses: orders -/

theorem witness_ReadersReplyAndChangeNothing :
    (onS 6 [7] live).Takes portS ⟨7, 6, [7]⟩ 6 [natWord (7 : Slot).val] ∧
    (onS 8 [3] live).Takes portS ⟨7, 8, [3]⟩ 8 [natWord (3 : Head).val] ∧ (onS 10 [] live).Takes portS ⟨7, 10, []⟩ 10 [] ∧
    (onS 10 [31] live).Takes portS ⟨7, 10, [31]⟩ 10 [natWord (31 : Buf).val] ∧
    (onS 15 [7, 2, 225, 32] live).Takes portS ⟨7, 15, [7, 2, 225, 32]⟩ 15 [natWord 7, natWord 2, natWord 225, natWord 32] ∧
    (onS 21 [] live).Takes portS ⟨7, 21, []⟩ 21 [] ∧ (onS 21 [3] live).Takes portS ⟨7, 21, [3]⟩ 21 [natWord (3 : Lane).val] ∧
    (onS 24 [511] live).Takes portS ⟨7, 24, [511]⟩ 24 [natWord (511 : RecordNo).val] ∧
    (onS 28 [960, 64] live).Takes portS ⟨7, 28, [960, 64]⟩ 28 [natWord 960, natWord 64] ∧
    (onS 32 [] live).Takes portS ⟨7, 32, []⟩ 32 [] :=
  ⟨takes_onS _ _ _, takes_onS _ _ _, takes_onS _ _ _, takes_onS _ _ _, takes_onS _ _ _, takes_onS _ _ _, takes_onS _ _ _,
    takes_onS _ _ _, takes_onS _ _ _, takes_onS _ _ _⟩

theorem witness_SettingOrdersReplaceTheirSettings :
    (onS 11 [1000, 3072] live).Takes portS ⟨7, 11, [1000, 3072]⟩ 11 [natWord 1000, natWord 3072] ∧
    (onS 12 [25500, 512] live).Takes portS ⟨7, 12, [25500, 512]⟩ 12 [natWord 25500, natWord 512] ∧
    (onS 20 [10000] live).Takes portS ⟨7, 20, [10000]⟩ 20 [natWord 10000] ∧
    (onS 19 [31, 1, 3] live).Takes portS ⟨7, 19, [31, 1, 3]⟩ 19
      (natWord 31 :: natWord [(3 : Lane)].length :: [(3 : Lane)].map fun l => natWord l.val) ∧
    (onS 34 (3 :: List.replicate 17 3) live).Takes portS ⟨7, 34, 3 :: List.replicate 17 3⟩ 34
      (natWord 3 :: (Vector.replicate 17 3 : Vector Nat 17).toList.map natWord) ∧
    (onS 35 [4] live).Takes portS ⟨7, 35, [4]⟩ 35 [natWord portS.val] :=
  ⟨takes_onS _ _ _, takes_onS _ _ _, takes_onS _ _ _, takes_onS _ _ _, takes_onS _ _ _, takes_onS _ _ _⟩

/-- The part PACED. -/
def paced (s : State) : State := { s with pool := { s.pool with pacing := .paced } }

theorem witness_SetPoolMarksEvaluatesPacing :
    ((onS 9 [16, 32] live).Takes portS ⟨7, 9, [16, 32]⟩ 9 [natWord 16, natWord 32] ∧ (onS 9 [16, 32] live).pool.pacing = .open_ ∧
      16 ≤ (onS 9 [16, 32] live).freeCount) ∧
    ((onS 9 [1, 2] (allBuffers .done live)).Takes portS ⟨7, 9, [1, 2]⟩ 9 [natWord 1, natWord 2] ∧
      (onS 9 [1, 2] (allBuffers .done live)).freeCount < 1) ∧
    ((onS 9 [1, 2] (paced (allBuffers .done live))).pool.pacing = .paced ∧
      (onS 9 [1, 2] (paced (allBuffers .done live))).freeCount < 2) ∧
    ((onS 9 [16, 32] (paced live)).pool.pacing = .paced ∧ 32 ≤ (onS 9 [16, 32] (paced live)).freeCount) :=
  ⟨⟨takes_onS _ _ _, by decide +kernel, by decide +kernel⟩, ⟨takes_onS _ _ _, by decide +kernel⟩, by decide +kernel, by decide +kernel⟩

/-- R56: a pool whose free count is below the new low-water mark tells only the heads that feed it. -/
theorem test_pool_marks_pace_the_feeding_head :
    leadsTo .setPoolMarks (onS 9 [1, 2] (withReel 5 { state := .running, head := 2 } (allBuffers .done live))) (fun t =>
      decide (t.pool.pacing = .paced ∧ t.links.ports.toList.map PortState.flow = [[], [], [.paceHold], [], []])) = true := by
  decide +kernel

theorem witness_SetGaugeReplacesAnUnusedEntry :
    (onS 7 [3, 65535, 65535, 64] live).Takes portS ⟨7, 7, [3, 65535, 65535, 64]⟩ 7
      [natWord (3 : GaugeCode).val, natWord 65535, natWord 65535, natWord 64] ∧
    (∀ r : Slot, (onS 7 [3, 65535, 65535, 64] live).reels[r].state ∈ [.mounted, .running, .held, .draining] →
      (onS 7 [3, 65535, 65535, 64] live).reels[r].gauge ≠ 3) ∧
    (onS 7 [3, 0, 0, 0] (withReel 7 { state := .draining, gauge := 3 } live)).Takes portS ⟨7, 7, [3, 0, 0, 0]⟩ 7
      [natWord (3 : GaugeCode).val, natWord 0, natWord 0, natWord 0] ∧
    (withReel 7 { state := .draining, gauge := 3 } live).reels[7].state = .draining :=
  ⟨takes_onS _ _ _, by decide +kernel, takes_onS _ _ _, by decide +kernel⟩

theorem witness_ProfileOrdersReplaceUnreferencedFields :
    ((onS 13 [7, 2, 256, 1, 65535] live).Takes portS ⟨7, 13, [7, 2, 256, 1, 65535]⟩ 13
      (natWord (7 : ProfileNo).val :: natWord (2 : Fin 3).val :: natWord 256 :: natWord [(65535 : Channel)].length ::
        [(65535 : Channel)].map fun v => natWord v.toNat) ∧ (onS 13 [7, 2, 256, 1, 65535] live).referenced 7 = false) ∧
    ((onS 14 [0, 1, 2, 3, 4, 5, 6, 12, 1] live).Takes portS ⟨7, 14, [0, 1, 2, 3, 4, 5, 6, 12, 1]⟩ 14
      (natWord (0 : ProfileNo).val :: (([1, 2, 3, 4, 5, 6] : List Channel).map (fun v => natWord v.toNat) ++
        [natWord Depth.d12.bits, flagWord true])) ∧ (onS 14 [0, 1, 2, 3, 4, 5, 6, 12, 1] live).referenced 0 = false) ∧
    (onS 13 [0, 2, 256, 1, 65535] (withReel 0 { state := .mounted } live)).referenced 0 = true ∧
    (onS 14 [0, 1, 2, 3, 4, 5, 6, 12, 1] (withBuffer 31 { state := .sending } live)).referenced 0 = true :=
  ⟨⟨takes_onS _ _ _, by decide +kernel⟩, ⟨takes_onS _ _ _, by decide +kernel⟩, by decide +kernel, by decide +kernel⟩

/-- Sixteen cues, for frames 10 to 25. -/
def sixteenCues : List Cue := (List.range 16).map fun i => ⟨i + 10, ⟨0, 0, 0, 0⟩⟩

theorem witness_GradeAndCueOrdersKeepTheListInOrder :
    ((onS 16 [7, 1, 0xFFFFFFE0, 31, 0] (withReel 7 { state := .held } live)).Takes portS ⟨7, 16, [7, 1, 0xFFFFFFE0, 31, 0]⟩ 16
      [natWord (7 : Slot).val, natWord (1 : ProfileNo).val, intWord (-32), intWord 31, intWord 0] ∧
      (withReel 7 { state := .held } live).reels[7].state = .held) ∧
    ((onS 16 [7, 1, 0, 0, 0] live).Takes portS ⟨7, 16, [7, 1, 0, 0, 0]⟩ 16
      [natWord (7 : Slot).val, natWord (1 : ProfileNo).val, intWord 0, intWord 0, intWord 0] ∧ live.reels[7].state = .free) ∧
    ((onS 17 [7, 16777215, 0, 0, 0, 0] live).Takes portS ⟨7, 17, [7, 16777215, 0, 0, 0, 0]⟩ 17
      [natWord (7 : Slot).val, natWord 16777215, natWord (0 : ProfileNo).val, intWord 0, intWord 0, intWord 0] ∧
      live.reels[7].state = .free) ∧
    (sixteenCues.length = 16 ∧ sixteenCues.Pairwise (fun a b => a.frame < b.frame) ∧ (∀ c ∈ sixteenCues, 9 < c.frame) ∧
      sixteenCues.any (fun d => decide (d.frame = 25)) = true ∧ sixteenCues.any (fun d => decide (d.frame = 26)) = false) ∧
    (onS 18 [7] live).Takes portS ⟨7, 18, [7]⟩ 18 [natWord (7 : Slot).val] :=
  ⟨⟨takes_onS _ _ _, by decide +kernel⟩, ⟨takes_onS _ _ _, by decide +kernel⟩, ⟨takes_onS _ _ _, by decide +kernel⟩,
    by decide +kernel, takes_onS _ _ _⟩

/-- A reel with 16 cues whose last opened frame is 9: a cue for a seventeenth frame is FULL, for a held frame replaces, and for
frame 9 is LATE (R107). -/
theorem test_cue_statuses :
    ([[0, 26, 0, 0, 0, 0], [0, 25, 1, 0, 0, 0], [0, 9, 0, 0, 0, 0]].map fun a =>
      ((onS 17 a (withReel 0 { state := .running, cues := sixteenCues, lastOpened := some 9 } live)).popOrder 4
        |> (applySetCue · ⟨7, 17, a⟩)).2) = [(.full, []), (.done, [16, 1]), (.late, [])] := by decide +kernel

theorem witness_CatalogueOrdersPairRecordsAndPositions :
    ((onS 22 [511, 0xFFFFFFFF, 0xFFFF, 3, 3, 3, 1000] live).Takes portS ⟨7, 22, [511, 0xFFFFFFFF, 0xFFFF, 3, 3, 3, 1000]⟩ 22
      ([natWord (511 : RecordNo).val, natWord ((2 ^ 48 - 1) % 2 ^ 32), natWord ((2 ^ 48 - 1) / 2 ^ 32),
        natWord Base.unknown.code, natWord (3 : GaugeCode).val, natWord 3, natWord 1000] ++
        ((none : Option PositionNo).map fun q => natWord q.val).toList) ∧ live.catalogue[511].state = .empty) ∧
    ((onS 22 [0, 0, 0, 0, 0, 0, 0, 1023] live).Takes portS ⟨7, 22, [0, 0, 0, 0, 0, 0, 0, 1023]⟩ 22
      ([natWord (0 : RecordNo).val, natWord (0 % 2 ^ 32), natWord (0 / 2 ^ 32), natWord Base.nitrate.code,
        natWord (0 : GaugeCode).val, natWord 0, natWord 0] ++ ((some (1023 : PositionNo)).map fun q => natWord q.val).toList)) ∧
    (withPosition 1023 { cls := some .classA, state := .free } live).shelf.positions[1023].state = .free ∧
    live.shelf.positions[1023].state ≠ .free ∧
    (withRecord 511 { state := .shelved, position := some 1023 } live).catalogue[511].state = .shelved ∧
    (withRecord 511 { state := .onHead } live).catalogue[511].state = .onHead ∧
    (onS 23 [511] live).Takes portS ⟨7, 23, [511]⟩ 23 [natWord (511 : RecordNo).val] ∧
    (withRecord 511 { state := .out } live).catalogue[511].state = .out :=
  ⟨⟨takes_onS _ _ _, by decide +kernel⟩, takes_onS _ _ _, by decide +kernel, by decide +kernel, by decide +kernel,
    by decide +kernel, takes_onS _ _ _, by decide +kernel⟩

/-- R147: a record created on a FREE position is SHELVED there, and the position OCCUPIED. -/
theorem test_created_record_is_shelved :
    leadsTo .writeCatalogue (onS 22 [5, 77, 1, 1, 2, 3, 4, 9] (withPosition 9 { cls := some .classB, state := .free } live)) (fun t =>
      decide (t.catalogue[5] = { state := .shelved, identity := 77 + 2 ^ 32, base := .acetate, gauge := 2, vinegar := 3
                                 priorScore := 4, position := some 9 } ∧
        t.shelf.positions[9] = ⟨some .classB, .occupied, some 5, false⟩)) = true := by decide +kernel

theorem witness_ShelfOrdersDefineAndLockPositions :
    ((onS 25 [0, 1024, 4] live).Takes portS ⟨7, 25, [0, 1024, 4]⟩ 25
      [natWord 0, natWord 1024, natWord (classCode (some .classD))] ∧
      ∀ q : PositionNo, live.shelf.positions[q].state ≠ .occupied ∧ live.shelf.positions[q].state ≠ .reserved) ∧
    ((onS 25 [1023, 1, 0] live).Takes portS ⟨7, 25, [1023, 1, 0]⟩ 25 [natWord 1023, natWord 1, natWord (classCode none)] ∧
      (withPosition 1023 { cls := some .classA, state := .reserved, owner := some 0 } live).shelf.positions[1023].state = .reserved) ∧
    (onS 26 [1023] live).Takes portS ⟨7, 26, [1023]⟩ 26 [natWord (1023 : PositionNo).val] ∧
    (onS 27 [1023] live).Takes portS ⟨7, 27, [1023]⟩ 27 [natWord (1023 : PositionNo).val] ∧
    ((withPosition 1023 { cls := some .classA, state := .free, lock := true } live).shelf.positions[1023].lock = true ∧
      (withPosition 1023 { cls := some .classA, state := .free, lock := true } live).shelf.positions[1023].state = .free) ∧
    live.shelf.positions[1023].lock = false := by
  refine ⟨⟨takes_onS _ _ _, ?_⟩, ⟨takes_onS _ _ _, by decide +kernel⟩, takes_onS _ _ _, takes_onS _ _ _, by decide +kernel, by decide +kernel⟩
  intro q
  simp [live, State.reset]

/-- A reserved home whose record waits for space: its unlocking makes a retry pass (R162). -/
theorem test_unlocked_home_is_usable :
    leadsTo .shelfUnlock (onS 27 [9] (withTickets [⟨40, 5, .classB, none, .awaitingSpace⟩]
      (withRecord 5 { state := .pendingShelf, position := some 9 }
        (withPosition 9 { cls := some .classB, state := .reserved, owner := some 5, lock := true } live)))) (fun t =>
      decide (t.shelf.tickets = [⟨40, 5, .classB, some 9, .issued⟩])) = true := by decide +kernel

/-- The vault of section 10.8 before the tickets of records 60, 61 and 63 are taken. -/
def vault : State :=
  withTickets [⟨40, 60, .classA, some 12, .issued⟩, ⟨41, 61, .classA, some 13, .taken⟩, ⟨43, 63, .classC, none, .awaitingSpace⟩]
    (withRecord 60 { state := .pendingShelf, base := .acetate, position := some 12 }
      (withRecord 61 { state := .pendingShelf, base := .acetate, position := some 13 }
        (withRecord 63 { state := .pendingShelf, base := .acetate, position := some 10 }
          (withPosition 10 ⟨some .classA, .reserved, some 63, false⟩ (withPosition 11 ⟨some .classA, .free, none, true⟩
            (withPosition 12 ⟨some .classA, .reserved, some 60, false⟩ (withPosition 13 ⟨some .classA, .reserved, some 61, false⟩
              (withPosition 14 ⟨some .classB, .free, none, false⟩ live))))))))

/-- Section 10.8: the refusal of ticket 41 with block finds position 14. -/
theorem test_refused_ticket_of_section_10_8 :
    leadsTo .refuseTicket (onS 31 [41, 1] vault) (fun t => decide (
      t.shelf.positions[13].state = .blocked ∧ t.shelf.positions[14] = ⟨some .classB, .reserved, some 61, false⟩ ∧
      t.shelf.tickets.map (fun x => (x.number, x.position, x.state)) =
        [(40, some 12, .issued), (41, some 14, .issued), (43, none, .awaitingSpace)])) = true := by decide +kernel

/-- Section 10.8: the definition of position 17 in class C serves ticket 43 and frees its home. -/
theorem test_defined_position_of_section_10_8 :
    leadsTo .defineShelves (onS 25 [17, 1, 3] vault) (fun t => decide (
      t.shelf.positions[17] = ⟨some .classC, .reserved, some 63, false⟩ ∧ t.shelf.positions[10] = ⟨some .classA, .free, none, false⟩ ∧
      t.catalogue[63].position = some 17)) = true := by decide +kernel

theorem witness_TicketsAreTakenAndConfirmed :
    (onS 29 [] vault).Takes portS ⟨7, 29, []⟩ 29 [] ∧ vault.shelf.tickets.Pairwise (fun a b => a.number ≠ b.number) ∧
    (∃ t younger, vault.shelf.tickets = [] ++ t :: younger ∧ t.state = .issued ∧ t.position = some 12) ∧
    (∀ t ∈ live.shelf.tickets, t.state ≠ .issued) ∧
    (onS 30 [65535] vault).Takes portS ⟨7, 30, [65535]⟩ 30 [natWord (65535 : BitVec 16).toNat] ∧
    (onS 30 [41] vault).Takes portS ⟨7, 30, [41]⟩ 30 [natWord (41 : BitVec 16).toNat] ∧
    (∃ t ∈ vault.shelf.tickets, t.number = 41 ∧ t.state = .taken ∧ t.position = some 13) ∧
    (∃ t ∈ vault.shelf.tickets, t.number = 40 ∧ t.state ≠ .taken) ∧ (∀ t ∈ vault.shelf.tickets, t.number ≠ 65535) :=
  ⟨takes_onS _ _ _, by decide, ⟨_, _, rfl, rfl, rfl⟩, by decide, takes_onS _ _ _, takes_onS _ _ _, by decide, by decide, by decide⟩

/-- A vault with no FREE position: ticket 41 of class A is TAKEN at position 13 of class A, and ticket 40 of class A waits, its
home the class B position 10. -/
def fullVault : State :=
  withTickets [⟨40, 60, .classA, none, .awaitingSpace⟩, ⟨41, 61, .classA, some 13, .taken⟩]
    (withRecord 60 { state := .pendingShelf, base := .acetate, position := some 10 }
      (withRecord 61 { state := .pendingShelf, base := .acetate, position := some 13 }
        (withPosition 10 ⟨some .classB, .reserved, some 60, false⟩ (withPosition 13 ⟨some .classA, .reserved, some 61, false⟩ live))))

/-- R168, R172: position 13, refused without the block, goes to ticket 40, whose home, position 10 of class B, then goes to
ticket 41: ISSUED is 0, and class B is 2. -/
theorem test_refused_ticket_is_issued_by_the_pass :
    leadsTo .refuseTicket (onS 31 [41, 0] fullVault) (fun t => decide (
      t.shelf.tickets.map (fun x => (x.number, x.position, x.state)) = [(40, some 13, .issued), (41, some 10, .issued)] ∧
        t.links.ports[4].transmit.head? = some (.reply 7 31 .done [0, 10, 2]))) = true := by decide +kernel

theorem witness_RefuseTicketAllocatesAgain :
    (onS 31 [41, 1] vault).Takes portS ⟨7, 31, [41, 1]⟩ 31 [natWord (41 : BitVec 16).toNat, if true then 1 else 0] ∧
    (onS 31 [41, 0] vault).Takes portS ⟨7, 31, [41, 0]⟩ 31 [natWord (41 : BitVec 16).toNat, if false then 1 else 0] ∧
    (onS 31 [40, 0] vault).Takes portS ⟨7, 31, [40, 0]⟩ 31 [natWord (40 : BitVec 16).toNat, if false then 1 else 0] ∧
    vault.shelf.tickets.Pairwise (fun a b => a.number ≠ b.number) ∧
    (∃ t ∈ vault.shelf.tickets, t.number = 41 ∧ t.state = .taken ∧ t.position = some 13) ∧
    (∃ t ∈ vault.shelf.tickets, t.number = 40 ∧ t.state ≠ .taken) ∧ (∀ t ∈ vault.shelf.tickets, t.number ≠ 0) ∧
    allocate vault.shelf.positions (some 13) .classA none = some 14 :=
  ⟨takes_onS _ _ _, takes_onS _ _ _, takes_onS _ _ _, by decide, by decide, by decide, by decide, by decide +kernel⟩

/-- R172 with nothing found, with the block and without it. -/
theorem witness_RefuseTicketAllocatesAgain_nothing_found :
    (∀ block : Bool, (onS 31 [41, if block then 1 else 0] fullVault).Takes portS ⟨7, 31, [41, if block then 1 else 0]⟩ 31
      [natWord (41 : BitVec 16).toNat, if block then 1 else 0]) ∧
    fullVault.shelf.tickets.Pairwise (fun a b => a.number ≠ b.number) ∧
    (∃ t ∈ fullVault.shelf.tickets, t.number = 41 ∧ t.state = .taken ∧ t.position = some 13) ∧
    (∀ x : PositionState, x = .blocked ∨ x = .free →
      allocate (withPosition 13 ⟨some .classA, x, none, false⟩ fullVault).shelf.positions (some 13) .classA none = none) ∧
    fullVault.shelf.positions[13].lock = false :=
  ⟨fun _ => takes_onS _ _ _, by decide, by decide, by rintro x (rfl | rfl) <;> decide +kernel, by decide +kernel⟩

/-- A vault whose engine repairs sample (1, 0) of frame 10, in buffer 4, from its right neighbour. -/
def vaultRepairing : State :=
  let s := withBuffer 4 { state := .repair, slot := 7, frame := 10, lines := 3, width := 2, runs := [⟨1, 0, 1⟩], defective := 1 } vault
  { s with
    pool := { s.pool with dram := s.pool.dram.set 4 [(4097, ⟨7, 8, 9, 65535⟩)] }
    repair := { s.repair with engine := some ⟨⟨4, none, none⟩, 64, false⟩ } }

theorem witness_SoftResetKeepsTheTablesAndClearsTheWork :
    (onS 33 [] vault).Takes portS ⟨7, 33, []⟩ 33 [] ∧ (onS 33 [] vault).repair.engine = none ∧
    (onS 33 [] vaultRepairing).Takes portS ⟨7, 33, []⟩ 33 [] ∧
    (∃ job, (onS 33 [] vaultRepairing).repair.engine = some job ∧
      (onS 33 [] vaultRepairing).repairFills job = [⟨4096, some ⟨7, 8, 9, 65535⟩⟩]) ∧
    ∀ b : Buf, (onS 33 [] vaultRepairing).pool.dram[b].wf = true :=
  ⟨takes_onS _ _ _, by decide, takes_onS _ _ _, ⟨_, rfl, by decide +kernel⟩, by decide +kernel⟩

/-- R152, R183: a soft reset takes the reel off its head and keeps the tables. -/
theorem test_soft_reset :
    leadsTo .softReset (onS 33 [] (withReel 2 { state := .running, record := 9 } (withRecord 9 { state := .onHead } vault))) (fun t =>
      decide (t.reels[2].state = .free ∧ t.catalogue[9].state = .out ∧ t.catalogue[9].lastReason = some .reset ∧
        t.shelf.tickets = vault.shelf.tickets)) = true := by decide +kernel

/-- A part whose gauge 1 is defined and whose record 5 is OUT. -/
def mountable : State :=
  withRecord 5 { state := .out } { live with intake := { live.intake with gauges := live.intake.gauges.set 1 ⟨12288, 1008, 32⟩ } }

/-- The same with every slot CLOSED. -/
def allClosed : State := { mountable with reels := Vector.replicate 8 { state := .closed } }

theorem witness_MountReelTakesTheLowestFreeSlot :
    ((onS 1 [3, 5, 1, 7, 31, 0xFFFFFFE0, 0] mountable).Takes portS ⟨7, 1, [3, 5, 1, 7, 31, 0xFFFFFFE0, 0]⟩ 1
      ([natWord (3 : Head).val, natWord (5 : RecordNo).val, natWord (1 : GaugeCode).val, natWord (7 : ProfileNo).val, intWord 31,
        intWord (-32), intWord 0] ++ ((none : Option Policy).toList.flatMap fun x => [natWord x.settleCount]))) ∧
    ((onS 1 [3, 5, 1, 7, 0, 0, 0, 7, 65535, 1, 15] mountable).Takes portS ⟨7, 1, [3, 5, 1, 7, 0, 0, 0, 7, 65535, 1, 15]⟩ 1
      ([natWord (3 : Head).val, natWord (5 : RecordNo).val, natWord (1 : GaugeCode).val, natWord (7 : ProfileNo).val, intWord 0,
        intWord 0, intWord 0] ++ ((some (⟨7, 65535, .hold, 15⟩ : Policy)).toList.flatMap fun x =>
          [natWord x.settleCount, natWord x.irThreshold, if x.heavyAction = .hold then 1 else 0, natWord x.perfRunLimit]))) ∧
    ((⟨7, 31, -32, 0⟩ : Grade).InRange ∧ (⟨7, 65535, .hold, 15⟩ : Policy).InRange) ∧
    (∃ r : Slot, (withReel 7 { state := .held, head := 3 } mountable).reels[r].head = 3 ∧
      (withReel 7 { state := .held, head := 3 } mountable).reels[r].state ∈ [.mounted, .running, .held]) ∧
    (∀ r : Slot, allClosed.reels[r].state ≠ .free ∧ allClosed.reels[r].state ∉ [.mounted, .running, .held]) ∧
    (∀ r : Slot, mountable.reels[r].state = .free) ∧ mountable.catalogue[5].state = .out ∧
    mountable.catalogue[6].state ∉ [.shelved, .out] ∧ mountable.intake.gauges[0].pitch = 0 ∧ mountable.intake.gauges[1].pitch ≠ 0 :=
  ⟨takes_onS _ _ _, takes_onS _ _ _, by simp [Grade.InRange, trimInRange, Policy.InRange], by decide +kernel, by decide +kernel,
    by decide +kernel, by decide +kernel, by decide +kernel, by decide +kernel, by decide +kernel⟩

/-- R6: the lowest FREE slot is taken, and a head of a PACED pool is told. -/
theorem test_mount_on_paced_pool :
    leadsTo .mountReel (onS 1 [3, 5, 1, 7, 31, 0, 0] (paced (withReel 0 { state := .closed } mountable))) (fun t =>
      decide (t.reels[1].state = .mounted ∧ t.reels[1].head = 3 ∧ t.catalogue[5].state = .onHead ∧
        t.links.ports[3].flow = [.paceHold])) = true := by decide +kernel

/-- A RUNNING reel on head 2 in slot 7, with a frame in assembly in buffer 4 and deferred orders. -/
def midFrame (d : List Deferred) : State :=
  withAssembly 2 (.assembling 4 ⟨10, 3, 2, 7, 12000, []⟩)
    (withBuffer 4 { state := .filling, slot := 7, lines := 3, width := 2, frame := 10 }
      (withReel 7 { state := .running, head := 2, deferred := d, lastOpened := some 10 } live))

/-- A RUNNING reel on head 2 in slot 7 at a gap. -/
def atGap : State := withReel 7 { state := .running, head := 2 } live

theorem witness_UnmountEndDrainsAtAGap :
    (onS 2 [7, 0] atGap).Takes portS ⟨7, 2, [7, 0]⟩ 2 [natWord (7 : Slot).val, 0] ∧ atGap.reels[7].state = .running ∧
    atGap.intake.heads[2].assembly = .idle ∧
    (∃ b d, (midFrame []).intake.heads[2].assembly = .assembling b d ∧ d.slot = 7) ∧ (midFrame []).reels[7].state = .running ∧
    (midFrame (List.replicate 3 (.holdReel 1))).reels[7].deferred.length = 3 ∧
    (midFrame (List.replicate 4 (.holdReel 1))).reels[7].deferred.length = 4 ∧ live.reels[7].state = .free :=
  ⟨takes_onS _ _ _, by decide +kernel, by decide +kernel, ⟨_, _, rfl, rfl⟩, by decide +kernel, by decide +kernel, by decide +kernel,
    by decide +kernel⟩

/-- A frame in assembly with four more frames of slot 7 in the part: buffer 5 in the engine, 6 in the repair queue with
buffer 5 as its prev, 7 QUEUED on lane 1 ahead of buffer 20 of slot 0, and 8 SENDING; and two DONE ones, 9 with its successor
hold alone and 10 with a neighbour hold as well. -/
def manyFrames : State :=
  let s := withBuffer 5 { state := .repair, slot := 7, frame := 6, neighbourHolds := 1 }
    (withBuffer 6 { state := .repair, slot := 7, frame := 7, successorHold := true }
      (withBuffer 7 { state := .queued, slot := 7, lane := some 1 }
        (withBuffer 8 { state := .sending, slot := 7 } (withBuffer 20 { state := .queued, lane := some 1 }
          (withBuffer 9 { state := .done, slot := 7, successorHold := true, delivery := .resolved }
            (withBuffer 10 { state := .done, slot := 7, successorHold := true, neighbourHolds := 1, delivery := .resolved }
              (midFrame [])))))))
  { s with
    repair := { s.repair with engine := some ⟨⟨5, none, none⟩, 64, false⟩, queue := [⟨6, some 5, none⟩] }
    delivery := { s.delivery with queues := s.delivery.queues.set 1 [7, 20] } }

/-- The same with the engine at work for slot 0. -/
def otherReelRepairing : State := { manyFrames with repair := { manyFrames.repair with engine := some ⟨⟨20, none, none⟩, 64, false⟩ } }

theorem witness_UnmountAbortDealsWithEveryBuffer :
    (onS 2 [7, 1] manyFrames).Takes portS ⟨7, 2, [7, 1]⟩ 2 [natWord (7 : Slot).val, 1] ∧
    (manyFrames.reels[7].state = .running ∧
      (∀ b : Buf, manyFrames.pool.buffers[b].slot = 7 → manyFrames.pool.buffers[b].state ≠ .done →
        manyFrames.pool.buffers[b].delivery ≠ .resolved) ∧
      [4, 5, 6, 7, 8, 9, 10].map (fun b : Buf => (manyFrames.pool.buffers[b].slot, manyFrames.pool.buffers[b].state)) =
        [(7, .filling), (7, .repair), (7, .repair), (7, .queued), (7, .sending), (7, .done), (7, .done)] ∧
      [9, 10].map (fun b : Buf => (manyFrames.pool.buffers[b].successorHold, manyFrames.pool.buffers[b].neighbourHolds,
        manyFrames.pool.buffers[b].delivery)) = [(true, 0, .resolved), (true, 1, .resolved)]) ∧
    (∃ job, manyFrames.repair.engine = some job ∧ manyFrames.pool.buffers[job.request.buf].slot = 7 ∧
      manyFrames.pool.buffers[job.request.buf].state = .repair) ∧
    (∃ job, otherReelRepairing.repair.engine = some job ∧ otherReelRepairing.pool.buffers[job.request.buf].slot ≠ 7) ∧
    (midFrame []).repair.engine = none ∧ live.reels[7].state = .free :=
  ⟨takes_onS _ _ _, by decide +kernel, ⟨_, rfl, by decide +kernel, by decide +kernel⟩, ⟨_, rfl, by decide +kernel⟩,
    by decide +kernel, by decide +kernel⟩

/-- R18, R52, R93, R141: the engine's request is marked, the queued frames go, a frame being sent stays, and of two DONE frames
without their successor holds the one with a neighbour hold stays. -/
theorem test_abort_with_frames_everywhere :
    leadsTo .unmountReelAbort (onS 2 [7, 1] manyFrames) (fun t => decide (
      t.repair.engine = some ⟨⟨5, none, none⟩, 64, true⟩ ∧ t.repair.queue = [] ∧ t.delivery.queues[1] = [20] ∧
        t.pool.buffers[5].neighbourHolds = 0 ∧ t.reels[7].counters.discardedAbort = 3 ∧ t.reels[7].state = .draining ∧
        [4, 5, 6, 7, 8, 9, 10].map (fun b : Buf => (t.pool.buffers[b].state, t.pool.buffers[b].successorHold)) =
          [(.free, false), (.repair, false), (.free, false), (.free, false), (.sending, false), (.free, false), (.done, false)])) = true := by
  decide +kernel

/-- R18, R21, R52: an abort in mid-frame frees the buffer being filled and the DONE latest frame that waits for its successor, and
leaves the head SINKING; the reel closes. -/
theorem test_abort_in_mid_frame :
    leadsTo .unmountReelAbort (onS 2 [7, 1]
        (withBuffer 3 { state := .done, slot := 7, frame := 9, successorHold := true, delivery := .resolved } (midFrame []))) (fun t =>
      decide (t.pool.buffers[4].state = .free ∧ t.pool.buffers[3].state = .free ∧ t.intake.heads[2].assembly = .sinking ∧ t.reels[7].state = .free ∧
        t.reels[7].counters.discardedAbort = 1 ∧ t.shelf.tickets.map Ticket.number = [0])) = true := by decide +kernel

theorem witness_HoldResumeAndPolicyOrders :
    ((onS 3 [7] atGap).Takes portS ⟨7, 3, [7]⟩ 3 [natWord (7 : Slot).val] ∧ atGap.reels[7].state = .running ∧
      atGap.intake.heads[2].assembly = .idle) ∧
    ((onS 4 [7] (withReel 7 { state := .held, head := 2 } live)).Takes portS ⟨7, 4, [7]⟩ 4 [natWord (7 : Slot).val] ∧
      (withReel 7 { state := .held, head := 2 } live).reels[7].state = .held ∧ live.links.ports[2].link = .up ∧
      State.reset.links.ports[2].link = .down ∧ live.reels[7].state ≠ .held) ∧
    ((onS 5 [7, 7, 65535, 1, 15] atGap).Takes portS ⟨7, 5, [7, 7, 65535, 1, 15]⟩ 5
      [natWord (7 : Slot).val, natWord 7, natWord 65535, if HeavyAction.hold = .hold then 1 else 0, natWord 15] ∧
      (⟨7, 65535, .hold, 15⟩ : Policy).InRange) ∧
    (∃ b d, (midFrame []).intake.heads[2].assembly = .assembling b d ∧ d.slot = 7) ∧ (midFrame []).reels[7].state = .running ∧
    (midFrame (List.replicate 3 (.holdReel 1))).reels[7].deferred.length = 3 ∧
    (midFrame (List.replicate 4 (.holdReel 1))).reels[7].deferred.length = 4 :=
  ⟨⟨takes_onS _ _ _, by decide +kernel, by decide +kernel⟩,
    ⟨takes_onS _ _ _, by decide +kernel, by decide +kernel, by decide +kernel, by decide +kernel⟩,
    ⟨takes_onS _ _ _, by simp [Policy.InRange]⟩, ⟨_, _, rfl, rfl⟩, by decide +kernel, by decide +kernel, by decide +kernel⟩

/-- R12: a resumed reel of a PACED pool is told GO, then PACE-HOLD. -/
theorem test_resume_on_paced_pool :
    leadsTo .resumeReel (onS 4 [7] (paced (withReel 7 { state := .held, head := 2, settleRemaining := 0 } live))) (fun t =>
      decide (t.reels[7].state = .running ∧ t.reels[7].settleRemaining = 2 ∧ t.links.ports[2].flow = [.go, .paceHold])) = true := by
  decide +kernel

/-! ### Witnesses: resets and links -/

theorem witness_ResetInputGivesThePowerOnState : live.repair.engine = none := by decide

theorem live_notices_inRange : live.notices.InRange := by
  constructor
  · simp [live, State.reset]
  · simp [live, State.reset]
  · simp [live, State.reset]
  · simp [live, State.reset]
  · decide
  · decide

theorem witness_HeadLinkEvents :
    (atGap.notices.InRange ∧ atGap.links.ports[headPort 2].link = .up ∧ atGap.boundSlot 2 = some 7) ∧
    ((∀ b d, live.intake.heads[(2 : Head)].assembly ≠ .assembling b d) ∧
      ∀ r : Slot, live.reels[r].head = 2 → live.reels[r].state ≠ .running) ∧
    State.reset.links.ports[headPort 2].link = .down ∧
    ((paced atGap).pool.pacing = .paced ∧ (paced atGap).boundSlot 2 = some 7 ∧ (paced atGap).reels[7].state = .running) ∧
    State.reset.boundSlot 2 = none :=
  ⟨⟨live_notices_inRange, by decide, by decide +kernel⟩, ⟨not_assembling (by decide), by decide +kernel⟩, by decide,
    by decide +kernel, by decide +kernel⟩

/-- A frame in hand at a link loss, with deferred orders and with none, and a RUNNING reel with no frame in hand. -/
theorem witness_HeadLinkEvents_frame_in_hand :
    (∀ d ∈ [[], [.setPolicy 1 ⟨7, 0, .pass, 0⟩, .unmountEnd 2]], let s := midFrame d
      s.links.ports[headPort 2].link = .up ∧ s.intake.heads[(2 : Head)].assembly = .assembling 4 ⟨10, 3, 2, 7, 12000, []⟩ ∧
      s.boundSlot 2 = some 7 ∧ s.reels[7].state = .running ∧ s.pool.buffers[(4 : Buf)].slot = 7 ∧
      s.pool.buffers[(4 : Buf)].delivery = .neverSent ∧ ∀ k : Buf, s.pool.buffers[k].state ≠ .pending) ∧
    (midFrame []).notices.InRange ∧
    (∀ b d, atGap.intake.heads[(2 : Head)].assembly ≠ .assembling b d) ∧ atGap.reels[7].state = .running :=
  ⟨by decide +kernel, live_notices_inRange, not_assembling (by decide), by decide +kernel⟩

/-- R13, R16: a link loss in mid-frame with a deferred UNMOUNT-REEL END leaves the reel DRAINING, and the frame, closed short but
within the limits, goes to its repair. -/
theorem test_link_loss_applies_deferred_orders :
    leadsTo (.headLinkLoss 2) { midFrame [.setPolicy 1 ⟨7, 0, .pass, 0⟩, .unmountEnd 2] with defect := ⟨1000, 64⟩ } (fun t =>
      decide (t.reels[7].state = .draining ∧ t.reels[7].closeReason = some .unmount ∧ t.reels[7].policy = ⟨7, 0, .pass, 0⟩ ∧
        t.reels[7].counters.shortFrames = 1 ∧ t.pool.buffers[4].state = .repair ∧ t.pool.buffers[4].badLines = 3)) = true := by
  decide +kernel

/-- R13, R43: a link loss in mid-frame closes the frame short, with every line bad, and holds the reel. -/
theorem test_link_loss_in_mid_frame :
    leadsTo (.headLinkLoss 2) (midFrame []) (fun t =>
      decide (t.reels[7].state = .held ∧ t.intake.heads[2].assembly = .idle ∧ t.pool.buffers[4].received = [0, 1, 2] ∧
        t.pool.buffers[4].defective = 6 ∧ t.reels[7].counters.shortFrames = 1 ∧ t.pool.buffers[4].heavy = true)) = true := by
  decide +kernel

/-- The part sending line 5 of buffer 3 on lane 2, of a frame of 800 lines. -/
def sendingPart : State :=
  let s := withBuffer 3 { state := .sending, lane := some 2, lines := 800, record := 12, frame := 101 } live
  { s with delivery := { s.delivery with transmitter := .sending 3 5, credits := Vector.replicate 4 1 } }

theorem witness_StoreLinkLossCutsTheSend :
    (live.links.ports[portS].link = .up ∧ live.delivery.transmitter = .idle) ∧
    (sendingPart.links.ports[portS].link = .up ∧ sendingPart.delivery.transmitter = .sending 3 5 ∧
      sendingPart.pool.buffers[(3 : Buf)].lane = some 2) ∧ State.reset.links.ports[portS].link = .down := by decide +kernel

/-- R136: the cut frame rejoins the head of its lane, the credits are lost, and the cut is counted. -/
theorem test_cut_send :
    leadsTo .storeLinkLoss sendingPart (fun t =>
      decide (t.delivery.queues[2] = [3] ∧ t.delivery.credits.toList = [0, 0, 0, 0] ∧ t.delivery.cutSends = 1 ∧
        t.pool.buffers[3].state = .queued ∧ t.delivery.transmitter = .idle)) = true := by decide +kernel

/-! ### Witnesses: frame cells -/

/-- A FRAME-HEAD cell for frame 11 of 3 lines by 2 samples, with one edge at 1008. -/
def head11 : RxCell := goodCell 0x01 0 [11, 0, 0, 3, 0, 2, 0, 1, 0xF0, 0x03]

/-- A FRAME-HEAD cell for frame 11 of 3073 lines. -/
def tall11 : RxCell := goodCell 0x01 0 [11, 0, 0, 1, 12, 2, 0, 0]

/-- A cell with a wrong check. -/
def broken (c : RxCell) : RxCell := { c with check := c.check + 1 }

/-- A reel in slot 7 on head 2, MOUNTED with gauge 1, its settle remaining given. -/
def waitingReel (settle : Nat) : State :=
  withReel 7 { state := .mounted, head := 2, gauge := 1, lastOpened := some 10, settleRemaining := settle } mountable

theorem witness_FrameHeadThatGetsNoBuffer :
    (passesCheck kindFrameHead (broken head11) = false ∧ passesCheck kindFrameHead head11 = true ∧
      (readFrameHead head11.payload).frame = 11 ∧ live.links.ports[headPort 2].link = .up) ∧
    ((∀ b d, live.intake.heads[(2 : Head)].assembly ≠ .assembling b d) ∧ live.boundSlot 2 = none) ∧
    ((withReel 7 { state := .held, head := 2 } live).boundSlot 2 = some 7 ∧
      (withReel 7 { state := .held, head := 2 } live).reels[7].state = .held) ∧
    ((withReel 7 { state := .running, head := 2, lastOpened := some 11 } live).boundSlot 2 = some 7 ∧
      (withReel 7 { state := .running, head := 2, lastOpened := some 11 } live).reels[7].lastOpened = some 11) ∧
    ((waitingReel 1).boundSlot 2 = some 7 ∧ (waitingReel 1).reels[7].state = .mounted ∧
      (waitingReel 1).reels[7].lastOpened = some 10 ∧ (waitingReel 1).reels[7].settleRemaining = 1) ∧
    (passesCheck kindFrameHead tall11 = true ∧ (readFrameHead tall11.payload).lines = 3073 ∧
      (waitingReel 0).reels[7].settleRemaining = 0) ∧
    ((allBuffers .queued (waitingReel 0)).freeCount = 0 ∧ (readFrameHead head11.payload).lines = 3 ∧
      (readFrameHead head11.payload).width = 2) :=
  ⟨by decide +kernel, ⟨not_assembling (by decide), by decide +kernel⟩, by decide +kernel, by decide +kernel, by decide +kernel,
    by decide +kernel, by decide +kernel⟩

theorem witness_BufferedFrameTakesTheLowestFreeBuffer :
    (waitingReel 0).links.ports[headPort 2].link = .up ∧ passesCheck kindFrameHead head11 = true ∧
    (∀ b d, (waitingReel 0).intake.heads[(2 : Head)].assembly ≠ .assembling b d) ∧ (waitingReel 0).boundSlot 2 = some 7 ∧
    (waitingReel 0).reels[7].state = .mounted ∧ (waitingReel 0).reels[7].settleRemaining = 0 ∧
    (waitingReel 0).pool.buffers[(0 : Buf)].state = .free ∧ (waitingReel 0).reels[7].lastOpened = some 10 ∧
    readFrameHead head11.payload = ⟨11, 3, 2, [1008]⟩ :=
  ⟨by decide +kernel, by decide +kernel, not_assembling (by decide), by decide +kernel, by decide +kernel, by decide +kernel,
    by decide +kernel, by decide +kernel, by decide +kernel⟩

/-- R28, R41: the frame fills buffer 0, and its one edge is too few for a shrink. -/
theorem test_frame_head_fills_buffer_0 :
    leadsTo (.frameHead 2 head11) (waitingReel 0) (fun t =>
      decide (t.pool.buffers[0].state = .filling ∧ t.pool.buffers[0].frame = 11 ∧ t.reels[7].state = .running ∧
        t.intake.heads[2].assembly = .assembling 0 ⟨11, 3, 2, 7, 12000, [.tooFewEdges]⟩)) = true := by decide +kernel

/-- A RUNNING reel in slot 7 on head 2 that awaits frame 11, its latest frame PENDING in buffer 3, with `n` FREE buffers, the
last ones. -/
def openingAt (n latest : Nat) : State :=
  let s := withReel 7 { state := .running, head := 2, gauge := 1, lastOpened := some 10, settleRemaining := 0, latest := some 3 } live
  withBuffer 3 { state := .pending, slot := 7, frame := latest, successorHold := true, repairTimer := some 2000 } { s with
    pool := { s.pool with buffers := mapEntries (fun i b => if i + n < 32 then { b with state := .done } else b) s.pool.buffers } }

/-- R56 at the low-water mark of 4: five FREE buffers, of which an allocation leaves exactly 4, and four, of which it leaves 3.
R28: a latest frame 10, which frame 11 follows, and a latest frame 9, which it does not. -/
theorem witness_BufferedFrameTakesTheLowestFreeBuffer_mark :
    (∀ n latest : Nat, n ∈ [4, 5] → latest ∈ [9, 10] → let s := openingAt n latest
      s.links.ports[headPort 2].link = .up ∧ s.intake.heads[(2 : Head)].assembly = .idle ∧ s.boundSlot 2 = some 7 ∧
      s.reels[7].state = .running ∧ s.reels[7].settleRemaining = 0 ∧ s.reels[7].lastOpened = some 10 ∧
      s.pool.buffers[Fin.ofNat 32 (32 - n)].state = .free ∧
      (∀ k < (Fin.ofNat 32 (32 - n) : Buf), s.pool.buffers[k].state ≠ .free) ∧
      s.pool.pacing = .open_ ∧ s.freeCount = n ∧ s.pool.lowMark = 4 ∧ s.pool.resumeMark = 10 ∧
      s.reels[7].latest = some 3 ∧ s.pool.buffers[(3 : Buf)].state = .pending ∧ s.pool.buffers[(3 : Buf)].slot = 7 ∧
      s.pool.buffers[(3 : Buf)].delivery = .neverSent ∧ s.pool.buffers[(3 : Buf)].frame = latest ∧
      ∀ i : Buf, i < 3 → s.pool.buffers[i].state ≠ .pending) ∧
    (openingAt 4 9).notices.InRange ∧ passesCheck kindFrameHead head11 = true ∧
    readFrameHead head11.payload = ⟨11, 3, 2, [1008]⟩ := by
  refine ⟨?_, live_notices_inRange, by decide +kernel, by decide +kernel⟩
  intro n latest hn hl
  simp only [List.mem_cons, List.not_mem_nil, or_false] at hn hl
  rcases hn with rfl | rfl <;> rcases hl with rfl | rfl <;> decide +kernel

/-- R28, R56: an allocation that leaves 4 FREE buffers paces nothing, one that leaves 3 does; frame 9 before frame 11 goes to its
repair and loses its successor hold, and frame 10 keeps it. -/
theorem test_opening_at_the_low_water_mark :
    leadsTo (.frameHead 2 head11) (openingAt 5 10) (fun t => decide (t.pool.pacing = .open_ ∧ t.links.ports[2].flow = [] ∧
      t.pool.buffers[3].state = .pending ∧ t.pool.buffers[3].successorHold = true ∧ t.repair.engine = none)) = true ∧
    leadsTo (.frameHead 2 head11) (openingAt 4 9) (fun t => decide (t.pool.pacing = .paced ∧ t.links.ports[2].flow = [.paceHold] ∧
      t.links.ports[1].flow = [] ∧ t.notices.inFlight = some ⟨⟨.poolLow, 0, none, 3, 0⟩, portS⟩ ∧
      t.pool.buffers[3].state = .repair ∧ t.pool.buffers[3].successorHold = false ∧
      t.repair.engine = some ⟨⟨3, none, none⟩, 64, false⟩)) = true := by decide +kernel

theorem witness_OpeningConsumesTheCuesReached :
    sixteenCues.Pairwise (fun a b => a.frame < b.frame) ∧
    (∃ c ∈ sixteenCues, c.frame ≤ 12 ∧ ∀ d ∈ sixteenCues, d.frame ≤ 12 → d.frame ≤ c.frame) ∧
    (∀ c ∈ sixteenCues, 9 < c.frame) := by decide +kernel

/-- A LINE payload of an index and two samples, both of IR value `ir`. -/
def linePayload (l ir : Byte) : List Byte := [l, 0, 2, 0] ++ [1, 0, 2, 0, 3, 0, ir, 0] ++ [4, 0, 5, 0, 6, 0, ir, 0]

/-- Frame 10 of slot 7 in assembly in buffer 4, with frame 9 PENDING in buffer 3 as the latest frame. -/
def afterPending (causes : List Cause) (d : List Deferred) : State :=
  withAssembly 2 (.assembling 4 ⟨10, 3, 2, 7, 12000, causes⟩)
    (withBuffer 3 { state := .pending, slot := 7, lines := 3, width := 2, frame := 9, successorHold := true, repairTimer := some 2000 }
      (withReel 7 { state := .running, head := 2, deferred := d, lastOpened := some 10, latest := some 3, perfRun := 254
                    policy := ⟨2, 12000, .hold, 15⟩ } (midFrame d)))

/-- R30: the oversize line of a frame whose predecessor is PENDING; and run lists at the limit of R66. -/
theorem witness_LineIsTakenByTheFirstTest_oversize :
    ((afterPending [] []).links.ports[headPort 2].link = .up ∧
      (afterPending [] []).intake.heads[(2 : Head)].assembly = .assembling 4 ⟨10, 3, 2, 7, 12000, []⟩ ∧
      passesCheck kindLine (goodCell 0x02 0 (linePayload 3 9)) = true ∧ 3 ≤ fieldAt (linePayload 3 9) 0 2 ∧
      (afterPending [] []).pool.buffers[(4 : Buf)].state = .filling ∧ (afterPending [] []).pool.buffers[(4 : Buf)].successorHold = false ∧
      (afterPending [] []).pool.buffers[(4 : Buf)].neighbourHolds = 0 ∧ (afterPending [] []).reels[7].state = .running) ∧
    ((afterPending [] []).pool.buffers[(3 : Buf)].state = .pending ∧ (afterPending [] []).pool.buffers[(3 : Buf)].slot = 7 ∧
      (∀ i : Buf, i < 3 → ¬ ((afterPending [] []).pool.buffers[i].state = .pending ∧ (afterPending [] []).pool.buffers[i].slot = 7)) ∧
      (afterPending [] []).pool.buffers[(3 : Buf)].delivery = .neverSent ∧ (afterPending [] []).reels[7].latest = some 3) ∧
    ((afterPending [] [.holdReel 1]).reels[7].deferred.map Deferred.holds = [true] ∧
      (afterPending [] [.unmountEnd 1]).reels[7].deferred.map Deferred.ends = [true]) ∧
    (List.replicate 8191 (⟨0, 0, 1⟩ : Run)).length + [(⟨1, 0, 2⟩ : Run)].length = 8192 ∧
    8192 < (List.replicate 8192 (⟨0, 0, 1⟩ : Run)).length + [(⟨1, 0, 2⟩ : Run)].length :=
  ⟨by decide +kernel, by decide +kernel, by decide +kernel, by rw [List.length_replicate]; rfl,
    by rw [List.length_replicate]; decide⟩

theorem witness_LineIsTakenByTheFirstTest :
    ((midFrame []).links.ports[headPort 2].link = .up ∧
      (midFrame []).intake.heads[(2 : Head)].assembly = .assembling 4 ⟨10, 3, 2, 7, 12000, []⟩) ∧
    (passesCheck kindLine (goodCell 0x02 0 (linePayload 2 9)) = true ∧ 2 ≤ (linePayload 2 9).length ∧
      fieldAt (linePayload 2 9) 0 2 = 2 ∧ fieldAt (linePayload 2 9) 2 2 = 2 ∧ 2 ∉ (midFrame []).pool.buffers[4].received) ∧
    passesCheck kindLine (broken (goodCell 0x02 0 (linePayload 3 9))) = false ∧ fieldAt (linePayload 3 9) 0 2 = 3 ∧
    (passesCheck kindLine (goodCell 0x02 0 [2, 0, 0, 0]) = true ∧ fieldAt [2, 0, 0, 0] 2 2 = 0) ∧
    (withBuffer 4 { state := .filling, slot := 7, lines := 3, width := 2, received := [2] } (midFrame [])).pool.buffers[4].received =
      [2] ∧ (∀ b d, live.intake.heads[(2 : Head)].assembly ≠ .assembling b d) :=
  ⟨by decide +kernel, by decide +kernel, by decide +kernel, by decide +kernel, by decide +kernel, by decide +kernel,
    not_assembling (by decide)⟩

/-- R29, R63: a good line of two defective samples is stored and recorded as one run. -/
theorem test_good_line :
    leadsTo (.line 2 (goodCell 0x02 0 (linePayload 2 9))) (midFrame []) (fun t =>
      decide (t.pool.buffers[4].received = [2] ∧ t.pool.buffers[4].runs = [⟨2, 0, 2⟩] ∧ t.pool.buffers[4].defective = 2 ∧
        t.pool.dram[4].read (sampleAddress 2 1) = ⟨4, 5, 6, 9⟩)) = true := by decide +kernel

/-- R29, R64: a line that fails its check is stored as 0 and taken as one run. -/
theorem test_bad_line :
    leadsTo (.line 2 (broken (goodCell 0x02 0 (linePayload 1 9)))) (midFrame []) (fun t =>
      decide (t.pool.buffers[4].received = [1] ∧ t.pool.buffers[4].badLines = 1 ∧ t.pool.buffers[4].runs = [⟨1, 0, 2⟩] ∧
        t.pool.dram[4] = [] ∧ t.intake.heads[2].checkFailures = 1)) = true := by decide +kernel

/-- R30: a line beyond the line count discards the frame. -/
theorem test_oversize_line :
    leadsTo (.line 2 (goodCell 0x02 0 (linePayload 3 9))) (midFrame []) (fun t =>
      decide (t.pool.buffers[4].state = .free ∧ t.intake.heads[2].assembly = .sinking ∧
        t.reels[7].counters.discardedOversize = 1)) = true := by decide +kernel

theorem witness_StoredLineReadsBack : Memory.wf (Memory.writeLine [] 3071 [⟨1, 2, 3, 4⟩]) = true := by decide +kernel

/-- A FRAME-END and a REEL-END cell. -/
def frameEndCell : RxCell := goodCell 0x03 0 []
def reelEndCell : RxCell := goodCell 0x04 0 []

theorem witness_FrameEndAssemblesTheFrame :
    (passesCheck kindFrameEnd (broken frameEndCell) = false ∧ passesCheck kindFrameEnd frameEndCell = true ∧
      (midFrame []).links.ports[headPort 2].link = .up) ∧
    (∀ b d, live.intake.heads[(2 : Head)].assembly ≠ .assembling b d) ∧
    ((midFrame []).intake.heads[(2 : Head)].assembly = .assembling 4 ⟨10, 3, 2, 7, 12000, []⟩ ∧
      (midFrame []).pool.buffers[4].delivery = .neverSent) :=
  ⟨by decide +kernel, not_assembling (by decide), by decide +kernel⟩

/-- Frames whose gap has each of its parts: a perf fault at run 254, every kind of deferred order, and a PENDING frame before
that stands in no lane queue. -/
theorem witness_FrameEndAssemblesTheFrame_gap :
    (let s := afterPending [.tooFewEdges] [.setPolicy 1 ⟨7, 0, .pass, 0⟩, .unmountEnd 2, .holdReel 3]
     (s.intake.heads[(2 : Head)].assembly = .assembling 4 ⟨10, 3, 2, 7, 12000, [.tooFewEdges]⟩ ∧
      s.pool.buffers[(4 : Buf)].delivery = .neverSent ∧ s.pool.buffers[(4 : Buf)].slot = 7 ∧ s.reels[7].state = .running ∧
      s.notices.InRange) ∧
     s.reels[7].deferred.map Deferred.ends = [false, true, false] ∧
     (s.reels[7].latest = some 3 ∧ s.pool.buffers[(3 : Buf)].frame + 1 = s.pool.buffers[(4 : Buf)].frame ∧
      s.pool.buffers[(3 : Buf)].state = .pending ∧ s.pool.buffers[(3 : Buf)].delivery = .neverSent ∧
      ∀ l : Lane, (3 : Buf) ∉ s.delivery.queues[l])) ∧
    passesCheck kindFrameHead head11 = true :=
  ⟨⟨⟨by decide +kernel, by decide +kernel, by decide +kernel, by decide +kernel, live_notices_inRange⟩, by decide +kernel,
    by decide +kernel⟩, by decide +kernel⟩

/-- R11, R42, R51, R72: with every line missing and a bad-line limit of 2 frame 10 is heavy, so the reel is HELD for the heavy
frame, and the run, which has come to its limit of 15, is 0; frame 9 has its repair requested with frame 10 as next and
keeps no successor hold. -/
theorem test_gap_of_a_heavy_frame :
    leadsTo (.frameEnd 2 frameEndCell) { afterPending [.tooFewEdges] [] with defect := ⟨1000, 2⟩ } (fun t => decide (
      t.reels[7].state = .held ∧ t.reels[7].perfRun = 0 ∧ t.reels[7].counters.heavyFrames = 1 ∧ t.reels[7].latest = some 4 ∧
        t.pool.buffers[3].successorHold = false ∧ t.repair.engine = some ⟨⟨3, none, some 4⟩, 64, false⟩ ∧
        (t.notices.inFlight.toList.map InFlight.notice ++ t.notices.waiting).map (fun n => (n.kind, n.detail)) =
          [(.reelHeld, 1), (.heavyFrame, 10), (.perfFault, 3)])) = true := by decide +kernel

/-- R16: a hold, a new policy and an end are applied in order, and the hold behind the end is discarded. -/
theorem test_gap_applies_deferred_orders :
    leadsTo (.frameEnd 2 frameEndCell) { afterPending [] [.setPolicy 1 ⟨7, 0, .pass, 0⟩, .unmountEnd 2, .holdReel 3] with
        defect := ⟨1000, 64⟩ } (fun t => decide (
      t.reels[7].state = .draining ∧ t.reels[7].closeReason = some .unmount ∧ t.reels[7].policy = ⟨7, 0, .pass, 0⟩ ∧
        t.reels[7].deferred = [] ∧ t.reels[7].perfRun = 0 ∧ t.pool.buffers[4].state = .repair ∧
        t.pool.buffers[4].successorHold = false)) = true := by decide +kernel

/-- R31, R71: a frame received whole and clean becomes PENDING with its successor hold and its repair-wait timer. -/
theorem test_clean_frame_is_pending :
    leadsTo (.frameEnd 2 frameEndCell)
      (withBuffer 4 { state := .filling, slot := 7, lines := 3, width := 2, frame := 10, received := [0, 1, 2] } (midFrame [])) (fun t =>
      decide (t.pool.buffers[4].state = .pending ∧ t.pool.buffers[4].successorHold = true ∧
        t.pool.buffers[4].repairTimer = some 2000 ∧ t.reels[7].latest = some 4 ∧ t.reels[7].counters.shortFrames = 0)) = true := by
  decide +kernel

theorem witness_ReelEndDrainsTheBoundReel :
    (passesCheck kindReelEnd (broken reelEndCell) = false ∧ passesCheck kindReelEnd reelEndCell = true ∧
      live.links.ports[headPort 2].link = .up ∧ live.boundSlot 2 = none ∧ atGap.boundSlot 2 = some 7 ∧
      (midFrame []).boundSlot 2 = some 7 ∧
      (midFrame []).intake.heads[(2 : Head)].assembly = .assembling 4 ⟨10, 3, 2, 7, 12000, []⟩ ∧
      (midFrame []).pool.buffers[(4 : Buf)].delivery = .neverSent) ∧
    (((midFrame []).closeFrame 2 4 ⟨10, 3, 2, 7, 12000, []⟩).boundSlot 2 = some 7 ∧
      ((midFrame [.unmountEnd 1]).closeFrame 2 4 ⟨10, 3, 2, 7, 12000, []⟩).boundSlot 2 = none ∧
      (midFrame [.unmountEnd 1]).boundSlot 2 = some 7 ∧ (midFrame [.unmountEnd 1]).reels[7].deferred.map Deferred.ends = [true]) ∧
    ∀ b d, atGap.intake.heads[(2 : Head)].assembly ≠ .assembling b d :=
  ⟨by decide +kernel, by decide +kernel, not_assembling (by decide)⟩

/-- R32: with a deferred UNMOUNT-REEL END the gap drains the reel, and the REEL-END is sunk. -/
theorem test_reel_end_after_a_deferred_end :
    leadsTo (.reelEnd 2 reelEndCell) (midFrame [.unmountEnd 1]) (fun t => decide (
      t.reels[7].closeReason = some .unmount ∧ t.intake.heads[2].sunkCells = 1 ∧ t.reels[7].counters.shortFrames = 1)) = true ∧
    leadsTo (.reelEnd 2 reelEndCell) (midFrame []) (fun t => decide (
      t.reels[7].closeReason = some .reelEnd ∧ t.intake.heads[2].sunkCells = 0 ∧ t.reels[7].counters.framesAssembled = 1)) = true := by
  decide +kernel

/-- R20 to R22: a reel with no buffer closes at its REEL-END, and its ticket is formed. -/
theorem test_reel_end_closes_an_empty_reel :
    leadsTo (.reelEnd 2 reelEndCell) (withRecord 0 { state := .onHead, base := .nitrate, priorScore := 9 } atGap) (fun t =>
      decide (t.reels[7].state = .free ∧ t.catalogue[0].state = .pendingShelf ∧ t.catalogue[0].lastScore = some 9 ∧
        t.shelf.tickets = [⟨0, 0, .classD, none, .awaitingSpace⟩])) = true := by decide +kernel

/-! ### Witnesses: the pool and the repair engine -/

/-- A buffer of slot 7 whose delivery is resolved. -/
def settled (hold : Bool) (holds : Nat) : State :=
  withBuffer 31 { state := .awaitAck, slot := 7, delivery := .resolved, successorHold := hold, neighbourHolds := holds } live

theorem witness_ReleaseTestFreesASettledBuffer :
    live.pool.buffers[(31 : Buf)].delivery ≠ .resolved ∧
    ((settled true 0).pool.buffers[(31 : Buf)].delivery = .resolved ∧ (settled true 0).pool.buffers[(31 : Buf)].successorHold = true) ∧
    0 < (settled false 1).pool.buffers[(31 : Buf)].neighbourHolds ∧
    ((settled false 0).pool.buffers[(31 : Buf)].delivery = .resolved ∧ (settled false 0).pool.buffers[(31 : Buf)].successorHold = false ∧
      (settled false 0).pool.buffers[(31 : Buf)].neighbourHolds = 0) := by decide +kernel

/-- R57: the release that brings the free count to the resume mark opens a PACED pool. -/
theorem test_release_opens_the_pool :
    let s := paced (settled false 0)
    let t := ({ s with pool := { s.pool with resumeMark := 32 } } : State).releaseTest 31
    (t.pool.buffers[31].state, t.pool.pacing, t.links.ports.toList.map PortState.flow) =
      (.free, .open_, [[.paceGo], [.paceGo], [.paceGo], [.paceGo], []]) := by decide +kernel

/-- Frames 9 and 10 of slot 7 in buffers 3 and 4; frame 9 has its successor hold. -/
def twoFrames : State :=
  withBuffer 3 { state := .done, slot := 7, frame := 9, lines := 3, width := 2, successorHold := true, delivery := .resolved }
    (withBuffer 4 { state := .pending, slot := 7, frame := 10, lines := 3, width := 2, successorHold := true, repairTimer := some 2000
                    runs := [⟨1, 0, 1⟩], defective := 1 }
      (withReel 7 { state := .running, head := 2, latest := some 4 } live))

theorem witness_RepairRequestNamesItsNeighbours :
    (let x := twoFrames.pool.buffers
     x[(3 : Buf)].state ≠ .free ∧ x[(3 : Buf)].slot = x[(4 : Buf)].slot ∧ x[(3 : Buf)].frame + 1 = x[(4 : Buf)].frame ∧
      x[(3 : Buf)].successorHold = true ∧
      ∀ i : Buf, i < 3 → ¬ (x[i].state ≠ .free ∧ x[i].slot = x[(4 : Buf)].slot ∧ x[i].frame + 1 = x[(4 : Buf)].frame ∧
        x[i].successorHold = true)) ∧
    (let x := live.pool.buffers
     ∀ k : Buf, ¬ (x[k].state ≠ .free ∧ x[k].slot = x[(4 : Buf)].slot ∧ x[k].frame + 1 = x[(4 : Buf)].frame ∧
      x[k].successorHold = true)) ∧ (none : Option Buf) ≠ some 4 ∧ (none : Option Buf) ≠ some 3 := by decide +kernel

theorem witness_TimersExpireOnlyWhileRunning :
    (twoFrames.pool.buffers[(4 : Buf)].state = .pending ∧ twoFrames.pool.buffers[(4 : Buf)].repairTimer ≠ none) ∧
    live.pool.buffers[(4 : Buf)].repairTimer = none ∧
    ((withBuffer 4 { state := .awaitAck, ackTimer := some 1000, delivery := .awaitingAck } live).pool.buffers[(4 : Buf)].ackTimer ≠ none) ∧
    live.pool.buffers[(4 : Buf)].ackTimer = none := by decide +kernel

/-- R78, R81: the expiry of the repair-wait timer requests the repair, and the idle engine takes it. -/
theorem test_repair_wait_expiry :
    leadsTo (.repairWaitTimerExpiry 4) twoFrames (fun t =>
      decide (t.repair.engine = some ⟨⟨4, some 3, none⟩, 64, false⟩ ∧ t.pool.buffers[4].state = .repair ∧
        t.pool.buffers[3].neighbourHolds = 1 ∧ t.pool.buffers[3].successorHold = false)) = true := by decide +kernel

/-- R139: a frame whose acknowledgement does not come is timed out, and its buffer freed. -/
theorem test_ack_timer_expiry :
    leadsTo (.ackTimerExpiry 4) (withBuffer 4 { state := .awaitAck, slot := 7, ackTimer := some 10, delivery := .awaitingAck } live)
      (fun t => decide (t.pool.buffers[4].state = .free ∧ t.reels[7].counters.framesTimedOut = 1 ∧
        t.notices.inFlight.isSome = true)) = true := by decide +kernel

/-- The engine at work on frame 10 with frame 9 as its prev; sample (1, 0) of frame 9 holds R 7, G 8 and B 9. -/
def repairing : State :=
  { twoFrames with
    pool := { twoFrames.pool with
      buffers := twoFrames.pool.buffers.set 3 { twoFrames.pool.buffers[3] with successorHold := false, neighbourHolds := 1 }
      dram := (twoFrames.pool.dram.set 3 [(4096, ⟨7, 8, 9, 65535⟩)]).set 4 [(4096, ⟨0, 0, 0, 11⟩)] }
    repair := { twoFrames.repair with engine := some ⟨⟨4, some 3, none⟩, 64, false⟩ } }

theorem witness_RepairValuesFollowTheirRules :
    usableSample { offset := 2 } { lines := 3, width := 2, offset := 0 } [] 2 1 = some Sample.zero ∧
    usableSample { offset := 2 } { lines := 3, width := 2, offset := 0, runs := [⟨0, 1, 1⟩] } [] 2 1 = none ∧
    usableSample { offset := 2 } { lines := 3, width := 2, offset := 0 } [] 1 1 = none ∧
    (leftEndpoint [(4096, ⟨1, 2, 3, 4⟩)] ⟨1, 1, 2⟩ = some ⟨1, 2, 3, 4⟩ ∧ leftEndpoint [] ⟨1, 0, 4096⟩ = none ∧
      rightEndpoint [(8191, ⟨1, 2, 3, 4⟩)] 4096 ⟨1, 1, 4094⟩ = some ⟨1, 2, 3, 4⟩ ∧ rightEndpoint [] 4096 ⟨1, 1, 4095⟩ = none) ∧
    (∃ job, repairing.repair.engine = some job ∧ repairing.repairValue job ⟨1, 0, 1⟩ 0 = some ⟨7, 8, 9, 65535⟩ ∧
      temporalValue (repairing.neighbourSample repairing.pool.buffers[(4 : Buf)] none 1 0) none = none) :=
  ⟨by decide +kernel, by decide +kernel, by decide +kernel, by decide +kernel, ⟨_, rfl, by decide +kernel, by decide⟩⟩

theorem witness_RepairCompletionWritesAndMovesOn :
    (∃ job, repairing.repair.engine = some job ∧ (∀ q ∈ repairing.repair.queue, q.buf ≠ job.request.buf) ∧ job.aborted = false ∧
      ((repairing.repairFills job).map Fill.address).Nodup ∧ (repairing.repairFills job).length = 1) ∧
    (∀ b : Buf, repairing.pool.dram[b].wf = true) ∧ live.repair.engine = none ∧
    ((3 : Buf) ≠ 4 ∧ repairing.pool.buffers[(3 : Buf)].neighbourHolds = 1 ∧ repairing.pool.buffers[(3 : Buf)].delivery = .resolved ∧
      repairing.pool.buffers[(3 : Buf)].successorHold = false ∧ ∀ l : Lane, (3 : Buf) ∉ repairing.delivery.queues[l]) :=
  ⟨⟨_, rfl, by decide +kernel, rfl, by decide +kernel, by decide +kernel⟩, by decide +kernel, by decide, by decide +kernel⟩

/-- R85 to R92: the sample is filled from the prev frame with its IR value kept, and the frame joins lane 10 mod 4. -/
theorem test_repair_completion :
    leadsTo .repairCompletion repairing (fun t =>
      decide (t.pool.dram[4] = [(4096, ⟨7, 8, 9, 11⟩)] ∧ t.pool.buffers[4].repaired = 1 ∧ t.pool.buffers[4].unrepaired = 0 ∧
        t.pool.buffers[4].state = .queued ∧ t.pool.buffers[4].lane = some 2 ∧ t.delivery.queues[2] = [4] ∧
        t.pool.buffers[3].state = .free ∧ t.repair.engine = none)) = true := by decide +kernel

/-! ### Witnesses: grading -/

theorem witness_BlackGainAndCurveStages :
    trimInRange (-32) ∧ trimInRange 31 ∧ blackStage 65535 65535 (-32) = 2048 ∧ gainStage 65535 4096 = 65535 ∧
    curveStage 65535 powerOnCurve = 65534 := by
  refine ⟨by simp [trimInRange], by simp [trimInRange], by decide, by decide, by decide +kernel⟩

theorem witness_DitherRaisesAsManyAsTheThreshold :
    65535 / 2 ^ (16 - Depth.d10.bits) = 2 ^ Depth.d10.bits - 1 ∧ 40344 / 2 ^ (16 - Depth.d10.bits) < 2 ^ Depth.d10.bits - 1 ∧
    ditherStage 40344 .d10 true 23 = 631 ∧ ditherStage 40344 .d10 true 24 = 630 := by decide +kernel

theorem witness_OutputLinesAreShiftedByTheOffset :
    ((2 : Nat) : Int) = 0 + (2 : Int) ∧ (outputLine { lines := 3, width := 1, offset := 2 } [(8192, ⟨5, 6, 7, 8⟩)] powerOnProfile 0) =
      [⟨5, 6, 7⟩] ∧ outputLine { lines := 3, width := 1, offset := 2 } [] powerOnProfile 1 = [⟨0, 0, 0⟩] := by decide +kernel

/-! ### Witnesses: delivery -/

/-- Buffer 4 QUEUED on lane 1 and buffer 9 on lane 3, with credits, lane 1 served last. -/
def queuedPart : State :=
  let s := withBuffer 4 { state := .queued, lane := some 1, record := 12, frame := 100 } (withBuffer 9 { state := .queued, lane := some 3 } live)
  { s with delivery := { s.delivery with
      queues := (s.delivery.queues.set 1 [4]).set 3 [9], credits := Vector.replicate 4 14, lastServed := 1 } }

theorem witness_ArbiterStartsTheNextEligibleLane :
    (queuedPart.delivery.transmitter = .idle ∧ queuedPart.links.ports[portS].link = .up ∧ queuedPart.resetLow = false ∧
      (3 : Lane) = queuedPart.delivery.lastServed + 1 + Fin.ofNat 4 1 ∧ queuedPart.delivery.queues[(3 : Lane)] = [9] ∧
      1 ≤ queuedPart.delivery.credits[(3 : Lane)] ∧ queuedPart.delivery.queues[(2 : Lane)] = []) ∧
    (∀ l : Lane, live.delivery.queues[l] = [] ∨ live.delivery.credits[l] = 0) ∧
    passesCheckOnS kindCredit (goodCell 0x29 0 [3, 15]) = true ∧ passesCheckOnS kindCredit (goodCell 0x29 0 [4, 0]) = false := by
  decide +kernel

/-- R130, R131: a CREDIT is held at 15, and the arbiter then starts lane 3 with one credit less. -/
theorem test_credit_starts_a_frame :
    leadsTo (.credit (goodCell 0x29 0 [3, 15])) queuedPart (fun t =>
      decide (t.delivery.credits.toList = [14, 14, 14, 14] ∧ t.delivery.transmitter = .sending 9 0 ∧ t.delivery.lastServed = 3 ∧
        t.wire.length = 1)) = true := by decide +kernel

theorem witness_TheFrameIsSentLineByLine :
    (sendingPart.delivery.transmitter = .sending 3 5 ∧ 5 < sendingPart.pool.buffers[(3 : Buf)].lines ∧ sendingPart.resetLow = false ∧
      sendingPart.links.ports[portS].link = .up ∧ sendingPart.links.ports[portS].transmit = []) ∧
    (let t : State := { sendingPart with delivery := { sendingPart.delivery with transmitter := .sending 3 800 } }
     t.pool.buffers[(3 : Buf)].lines ≤ 800) ∧ (listOf 1).links.ports[0].transmit ≠ [] := by decide +kernel

/-- R135: after the last line the buffer waits for its acknowledgement. -/
theorem test_send_completion :
    leadsTo .sendCompletion { sendingPart with delivery := { sendingPart.delivery with transmitter := .sending 3 800 } } (fun t =>
      decide (t.pool.buffers[3].state = .awaitAck ∧ t.pool.buffers[3].ackTimer = some 1000 ∧ t.delivery.transmitter = .idle)) = true := by
  decide +kernel

/-- Frame 0x030201 of record 0x105 waiting for its acknowledgement in buffer 4. -/
def awaiting : State :=
  withBuffer 4 { state := .awaitAck, record := 0x105, frame := 0x030201, slot := 7, delivery := .awaitingAck, ackTimer := some 1000 } live

theorem witness_StoreAckResolvesTheMatchingFrame :
    (awaiting.links.ports[portS].link = .up ∧ passesCheckOnS kindStoreAck (goodCell 0x28 0 [0, 5, 1, 1, 2, 3]) = true ∧
      awaiting.pool.buffers[(4 : Buf)].state = .awaitAck ∧
      awaiting.pool.buffers[(4 : Buf)].record.val = fieldAt [0, 5, 1, 1, 2, 3] 1 2 ∧
      awaiting.pool.buffers[(4 : Buf)].frame = fieldAt [0, 5, 1, 1, 2, 3] 3 3) ∧
    (∀ k : Buf, live.pool.buffers[k].state ≠ .awaitAck) ∧
    passesCheckOnS kindStoreAck (goodCell 0x28 0 [0, 0, 2, 1, 2, 3]) = false := by decide +kernel

/-- R138: an acknowledgement resolves the frame whatever its lane says, and the buffer is freed. -/
theorem test_store_ack :
    leadsTo (.storeAck (goodCell 0x28 0 [3, 5, 1, 1, 2, 3])) awaiting (fun t =>
      decide (t.pool.buffers[4].state = .free ∧ t.reels[7].counters.framesAcknowledged = 1 ∧ t.delivery.staleAcks = 0)) = true := by
  decide +kernel

/-- A head port with flow cells due and a NOTICE in flight at the head of its transmit list. -/
def waitingCells (flow : List FlowCell) : State :=
  { live with
    notices := { live.notices with inFlight := some ⟨⟨.poolLow, 0, none, 3, 0⟩, 1⟩ }
    links := { live.links with
      ports := live.links.ports.set 1 { link := .up, transmit := [.notice ⟨.poolLow, 0, none, 3, 0⟩ 2], flow := flow } } }

theorem witness_WaitingCellsAreSentInOrder :
    ((listOf 1).links.ports[(0 : Port)].link = .up ∧ (listOf 1).resetLow = false ∧ (listOf 1).links.ports[(0 : Port)].flow = [] ∧
      (listOf 1).links.ports[(0 : Port)].transmit = .reply 0 0 .done [] :: [] ∧ (0 : Port) ≠ portS) ∧
    ((waitingCells []).links.ports[(1 : Port)].transmit = [.notice ⟨.poolLow, 0, none, 3, 0⟩ 2] ∧
      (waitingCells []).notices.inFlight = some ⟨⟨.poolLow, 0, none, 3, 0⟩, 1⟩) ∧
    ((waitingCells [.go, .paceHold]).links.ports[headPort 1].flow = .go :: [.paceHold]) ∧
    (sendingPart.delivery.transmitter = .sending 3 5 ∧ sendingPart.links.boundaryUsed = false) := by decide +kernel

/-- R177: flow cells leave in the order they were formed, before the NOTICE. -/
theorem test_flow_before_notice :
    leadsTo .noticeSent (waitingCells [.go, .paceHold]) (fun t => decide (t.wire = [])) = true ∧
    leadsTo (.flowCellSent 1) (waitingCells [.go, .paceHold]) (fun t =>
      decide (t.links.ports[1].flow = [.paceHold] ∧ t.wire.map (fun c => c.bytes.head?) = [some 0x11])) = true := by decide +kernel

theorem witness_OrdersAreQueuedAndOtherKindsSunk :
    (passesCheck kindOrder (goodCell 0x30 0 [7, 0, 32, 0]) = true ∧ live.links.ports[(4 : Port)].orders.length < 4 ∧
      passesCheck kindOrder (broken (goodCell 0x30 0 [7, 0, 32, 0])) = false) ∧
    (let q : PortState := { link := .up, orders := List.replicate 4 ⟨1, 32, []⟩ }
     4 ≤ q.orders.length ∧ q.transmit.length < 8 ∧ 8 ≤ (listOf 8).links.ports[(0 : Port)].transmit.length) ∧
    (kindHandled 0 0x28 = false ∧ passesCheck 0x28 (goodCell 0x28 0 [0, 0, 0, 0, 0, 0]) = true ∧
      passesCheck 0x77 (broken (goodCell 0x77 0 [])) = false ∧ kindHandled 4 0x77 = false) := by decide +kernel

/-- R179: a fifth order is answered OVERFLOW at once. -/
theorem test_order_overflow :
    leadsTo (.order 2 (goodCell 0x30 0 [9, 0, 32, 0])) { live with links := { live.links with
      ports := live.links.ports.set 2 { link := .up, orders := List.replicate 4 ⟨1, 32, []⟩ } } } (fun t =>
        decide (t.links.ports[2].transmit = [.reply 9 32 .overflow []] ∧ t.links.ports[2].overflow = 1)) = true := by
  decide +kernel

/-! ### Witnesses: closing and reshelving -/

theorem witness_ClosedReelIsScoredAndTicketed :
    ({ priorScore := 1000 } : Record).priorScore ≤ 1000 ∧
    (withReel 7 { state := .draining, closeReason := some .abort } live).reels[7].closeReason = some .abort ∧
    live.shelf.tickets.length < 16 ∧
    16 ≤ (withTickets ((List.range 16).map fun i => ⟨BitVec.ofNat 16 i, 0, .classA, none, .awaitingSpace⟩) live).shelf.tickets.length := by
  decide +kernel

theorem witness_FormedTicketTakesTheNextFreeNumber :
    vault.shelf.tickets.length < 16 ∧ vault.shelf.tickets.Pairwise (fun a b => a.number ≠ b.number) ∧
    (withRecord 0 { lastClass := some .classC } vault).catalogue[(withRecord 0 { lastClass := some .classC } vault).reels[7].record].lastClass =
      some .classC ∧
    (allocate vault.shelf.positions none .classB (some 10) = some 14 ∧ (10 : PositionNo) ≠ 14 ∧
      allocate vault.shelf.positions none .classB none = some 14 ∧ allocate vault.shelf.positions none .classD (some 10) = none) := by
  decide +kernel

/-- R165, R167: the ticket of a class B reel whose home is the class A position 10 wins position 14, and its home is freed. -/
theorem test_formed_ticket_frees_its_home :
    let s := withRecord 0 { state := .onHead, lastClass := some .classB, position := some 10 }
      (withPosition 10 ⟨some .classA, .reserved, some 0, false⟩ vault)
    let t := s.formTicket 7
    (t.shelf.positions[14], t.shelf.positions[10], t.catalogue[0].position, t.shelf.tickets.map Ticket.state) =
      (⟨some .classB, .reserved, some 0, false⟩, ⟨some .classA, .free, none, false⟩, some 14,
        [.issued, .taken, .awaitingSpace, .issued]) := by decide +kernel

/-- R165 step 4: a formation that frees a locked home, position 10, makes its pass, and ticket 40, which waits after its refusal
of position 12, is then given that position (R172). -/
theorem test_a_freed_locked_home_makes_a_pass :
    let s := withTickets [⟨40, 60, .classA, none, .awaitingSpace⟩] (withRecord 60 { state := .pendingShelf, base := .acetate }
      (withRecord 0 { state := .onHead, lastClass := some .classB, position := some 10 }
        (withPosition 10 ⟨some .classA, .reserved, some 0, true⟩ (withPosition 12 ⟨some .classA, .free, none, false⟩
          (withPosition 14 ⟨some .classB, .free, none, false⟩ live)))))
    let t := s.formTicket 7
    (t.shelf.positions[10], t.shelf.tickets.map fun x => (x.state, x.position)) =
      (⟨some .classA, .free, none, true⟩, [(.issued, some 12), (.issued, some 14)]) := by decide +kernel

/-- R164: the ticket numbers in the queue are passed over, and the number after 65535 is 0. -/
theorem test_ticket_numbers_wrap :
    let s := withTickets [⟨65535, 3, .classA, none, .awaitingSpace⟩] (withRecord 0 { lastClass := some .classC } live)
    let t := ({ s with shelf := { s.shelf with nextNumber := 65535 } } : State).formTicket 7
    (t.shelf.tickets.map Ticket.number, t.shelf.nextNumber) = ([65535, 0], 1) := by decide +kernel

/-- One FREE unlocked position of class B, number 0. -/
def oneFree : Vector Position 1024 := (withPosition 0 ⟨some .classB, .free, none, false⟩ live).shelf.positions

theorem witness_AllocationSearchesHomeThenColderClasses :
    (oneFree[(0 : PositionNo)] = ⟨some .classB, .free, none, false⟩ ∧ (none : Option PositionNo) ≠ some 0) ∧
    (∀ k : PositionNo, k < 0 → oneFree[k].state ≠ .free) ∧ (∀ k : PositionNo, live.shelf.positions[k].cls = none) :=
  ⟨by decide +kernel, fun k h => absurd h (Fin.not_lt_zero k), fun k => by simp [live, State.reset]⟩

theorem witness_RetryPassesServeTheOldestFirst :
    vault.shelf.tickets.Pairwise (fun a b => a.number ≠ b.number) ∧
    (let s := withPosition 17 ⟨some .classC, .free, none, false⟩ vault
     ∃ x, s.shelf.tickets = s.shelf.tickets.take 2 ++ x :: [] ∧ x.state = .awaitingSpace ∧ s.allocateFor none x = some 17 ∧
       ∀ y ∈ s.shelf.tickets.take 2, y.state ≠ .awaitingSpace) ∧ (∀ x ∈ vault.shelf.tickets.take 2, x.state ≠ .awaitingSpace) :=
  ⟨by decide, ⟨_, rfl, rfl, by decide +kernel, by decide⟩, by decide⟩

end Sys2Proof.Tests
end

section
/-! PROOFS. The ranges of `State.InRange` under every operation of the model: one lemma for each, in the order of the
definitions, and from them the settlement of O4's and O5's ranges. -/

namespace Sys2Proof.Machine

/-! ### Records with the same ranged fields -/

/-- The fields of a reel that `Reel.InRange` speaks of. -/
def Reel.ranged (x : Reel) :
    Policy × Grade × List Cue × List Deferred × Option Nat × Nat × Option Int × Int × Nat :=
  (x.policy, x.grade, x.cues, x.deferred, x.lastOpened, x.settleRemaining, x.shrinkEstimate, x.lastOffset, x.perfRun)

theorem Reel.InRange.of_same {x y : Reel} (h : x.InRange) (e : y.ranged = x.ranged) : y.InRange := by
  obtain ⟨policy, grade, ⟨few, ascending, ahead⟩, cueFields, fewDeferred, deferred, lastOpened, settle, shrink, offset, perf⟩ := h
  simp only [Reel.ranged, Prod.mk.injEq] at e
  obtain ⟨ep, eg, ec, ed, el, es, ek, eo, er⟩ := e
  constructor
  case cues => exact ⟨by rwa [ec], by rwa [ec], by rwa [ec, el]⟩
  all_goals simp only [ep, eg, ec, ed, el, es, ek, eo, er]; assumption

/-- The fields of a buffer that `Buffer.InRange` speaks of. -/
def Buffer.ranged (x : Buffer) : Nat × Nat × Nat × List Run × Int × Grade :=
  (x.frame, x.lines, x.width, x.runs, x.offset, x.grade)

theorem Buffer.InRange.of_same {x y : Buffer} (h : x.InRange) (e : y.ranged = x.ranged) : y.InRange := by
  simp only [Buffer.ranged, Prod.mk.injEq] at e
  obtain ⟨ef, el, ew, er, eo, eg⟩ := e
  constructor
  · rw [ef]; exact h.frame
  · rw [el]; exact h.lines
  · rw [ew]; exact h.width
  · rw [er]; exact h.runs
  · rw [eo]; exact h.offset
  · rw [eg]; exact h.grade

/-- A record that changes only in its state, its ppm, its reason and its position stays in range. -/
theorem Record.InRange.of_same {x y : Record} (h : x.InRange)
    (e : (y.identity, y.vinegar, y.priorScore, y.lastScore, y.lastShrink, y.scanCount) =
      (x.identity, x.vinegar, x.priorScore, x.lastScore, x.lastShrink, x.scanCount)) : y.InRange := by
  simp only [Prod.mk.injEq] at e
  obtain ⟨ei, ev, ep, es, ek, ec⟩ := e
  constructor
  · rw [ei]; exact h.identity
  · rw [ev]; exact h.vinegar
  · rw [ep]; exact h.priorScore
  · rw [es]; exact h.lastScore
  · rw [ek]; exact h.lastShrink
  · rw [ec]; exact h.scanCount

/-! ### One entry changed -/

section OneEntry

variable {s : State} (hs : s.InRange)
include hs

theorem State.InRange.modReel (r : Slot) {f : Reel → Reel} (hf : s.reels[r].InRange → (f s.reels[r]).InRange) :
    (s.modReel r f).InRange :=
  { hs with reels := modEntry_forall hs.reels r hf }

theorem State.InRange.countReel (r : Slot) (f : ReelCounters → ReelCounters) : (s.countReel r f).InRange :=
  hs.modReel r fun h => h.of_same rfl

theorem State.InRange.modHead (h : Head) (f : HeadIntake → HeadIntake) : (s.modHead h f).InRange := { hs with }

theorem State.InRange.modBuffer (b : Buf) {f : Buffer → Buffer}
    (hf : s.pool.buffers[b].InRange → (f s.pool.buffers[b]).InRange) : (s.modBuffer b f).InRange :=
  { hs with buffers := modEntry_forall hs.buffers b hf }

theorem State.InRange.modMemory (b : Buf) (f : Memory → Memory) : (s.modMemory b f).InRange := { hs with }

theorem State.InRange.modRecord (i : RecordNo) {f : Record → Record}
    (hf : s.catalogue[i].InRange → (f s.catalogue[i]).InRange) : (s.modRecord i f).InRange :=
  { hs with catalogue := modEntry_forall hs.catalogue i hf }

theorem State.InRange.modPosition (q : PositionNo) (f : Position → Position) : (s.modPosition q f).InRange := { hs with }

theorem State.InRange.modPort (p : Port) {f : PortState → PortState}
    (hf : s.links.ports[p].InRange → (f s.links.ports[p]).InRange) : (s.modPort p f).InRange :=
  { hs with ports := modEntry_forall hs.ports p hf }

theorem State.InRange.modTicket (n : BitVec 16) (f : Ticket → Ticket) : (s.modTicket n f).InRange :=
  { hs with tickets := by simpa using hs.tickets }

theorem State.InRange.modQueue (l : Lane) (f : List Buf → List Buf) : (s.modQueue l f).InRange := { hs with }

end OneEntry

/-! ### The notice unit -/

/-- A property of the placed notice, kept by the join, holds of every notice of the list after the placing. -/
theorem placeNotice_forall {P : Notice → Prop} {n : Notice} {join : Notice → Notice} (hn : P n) (hj : ∀ m, P m → P (join m))
    {l : List Notice} (hl : ∀ m ∈ l, P m) : ∀ m ∈ placeNotice n join l, P m := by
  induction l with
  | nil => simpa [placeNotice] using hn
  | cons a l ih =>
    obtain ⟨ha, hl⟩ := List.forall_mem_cons.1 hl
    unfold placeNotice
    split
    · exact List.forall_mem_cons.2 ⟨hj a ha, hl⟩
    · split
      · exact List.forall_mem_cons.2 ⟨hn, List.forall_mem_cons.2 ⟨ha, hl⟩⟩
      · exact List.forall_mem_cons.2 ⟨ha, ih hl⟩

/-- The placing of a notice keeps the table order (R184). -/
theorem placeNotice_sorted {n : Notice} {join : Notice → Notice} (hj : ∀ m, (join m).key = m.key) {l : List Notice}
    (hl : l.Pairwise fun a b => a.key < b.key) : (placeNotice n join l).Pairwise fun a b => a.key < b.key := by
  induction l with
  | nil => simp [placeNotice]
  | cons a l ih =>
    have hal := List.pairwise_cons.1 hl
    unfold placeNotice
    split
    · exact List.pairwise_cons.2 ⟨fun b hb => by rw [hj]; exact hal.1 b hb, hal.2⟩
    · split
      · rename_i hlt
        exact List.pairwise_cons.2 ⟨List.forall_mem_cons.2 ⟨hlt, fun b hb => hlt.trans (hal.1 b hb)⟩, hl⟩
      · refine List.pairwise_cons.2 ⟨?_, ih hal.2⟩
        exact placeNotice_forall (P := fun b => a.key < b.key) (by omega) (fun m hm => by rwa [hj]) hal.1

theorem NoticeUnit.InRange.place {u : NoticeUnit} (hu : u.InRange) {n : Notice} {join : Notice → Notice}
    (hc : n.count ≤ 255) (hi : n.inst < 8) (hkind : ∀ m, (join m).kind = m.kind) (hinst : ∀ m, (join m).inst = m.inst)
    (hcount : ∀ m, (join m).count ≤ 255) : ({ u with waiting := placeNotice n join u.waiting } : NoticeUnit).InRange :=
  { hu with
    sorted := placeNotice_sorted (fun m => by simp [Notice.key, hkind, hinst]) hu.sorted
    counts := placeNotice_forall hc (fun m _ => hcount m) hu.counts
    instances := placeNotice_forall hi (fun m hm => by rwa [hinst]) hu.instances }

theorem NoticeUnit.choose_mem {u : NoticeUnit} {l : List Notice} {n : Notice} (h : u.choose l = some n) : n ∈ l := by
  induction l with
  | nil => simp [NoticeUnit.choose] at h
  | cons a l ih =>
    unfold NoticeUnit.choose at h
    split at h
    · split at h <;> simp_all
    · split at h <;> simp_all

section Cells

variable {s : State} (hs : s.InRange)
include hs

theorem State.InRange.setNotices {u : NoticeUnit} (hu : u.InRange) : ({ s with notices := u } : State).InRange :=
  { hs with notices := hu }

theorem State.InRange.raise {k : NoticeKind} {i : Nat} (hi : i < 8) (c : Option RecordNo) (d : Nat) :
    (s.raise k i c d).InRange :=
  hs.setNotices (hs.notices.place (by simp) hi (fun _ => rfl) (fun _ => rfl) fun _ => Nat.min_le_left _ _)

theorem State.InRange.formFlow (h : Head) (c : FlowCell) : (s.formFlow h c).InRange := by
  unfold State.formFlow
  split <;> exact hs.modPort _ fun h => h

theorem State.InRange.formReply (p : Port) (g : BitVec 16) (c : Byte) (x : Status) (ws : List Word) :
    (s.formReply p g c x ws).InRange := by
  unfold State.formReply
  split
  · rename_i h
    simp only [Bool.and_eq_true, decide_eq_true_eq] at h
    exact hs.modPort p fun hp => ⟨hp.1, by simpa using h.2⟩
  · exact hs.modPort p fun h => h

theorem State.InRange.sendCell (p : Port) (k : Byte) (x : List Byte) : (s.sendCell p k x).InRange :=
  { hs.modPort p fun h => h with }

theorem State.InRange.giveNotice {n : Notice} (hn : n ∈ s.notices.waiting)
    (hroom : s.links.ports[s.notices.port].transmit.length < Config.maxTransmit) : (s.giveNotice n).InRange := by
  refine { hs.modPort s.notices.port fun hp => ⟨hp.1, by simpa using hroom⟩ with notices := ?_ }
  exact { hs.notices with
    sorted := hs.notices.sorted.filter _
    counts := fun m hm => hs.notices.counts m (List.mem_of_mem_filter hm)
    instances := fun m hm => hs.notices.instances m (List.mem_of_mem_filter hm)
    inFlight := by
      rintro f ⟨⟩
      exact ⟨hs.notices.counts n hn, hs.notices.instances n hn⟩ }

theorem State.InRange.handOver : s.handOver.InRange := by
  unfold State.handOver
  split
  · rename_i h
    simp only [Bool.and_eq_true, decide_eq_true_eq] at h
    split
    · exact hs
    · rename_i hn
      exact hs.giveNotice (NoticeUnit.choose_mem hn) h.2
  · exact hs

theorem State.InRange.clearInFlight : ({ s with notices := { s.notices with inFlight := none } } : State).InRange :=
  hs.setNotices { hs.notices with inFlight := by simp }

theorem State.InRange.returnNotice (p : Port) : (s.returnNotice p).InRange := by
  unfold State.returnNotice
  split
  · exact hs
  · rename_i f hf
    obtain ⟨hcount, hinst⟩ := hs.notices.inFlight f hf
    split
    · refine (hs.setNotices (hs.notices.place hcount hinst ?_ ?_ ?_)).clearInFlight <;> intro m
      · rfl
      · rfl
      · exact Nat.min_le_left _ _
    · exact hs

end Cells

/-! ### The shelf map and the close of a reel -/

section Shelf

variable {s : State} (hs : s.InRange)
include hs

/-- The shelf map replaced by one with as few tickets. -/
theorem State.InRange.setShelf {m : Shelf} (hm : m.tickets.length ≤ Config.maxTickets) :
    ({ s with shelf := m } : State).InRange :=
  { hs with tickets := hm }

theorem State.InRange.issueTicket (t : Ticket) (q : PositionNo) : (s.issueTicket t q).InRange := by
  have home : State.InRange (match s.catalogue[t.record].position with
      | some h => if h = q then s else s.modPosition h Position.freed
      | none => s) := by
    split
    · split <;> [exact hs; exact hs.modPosition _ _]
    · exact hs
  exact (((home.modPosition _ _).modRecord _ fun h => h.of_same rfl).modTicket _ _).raise (by decide) _ _

theorem State.InRange.leaveWaiting (t : Ticket) : (s.leaveWaiting t).InRange :=
  (hs.modTicket _ _).raise (by decide) _ _

omit hs in
theorem retryPasses_inRange (x : Option (BitVec 16 × PositionNo)) (n : Nat) {s : State} (hs : s.InRange) :
    (retryPasses x n s).InRange := by
  induction n generalizing s with
  | zero => exact hs
  | succ n ih => unfold retryPasses; split <;> [exact hs; exact ih (hs.issueTicket _ _)]

theorem State.InRange.retryPass (x : Option (BitVec 16 × PositionNo)) : (s.retryPass x).InRange :=
  retryPasses_inRange x _ hs

theorem State.InRange.allocateTicket (x : Option (BitVec 16 × PositionNo)) (t : Ticket) :
    (s.allocateTicket x t).InRange := by
  unfold State.allocateTicket
  split
  · exact hs.leaveWaiting t
  · split <;> [exact (hs.issueTicket _ _).retryPass x; exact hs.issueTicket _ _]

theorem State.InRange.formTicket (r : Slot) (hroom : s.shelf.tickets.length < Config.maxTickets) :
    (s.formTicket r).InRange := by
  have joined := hs.setShelf (m := { s.shelf with
    tickets := s.shelf.tickets ++ [s.newTicket r], nextNumber := (s.newTicket r).number + 1 }) (by simpa using hroom)
  exact ((joined.modRecord _ fun h => h.of_same rfl).allocateTicket none _).modReel r fun h => h.of_same rfl

omit hs in
theorem conditionScore_le (x : Reel) {record : Record} (h : record.priorScore ≤ 1000) : conditionScore x record ≤ 1000 := by
  unfold conditionScore
  dsimp only
  split <;> omega

omit hs in
theorem closedRecord_inRange {x : Reel} {record : Record} (hx : x.InRange) (h : record.InRange) :
    (closedRecord x record).InRange :=
  { h with
    lastScore := by
      rintro n ⟨⟩
      exact conditionScore_le x h.priorScore
    lastShrink := hx.shrinkEstimate
    scanCount := Nat.min_le_left _ _ }

theorem State.InRange.closeReel (r : Slot) : (s.closeReel r).InRange := by
  have closed : State.InRange (((s.modReel r fun x => { x with state := .closed }).raise .reelClosed r.val
      (some s.reels[r].record) s.reels[r].closeDetail).modRecord s.reels[r].record (closedRecord s.reels[r])) :=
    ((hs.modReel r fun h => h.of_same rfl).raise r.isLt _ _).modRecord _ (closedRecord_inRange (hs.reels r))
  unfold State.closeReel
  dsimp only
  split
  · rename_i hroom
    exact closed.formTicket r hroom
  · exact closed.setShelf closed.tickets

theorem State.InRange.closeIfEmpty (r : Slot) : (s.closeIfEmpty r).InRange := by
  unfold State.closeIfEmpty
  split <;> [exact hs.closeReel r; exact hs]

end Shelf

/-! ### The pool -/

/-- A loop of one operation that keeps the ranges keeps them. -/
theorem foldl_inRange {α : Type} {f : State → α → State} (h : ∀ s a, s.InRange → (f s a).InRange) (l : List α) {s : State}
    (hs : s.InRange) : (l.foldl f s).InRange := by
  induction l generalizing s with
  | nil => exact hs
  | cons a l ih => exact ih (h s a hs)

section Pool

variable {s : State} (hs : s.InRange)
include hs

theorem State.InRange.setPacing (x : Pacing) : ({ s with pool := { s.pool with pacing := x } } : State).InRange :=
  { hs with }

theorem State.InRange.flowToHeads (c : FlowCell) (p : Head → Bool) : (s.flowToHeads c p).InRange :=
  foldl_inRange (fun _ _ h => h.formFlow _ _) _ hs

theorem State.InRange.becomePaced : s.becomePaced.InRange :=
  ((hs.setPacing .paced).flowToHeads _ _).raise (by decide) _ _

theorem State.InRange.becomeOpen : s.becomeOpen.InRange :=
  ((hs.setPacing .open_).flowToHeads _ _).raise (by decide) _ _

theorem State.InRange.paceFall : s.paceFall.InRange := by
  unfold State.paceFall
  split <;> [exact hs.becomePaced; exact hs]

theorem State.InRange.paceRise : s.paceRise.InRange := by
  unfold State.paceRise
  split <;> [exact hs.becomeOpen; exact hs]

theorem State.InRange.tellPaced (h : Head) : (s.tellPaced h).InRange := by
  unfold State.tellPaced
  split <;> [exact hs.formFlow _ _; exact hs]

theorem State.InRange.forgetLatest (b : Buf) : (s.forgetLatest b).InRange := by
  unfold State.forgetLatest
  dsimp only
  split <;> [exact hs.modReel _ fun h => h.of_same rfl; exact hs]

theorem State.InRange.release (b : Buf) : (s.release b).InRange :=
  (((hs.modBuffer b fun h => h.of_same rfl).forgetLatest b).closeIfEmpty _).paceRise

theorem State.InRange.releaseTest (b : Buf) : (s.releaseTest b).InRange := by
  unfold State.releaseTest
  split
  · exact hs
  · split <;> [exact hs.modBuffer b fun h => h.of_same rfl; exact hs.release b]

theorem State.InRange.clearSuccessor (b : Buf) : (s.clearSuccessor b).InRange := by
  unfold State.clearSuccessor
  split <;> [exact (hs.modBuffer b fun h => h.of_same rfl).releaseTest b; exact hs]

theorem State.InRange.clearLatestHold (r : Slot) : (s.clearLatestHold r).InRange := by
  unfold State.clearLatestHold
  split <;> [exact hs.clearSuccessor _; exact hs]

theorem State.InRange.releaseNeighbour (b : Buf) : (s.releaseNeighbour b).InRange := by
  have less : State.InRange (s.modBuffer b fun x => { x with neighbourHolds := x.neighbourHolds - 1 }) :=
    hs.modBuffer b fun h => h.of_same rfl
  unfold State.releaseNeighbour
  dsimp only
  split <;> [exact less.releaseTest b; exact less]

theorem State.InRange.releaseNeighbours (q : RepairRequest) : (s.releaseNeighbours q).InRange := by
  have prev : State.InRange (match q.prev with
      | some b => s.releaseNeighbour b
      | none => s) := by
    split <;> [exact hs.releaseNeighbour _; exact hs]
  unfold State.releaseNeighbours
  dsimp only
  split <;> [exact prev.releaseNeighbour _; exact prev]

end Pool

/-! ### Delivery and repair -/

section Delivery

variable {s : State} (hs : s.InRange)
include hs

/-- The delivery unit replaced by one with the same credits and ack wait. -/
theorem State.InRange.setDelivery {d : DeliveryUnit} (hc : ∀ l : Lane, d.credits[l] ≤ Config.maxCredit)
    (hw : d.ackWait = s.delivery.ackWait) : ({ s with delivery := d } : State).InRange :=
  { hs with credits := hc, ackWait := by rw [hw]; exact hs.ackWait }

/-- The link ports' own counters and marks changed. -/
theorem State.InRange.setLinks {k : LinkPorts} (hk : ∀ p : Port, k.ports[p].InRange) :
    ({ s with links := k } : State).InRange :=
  { hs with ports := hk }

theorem State.InRange.startSend (l : Lane) (b : Buf) : (s.startSend l b).InRange := by
  have spent := hs.setDelivery (d := { s.delivery with
    credits := modEntry s.delivery.credits l fun c => c - 1
    lastServed := l
    queues := modEntry s.delivery.queues l fun q => q.drop 1
    transmitter := .sending b 0 })
    (modEntry_forall (P := (· ≤ Config.maxCredit)) hs.credits l fun h => (Nat.sub_le _ _).trans h) rfl
  have sending := spent.modBuffer b (f := fun x => { x with state := .sending }) fun h => h.of_same rfl
  exact (sending.setLinks (k := { s.links with boundaryUsed := false }) hs.ports).sendCell _ _ _

theorem State.InRange.arbiterSearch : s.arbiterSearch.InRange := by
  unfold State.arbiterSearch
  split
  · split
    · exact hs
    · split <;> [exact hs; exact hs.startSend _ _]
  · exact hs

theorem State.InRange.joinLane (b : Buf) : (s.joinLane b).InRange :=
  ((hs.modBuffer b fun h => h.of_same rfl).modQueue _ _).arbiterSearch

theorem State.InRange.leaveLanes (b : Buf) : (s.leaveLanes b).InRange := { hs with }

/-- The repair unit with another queue and engine. -/
theorem State.InRange.setRepair (queue : List RepairRequest) (engine : Option RepairJob) :
    ({ s with repair := { s.repair with queue := queue, engine := engine } } : State).InRange :=
  { hs with }

theorem State.InRange.engineTake : s.engineTake.InRange := by
  unfold State.engineTake
  split <;> [exact hs.setRepair _ _; exact hs]

theorem State.InRange.requestRepair (b : Buf) (next : Option Buf) : (s.requestRepair b next).InRange := by
  have kept : ∀ p : Option Buf, State.InRange (match p with
      | some p => s.modBuffer p fun x => { x with successorHold := false, neighbourHolds := x.neighbourHolds + 1 }
      | none => s) := by
    rintro (_ | p) <;> [exact hs; exact hs.modBuffer p fun h => h.of_same rfl]
  have added : ∀ (n : Option Buf) {s : State}, s.InRange → State.InRange (match n with
      | some n => s.addNeighbour n
      | none => s) := by
    rintro (_ | n) s hs <;> [exact hs; exact hs.modBuffer n fun h => h.of_same rfl]
  exact (((added next (kept _)).modBuffer b fun h => h.of_same rfl).setRepair _ _).engineTake

theorem State.InRange.requestPending (r : Slot) : (s.requestPending r).InRange := by
  unfold State.requestPending
  split <;> [exact hs.requestRepair _ _; exact hs]

theorem State.InRange.discardedNext (r : Slot) : (s.discardedNext r).InRange :=
  (hs.requestPending r).clearLatestHold r

theorem State.InRange.abandonRepair : s.abandonRepair.InRange := by
  unfold State.abandonRepair
  split <;> [exact hs; exact { hs with }]

theorem State.InRange.withdrawRequests (b : Buf) : (s.withdrawRequests b).InRange :=
  foldl_inRange (fun _ _ h => h.releaseNeighbours _) _ (hs.setRepair _ s.repair.engine)

theorem State.InRange.discard (b : Buf) : (s.discard b).InRange :=
  ((((hs.withdrawRequests b).leaveLanes b).forgetLatest b).modBuffer b fun h => h.of_same rfl).releaseTest b

end Delivery


/-! ### Lines and the frame gap -/

theorem Buffer.InRange.addRuns {x : Buffer} (h : x.InRange) (runs : List Run) (n : Nat) : (x.addRuns runs n).InRange :=
  { h with
    runs := by
      have := h.runs
      unfold Buffer.addRuns
      dsimp only
      split
      · exact this
      · rw [List.length_append, List.length_take]; omega }

section Frames

variable {s : State} (hs : s.InRange)
include hs

theorem State.InRange.takeGoodLine (b : Buf) (threshold l : Nat) (xs : List Sample) :
    (s.takeGoodLine b threshold l xs).InRange :=
  (hs.modMemory b _).modBuffer b fun h => (h.addRuns _ (xs.countP (isDefective threshold))).of_same rfl

theorem State.InRange.takeBadLine (b : Buf) (l : Nat) : (s.takeBadLine b l).InRange :=
  (hs.modMemory b _).modBuffer b fun h => (h.addRuns _ s.pool.buffers[b].width).of_same rfl

theorem State.InRange.takeHold (r : Slot) (cause : Nat) : (s.takeHold r cause).InRange := by
  unfold State.takeHold
  dsimp only
  split
  · exact ((((hs.modReel r fun h => h.of_same rfl).formFlow _ _).raise r.isLt _ _).requestPending r).clearLatestHold r
  · exact hs

omit hs in
/-- A reel whose cue list and deferred list become empty stays in range. -/
theorem Reel.InRange.emptied {x y : Reel} (h : x.InRange)
    (e : y.ranged = { x with cues := [], deferred := [] }.ranged) : y.InRange :=
  Reel.InRange.of_same (x := { x with cues := [], deferred := [] })
    { h with
      cues := ⟨by simp, .nil, by simp⟩
      cueFields := by simp
      fewDeferred := by simp
      deferred := by simp } e

/-- The record of a reel that enters DRAINING (R16, R20). -/
theorem State.InRange.modReelDraining (r : Slot) (c : CloseReason) :
    (s.modReel r fun x => { x with state := .draining, closeReason := some c, cues := [], deferred := [] }).InRange :=
  hs.modReel r fun h => h.emptied rfl

theorem State.InRange.enterDraining (r : Slot) (c : CloseReason) : (s.enterDraining r c).InRange :=
  (((hs.modReelDraining r c).requestPending r).clearLatestHold r).closeIfEmpty r

theorem State.InRange.applyPolicy (r : Slot) {p : Policy} (hp : p.InRange) : (s.applyPolicy r p).InRange := by
  refine hs.modReel r fun h => { h with policy := hp, cues := ⟨h.cues.few, h.cues.ascending, h.cues.ahead⟩, settleRemaining := ?_ }
  dsimp only
  split <;> [exact hp.1; exact h.settleRemaining]

omit hs in
theorem applyDeferred_inRange (r : Slot) {l : List Deferred} (hl : ∀ d ∈ l, d.InRange) {s : State} (hs : s.InRange) :
    (applyDeferred r l s).InRange := by
  induction l generalizing s with
  | nil => exact hs
  | cons d l ih =>
    have hd := hl d (by simp)
    replace hl := fun e he => hl e (List.mem_cons_of_mem d he)
    cases d with
    | holdReel _ => exact ih hl (hs.takeHold r 0)
    | unmountEnd _ => exact hs.enterDraining r .unmount
    | setPolicy _ p => exact ih hl (hs.applyPolicy r hd)

theorem State.InRange.applyDeferredOrders (r : Slot) : (s.applyDeferredOrders r).InRange :=
  applyDeferred_inRange r (hs.reels r).deferred <| hs.modReel r fun h =>
    { h with cues := ⟨h.cues.few, h.cues.ascending, h.cues.ahead⟩, fewDeferred := by simp, deferred := by simp }

omit hs in
theorem Reel.InRange.setPerfRun {x y : Reel} (h : x.InRange) {n : Nat} (hn : n ≤ 255)
    (e : y.ranged = { x with perfRun := n }.ranged) : y.InRange :=
  Reel.InRange.of_same (x := { x with perfRun := n })
    { h with cues := ⟨h.cues.few, h.cues.ascending, h.cues.ahead⟩, perfRun := hn } e

theorem State.InRange.internalHolds (r : Slot) (heavy perfFault : Bool) : (s.internalHolds r heavy perfFault).InRange := by
  unfold State.internalHolds
  dsimp only
  split
  · split
    · split
      · exact (hs.takeHold r _).modReel r fun h => h.setPerfRun (Nat.zero_le _) rfl
      · exact hs.takeHold r _
    · exact hs
  · exact hs

theorem State.InRange.perfUpdate (r : Slot) (causes : List Cause) : (s.perfUpdate r causes).InRange := by
  unfold State.perfUpdate
  split
  · exact hs.modReel r fun h => h.setPerfRun (Nat.zero_le _) rfl
  · exact (hs.modReel r fun h => h.setPerfRun (Nat.min_le_left 255 _) rfl).raise r.isLt _ _

theorem State.InRange.heavyPath (b : Buf) (r : Slot) : (s.heavyPath b r).InRange :=
  ((hs.modBuffer b fun h => h.of_same rfl).joinLane b).raise r.isLt _ _

theorem State.InRange.becomePending (b : Buf) : (s.becomePending b).InRange :=
  hs.modBuffer b fun h => h.of_same rfl

theorem State.InRange.predecessorAtEnd (b p : Buf) (heavy : Bool) : (s.predecessorAtEnd b p heavy).InRange := by
  have requested : ∀ next, State.InRange (if s.pool.buffers[p].state = .pending then s.requestRepair p next else s) := by
    intro next
    split <;> [exact hs.requestRepair _ _; exact hs]
  unfold State.predecessorAtEnd
  dsimp only
  split <;> [exact (requested _).clearSuccessor p; exact requested _]

theorem State.InRange.takeMissing (b : Buf) : (s.takeMissing b).InRange :=
  foldl_inRange (fun _ _ h => h.takeBadLine _ _) _ hs

theorem State.InRange.assembleFrame (b : Buf) (r : Slot) : (s.assembleFrame b r).InRange :=
  (hs.takeMissing b).modReel r fun h => h.of_same rfl

theorem State.InRange.defectEnd (b : Buf) (r : Slot) (p : Option Buf) (heavy : Bool) : (s.defectEnd b r p heavy).InRange := by
  have counted := hs.countReel r (countFrameEnd s.pool.buffers[b] heavy)
  have passed : State.InRange (if heavy then (s.countReel r (countFrameEnd s.pool.buffers[b] heavy)).heavyPath b r
      else (s.countReel r (countFrameEnd s.pool.buffers[b] heavy)).becomePending b) := by
    split <;> [exact counted.heavyPath b r; exact counted.becomePending b]
  unfold State.defectEnd
  dsimp only
  split <;> [exact passed.predecessorAtEnd b _ heavy; exact passed]

theorem State.InRange.closeFrame (h : Head) (b : Buf) (d : FrameDesc) : (s.closeFrame h b d).InRange :=
  (((((hs.assembleFrame b d.slot).perfUpdate _ _).defectEnd _ _ _ _).modHead h _).internalHolds _ _ _).applyDeferredOrders _

theorem State.InRange.endAssembly (h : Head) : (s.endAssembly h).InRange := by
  unfold State.endAssembly
  split <;> [exact hs.closeFrame h _ _; exact hs.modHead h _]

theorem State.InRange.abortFrame (r : Slot) (b : Buf) : (s.abortFrame r b).InRange := (hs.countReel r _).discard b

theorem State.InRange.abortBuffer (r : Slot) (b : Buf) : (s.abortBuffer r b).InRange := by
  unfold State.abortBuffer
  dsimp only
  split
  · exact hs
  · split
    case h_4 =>
      split
      · split <;> [exact hs.setRepair _ _; exact hs.abortFrame r b]
      · exact hs.abortFrame r b
    all_goals first | exact hs | exact hs.abortFrame r b

theorem State.InRange.clearAllHolds (r : Slot) : (s.clearAllHolds r).InRange :=
  foldl_inRange (fun s b h => by split <;> [exact h.clearSuccessor b; exact h]) _ hs

theorem State.InRange.abortReel (r : Slot) : (s.abortReel r).InRange := by
  have sunk : State.InRange (if s.assemblingFor r then s.modHead s.reels[r].head fun x => { x with assembly := .sinking }
      else s) := by
    split <;> [exact hs.modHead _ _; exact hs]
  have dealt := foldl_inRange (f := fun s b => s.abortBuffer r b) (fun _ b h => h.abortBuffer r b) allBuffers
    (sunk.clearAllHolds r)
  unfold State.abortReel
  exact (dealt.modReelDraining r .abort).closeIfEmpty r

end Frames


/-! ### Received cells -/

section Intake

theorem fieldAt_lt (p : List Byte) (i n : Nat) : fieldAt p i n < 256 ^ n := by
  induction n generalizing i with
  | zero => simp [fieldAt]
  | succ n ih =>
    have low := (p.getD i 0).isLt
    have high := ih (i + 1)
    unfold fieldAt
    omega

theorem readFrameHead_frame_le (p : List Byte) : (readFrameHead p).frame ≤ 16777215 := by
  have := fieldAt_lt p 0 3
  unfold readFrameHead
  dsimp only
  omega

theorem frameOffset_inRange {g : Gauge} (hg : g.InRange) {last : Int} (hl : offsetInRange last) (edges : List Nat) :
    offsetInRange (frameOffset g last edges) := by
  have := hg.2.2
  cases edges with
  | nil => exact hl
  | cons e _ =>
    change offsetInRange (clampOffset g (rawOffset g e))
    unfold clampOffset offsetInRange
    split <;> [omega; (split <;> omega)]

/-- A step of an eighth of the difference, truncated toward zero, goes no further than the goal (R40). -/
theorem add_tdiv_eight_between (e x : Int) : min e x ≤ e + (x - e).tdiv 8 ∧ e + (x - e).tdiv 8 ≤ max e x := by
  rcases Int.le_total e x with h | h
  · rw [Int.tdiv_eq_ediv_of_nonneg (by omega)]
    omega
  · rw [show x - e = -(e - x) by omega, Int.neg_tdiv, Int.tdiv_eq_ediv_of_nonneg (by omega)]
    omega

theorem updateEstimate_ok {est : Option Int} (he : shrinkOk est) (shrink : Option Int) : shrinkOk (updateEstimate est shrink) := by
  unfold updateEstimate
  split
  · exact he
  · rename_i x
    split
    · rename_i hx
      simp only [shrinkInRange, decide_eq_true_eq] at hx
      split
      · rintro _ ⟨⟩
        exact hx
      · rename_i e
        rintro _ ⟨⟩
        have between := add_tdiv_eight_between e x
        have := he e rfl
        omega
    · exact he

/-- The opening of a frame keeps a reel in range: the cues that stay are ahead of the frame (R27, R109). -/
theorem Reel.InRange.opened {x : Reel} (h : x.InRange) {f : Nat} (hf : f ≤ 16777215) : (x.opened f).InRange := by
  have stay : ∀ c ∈ x.cues.dropWhile fun c => decide (c.frame ≤ f), c ∈ x.cues := fun c hc =>
    (List.dropWhile_sublist _).subset hc
  refine { h with grade := ?_, cues := ⟨?_, ?_, ?_⟩, cueFields := fun c hc => h.cueFields c (stay c hc), lastOpened := ?_ }
  · show Grade.InRange (match (x.cues.takeWhile fun c => decide (c.frame ≤ f)).getLast? with
      | some c => c.grade
      | none => x.grade)
    split
    · rename_i c hc
      exact (h.cueFields c ((List.takeWhile_sublist _).subset (List.mem_of_getLast? hc))).2
    · exact h.grade
  · exact (List.dropWhile_sublist _).length_le.trans h.cues.few
  · exact h.cues.ascending.sublist (List.dropWhile_sublist _)
  · rintro n ⟨⟩ c hc
    have sorted := h.cues.ascending.sublist (List.dropWhile_sublist fun c => decide (c.frame ≤ f))
    change c ∈ x.cues.dropWhile (fun c => decide (c.frame ≤ f)) at hc
    cases hl : x.cues.dropWhile (fun c => decide (c.frame ≤ f)) with
    | nil => simp [hl] at hc
    | cons a l =>
      have first : ¬ a.frame ≤ f := by
        have := List.head?_dropWhile_not (fun c : Cue => decide (c.frame ≤ f)) x.cues
        simpa [hl] using this
      rw [hl] at hc sorted
      rcases List.mem_cons.1 hc with rfl | hc
      · omega
      · have := (List.pairwise_cons.1 sorted).1 c hc
        omega
  · rintro n ⟨⟩
    exact hf

variable {s : State} (hs : s.InRange)
include hs

theorem State.InRange.headCheckFailure (h : Head) (d : Nat) : (s.headCheckFailure h d).InRange :=
  (hs.modHead h _).raise (by omega) _ _

theorem State.InRange.headSink (h : Head) : (s.headSink h).InRange := hs.modHead h _

theorem State.InRange.storeCheckFailure : s.storeCheckFailure.InRange :=
  (hs.setLinks (k := { s.links with checkFailuresS := s.links.checkFailuresS + 1 }) hs.ports).raise (by decide) _ _

theorem State.InRange.storeSink : s.storeSink.InRange := hs.setLinks hs.ports

theorem State.InRange.sinkFrame (h : Head) : (s.sinkFrame h).InRange := hs.modHead h _

theorem State.InRange.bufferFrame (h : Head) (r : Slot) (b : Buf) {f : FrameHeadFields} (hf : f.frame ≤ 16777215)
    (hl : 1 ≤ f.lines ∧ f.lines ≤ Config.maxLines) (hw : 1 ≤ f.width ∧ f.width ≤ Config.maxWidth) :
    (s.bufferFrame h r b f).InRange := by
  have offset := frameOffset_inRange (hs.gauges s.reels[r].gauge) (hs.reels r).lastOffset f.edges
  have taken : State.InRange (s.modBuffer b fun x =>
      x.taken r s.reels[r] f (frameOffset s.intake.gauges[s.reels[r].gauge] s.reels[r].lastOffset f.edges)) :=
    hs.modBuffer b fun _ =>
      { frame := hf, lines := hl, width := hw, runs := Nat.zero_le _, offset := offset, grade := (hs.reels r).grade }
  have measured := taken.modReel r (f := fun x => { x with
      lastOffset := frameOffset s.intake.gauges[s.reels[r].gauge] s.reels[r].lastOffset f.edges
      shrinkEstimate := updateEstimate x.shrinkEstimate (measuredShrink s.intake.gauges[s.reels[r].gauge] f.edges) })
    fun h => { h with
      cues := ⟨h.cues.few, h.cues.ascending, h.cues.ahead⟩
      shrinkEstimate := updateEstimate_ok h.shrinkEstimate _
      lastOffset := offset }
  have paced := (measured.modHead h fun x => { x with
      assembly := .assembling b ⟨f.frame, f.lines, f.width, r, s.reels[r].policy.irThreshold,
        perfCauses s.intake.gauges[s.reels[r].gauge] f.edges⟩
      lastMeasurement := some ⟨f.frame, r,
        frameOffset s.intake.gauges[s.reels[r].gauge] s.reels[r].lastOffset f.edges,
        recordedShrink (measuredShrink s.intake.gauges[s.reels[r].gauge] f.edges),
        perfCauses s.intake.gauges[s.reels[r].gauge] f.edges⟩ }).paceFall
  unfold State.bufferFrame
  dsimp only
  split
  · split <;> [exact paced; exact paced.discardedNext r]
  · exact paced

theorem State.InRange.openedFrame (h : Head) (r : Slot) {f : FrameHeadFields} (hf : f.frame ≤ 16777215) :
    (s.openedFrame h r f).InRange := by
  have opened : State.InRange (s.modReel r fun x => x.opened f.frame) := hs.modReel r fun h => h.opened hf
  unfold State.openedFrame
  dsimp only
  split
  · refine ((opened.modReel r fun h => ?_).sinkFrame _).discardedNext r
    exact { h with
      cues := ⟨h.cues.few, h.cues.ascending, h.cues.ahead⟩
      settleRemaining := (Nat.sub_le _ _).trans h.settleRemaining }
  · split
    · exact ((opened.countReel r _).sinkFrame h).discardedNext r
    · rename_i hfits
      obtain ⟨hl, hl', hw, hw'⟩ := not_not.1 hfits
      split
      · exact (((opened.countReel r _).raise r.isLt _ _).sinkFrame h).discardedNext r
      · exact opened.bufferFrame h r _ hf ⟨hl, hl'⟩ ⟨hw, hw'⟩

theorem State.InRange.openingTests (h : Head) {f : FrameHeadFields} (hf : f.frame ≤ 16777215) :
    (s.openingTests h f).InRange := by
  unfold State.openingTests
  split
  · exact (hs.modHead h _).sinkFrame h
  · rename_i r _
    split
    · exact (hs.countReel r _).sinkFrame h
    · split
      · exact ((hs.countReel r _).raise r.isLt _ _).sinkFrame h
      · exact hs.openedFrame h r hf

theorem State.InRange.takeFrameHead (h : Head) {f : FrameHeadFields} (hf : f.frame ≤ 16777215) :
    (s.takeFrameHead h f).InRange := by
  unfold State.takeFrameHead
  dsimp only
  split <;> [exact (hs.closeFrame h _ _).openingTests h hf; exact hs.openingTests h hf]

theorem State.InRange.oversizeDiscard (h : Head) (b : Buf) (d : FrameDesc) : (s.oversizeDiscard h b d).InRange :=
  ((((hs.countReel d.slot _).discard b).sinkFrame h).discardedNext d.slot).applyDeferredOrders d.slot

theorem State.InRange.takeLine (h : Head) (b : Buf) (d : FrameDesc) (passed : Bool) (p : List Byte) :
    (s.takeLine h b d passed p).InRange := by
  unfold State.takeLine
  dsimp only
  split
  · split <;> [exact hs.oversizeDiscard h b d; exact hs.headCheckFailure h 0]
  · split
    · split <;> [exact hs.modHead h _; exact (hs.modHead h _).headCheckFailure h 0]
    · split
      · exact (hs.takeBadLine b _).headCheckFailure h 1
      · split <;> [exact hs.takeBadLine b _; exact hs.takeGoodLine b _ _ _]

theorem State.InRange.strayLine (h : Head) (passed : Bool) : (s.strayLine h passed).InRange := by
  unfold State.strayLine
  dsimp only
  split <;> [exact hs.headSink h; exact (hs.headSink h).headCheckFailure h 0]

theorem State.InRange.takeFrameEnd (h : Head) : (s.takeFrameEnd h).InRange := by
  unfold State.takeFrameEnd
  split <;> [exact hs.closeFrame h _ _; exact (hs.modHead h _).headSink h]

theorem State.InRange.takeReelEnd (h : Head) : (s.takeReelEnd h).InRange := by
  unfold State.takeReelEnd
  dsimp only
  split <;> [exact (hs.endAssembly h).enterDraining _ _; exact (hs.endAssembly h).headSink h]

theorem State.InRange.onFrameHead (h : Head) (c : RxCell) : (s.onFrameHead h c).InRange := by
  unfold State.onFrameHead
  split <;> [exact hs.takeFrameHead h (readFrameHead_frame_le _); exact hs.headCheckFailure h 0]

theorem State.InRange.onLine (h : Head) (c : RxCell) : (s.onLine h c).InRange := by
  unfold State.onLine
  split <;> [exact hs.takeLine h _ _ _ _; exact hs.strayLine h _]

theorem State.InRange.onFrameEnd (h : Head) (c : RxCell) : (s.onFrameEnd h c).InRange := by
  unfold State.onFrameEnd
  split <;> [exact hs.takeFrameEnd h; exact hs.headCheckFailure h 0]

theorem State.InRange.onReelEnd (h : Head) (c : RxCell) : (s.onReelEnd h c).InRange := by
  unfold State.onReelEnd
  split <;> [exact hs.takeReelEnd h; exact hs.headCheckFailure h 0]

theorem State.InRange.resolve (b : Buf) (how : Resolution) : (s.resolve b how).InRange :=
  (hs.modBuffer b fun h => h.of_same rfl).releaseTest b

theorem State.InRange.takeStoreAck (p : List Byte) : (s.takeStoreAck p).InRange := by
  unfold State.takeStoreAck
  split <;> [exact hs.setDelivery hs.credits rfl; exact (hs.countReel _ _).resolve _ _]

theorem State.InRange.addCredit (l : Lane) (n : Nat) : (s.addCredit l n).InRange :=
  (hs.setDelivery (d := { s.delivery with credits := modEntry s.delivery.credits l fun c => min Config.maxCredit (c + n) })
    (modEntry_forall (P := (· ≤ Config.maxCredit)) hs.credits l fun _ => Nat.min_le_left _ _) rfl).arbiterSearch

theorem State.InRange.onStoreAck (c : RxCell) : (s.onStoreAck c).InRange := by
  unfold State.onStoreAck
  split <;> [exact hs.takeStoreAck _; exact hs.storeCheckFailure]

theorem State.InRange.onCredit (c : RxCell) : (s.onCredit c).InRange := by
  unfold State.onCredit
  split <;> [exact hs.addCredit _ _; exact hs.storeCheckFailure]

theorem State.InRange.onCheckFailure (p : Port) : (s.onCheckFailure p).InRange := by
  unfold State.onCheckFailure
  split <;> [exact hs.headCheckFailure _ 0; exact hs.storeCheckFailure]

theorem State.InRange.onSunk (p : Port) : (s.onSunk p).InRange := by
  unfold State.onSunk
  split <;> [exact hs.headSink _; exact hs.storeSink]

theorem State.InRange.queueOrder (p : Port) (o : Order) : (s.queueOrder p o).InRange := by
  unfold State.queueOrder
  split
  · rename_i hroom
    exact hs.modPort p fun h => ⟨by simpa using hroom, h.2⟩
  · exact ((hs.formReply p _ _ _ _).modPort p fun h => h).raise (by decide) _ _

theorem State.InRange.onOrder (p : Port) (c : RxCell) : (s.onOrder p c).InRange := by
  unfold State.onOrder
  split <;> [exact hs.queueOrder p _; exact hs.onCheckFailure p]

theorem State.InRange.onOtherKind (p : Port) (k : Byte) (c : RxCell) : (s.onOtherKind p k c).InRange := by
  unfold State.onOtherKind
  split <;> [exact hs.onSunk p; exact hs.onCheckFailure p]

theorem State.InRange.onCell (p : Port) (k : Byte) (c : RxCell) : (s.onCell p k c).InRange := by
  unfold State.onCell
  split
  · exact hs.onOrder p c
  · split
    · split <;> [exact hs.onFrameHead _ c; skip]
      split <;> [exact hs.onLine _ c; skip]
      split <;> [exact hs.onFrameEnd _ c; skip]
      split <;> [exact hs.onReelEnd _ c; exact hs.onOtherKind p k c]
    · split <;> [exact hs.onStoreAck c; skip]
      split <;> [exact hs.onCredit c; exact hs.onOtherKind p k c]

end Intake


/-! ### Resets, links and the part's own events -/

theorem State.reset_inRange : State.reset.InRange where
  reels r := by
    simp only [State.reset, Fin.getElem_fin, Vector.getElem_replicate]
    exact
      { policy := by unfold Policy.InRange; decide
        grade := by unfold Grade.InRange trimInRange; decide
        cues := ⟨Nat.zero_le _, .nil, by simp⟩
        cueFields := by simp
        fewDeferred := Nat.zero_le _
        deferred := by simp
        lastOpened := by simp
        settleRemaining := by decide
        shrinkEstimate := by simp [shrinkOk]
        lastOffset := by unfold offsetInRange; decide
        perfRun := Nat.zero_le _ }
  gauges g := by
    simp only [State.reset, Fin.getElem_fin, Vector.getElem_replicate]
    unfold Gauge.InRange
    decide
  buffers b := by
    simp only [State.reset, Fin.getElem_fin, Vector.getElem_replicate]
    exact
      { frame := Nat.zero_le _
        lines := by decide
        width := by decide
        runs := Nat.zero_le _
        offset := by unfold offsetInRange; decide
        grade := by unfold Grade.InRange trimInRange; decide }
  marks := by decide
  defect := by decide
  repairWait := by decide
  repairSpan := by decide
  credits l := by simp [State.reset]
  ackWait := by decide
  catalogue i := by
    simp only [State.reset, Fin.getElem_fin, Vector.getElem_replicate]
    exact
      { identity := by decide
        vinegar := Nat.zero_le _
        priorScore := Nat.zero_le _
        lastScore := by simp
        lastShrink := by simp [shrinkOk]
        scanCount := Nat.zero_le _ }
  tickets := Nat.zero_le _
  notices :=
    { sorted := .nil
      counts := by simp [State.reset]
      instances := by simp [State.reset]
      inFlight := by simp [State.reset]
      levels := by decide
      mask := Nat.zero_le _ }
  ports p := by simp [State.reset, PortState.InRange]

section Events

variable {s : State} (hs : s.InRange)
include hs

theorem State.InRange.softReset : s.softReset.InRange := by
  have ha := hs.abandonRepair
  refine { ha with
    reels := fun r => ?_, gauges := ha.gauges, buffers := fun b => ?_, credits := fun l => ?_, catalogue := fun i => ?_
    notices := ?_, ports := fun p => ?_ }
  · exact State.reset_inRange.reels r
  · exact State.reset_inRange.buffers b
  · exact State.reset_inRange.credits l
  · simp only [State.softReset, Fin.getElem_fin, mapEntries_get, Record.softReset]
    split <;> exact (ha.catalogue i).of_same rfl
  · exact { ha.notices with sorted := .nil, counts := by simp [State.softReset], instances := by simp [State.softReset], inFlight := by simp [State.softReset] }
  · simp only [State.softReset, Fin.getElem_fin, mapEntries_get, PortState.softReset]
    exact ⟨(ha.ports p).1, (List.length_filter_le _ _).trans (ha.ports p).2⟩

omit hs in
theorem State.powerOn_inRange (s : State) : s.powerOn.InRange := { State.reset_inRange with }

theorem State.InRange.emptyPort (p : Port) : (s.emptyPort p).InRange :=
  (hs.modPort p fun _ => ⟨Nat.zero_le _, Nat.zero_le _⟩).returnNotice p

theorem State.InRange.setLink (p : Port) (l : Link) : (s.setLink p l).InRange := hs.modPort p fun h => h

theorem State.InRange.loseHeadLink (h : Head) : (s.loseHeadLink h).InRange := by
  have ended := ((hs.setLink (headPort h) .down).raise (k := .portDown) (i := h.val) (by omega) none 0).endAssembly h
  unfold State.loseHeadLink
  dsimp only
  refine State.InRange.emptyPort ?_ _
  split
  · split <;> [exact ended.takeHold _ 3; exact ended]
  · exact ended

theorem State.InRange.gainHeadLink (h : Head) : (s.gainHeadLink h).InRange := by
  have up := (hs.modPort (headPort h) (f := fun q => { q with link := .up, seqOut := 0 }) fun h => h).raise
    (k := .portUp) (i := h.val) (by omega) none 0
  unfold State.gainHeadLink
  dsimp only
  split <;> [exact up.tellPaced h; exact up]

theorem State.InRange.cutSend : s.cutSend.InRange := by
  unfold State.cutSend
  split
  · exact hs
  · rename_i b _ _
    have queued := hs.modBuffer b (f := fun x => { x with state := .queued }) fun h => h.of_same rfl
    dsimp only
    split
    · exact (queued.modQueue _ _).setDelivery queued.credits rfl
    · exact queued.setDelivery queued.credits rfl

theorem State.InRange.loseStoreLink : s.loseStoreLink.InRange := by
  have cut := (hs.setLink portS .down).cutSend
  have spent := cut.setDelivery (d := { (s.setLink portS .down).cutSend.delivery with credits := Vector.replicate 4 0 })
    (fun _ => by simp) rfl
  exact (spent.raise (k := .storePortDown) (i := 0) (by decide) none 0).emptyPort portS

theorem State.InRange.ackExpiry (b : Buf) : (s.ackExpiry b).InRange :=
  ((hs.countReel _ _).raise (Fin.isLt _) _ _).resolve b _

theorem State.InRange.writeRepair (j : RepairJob) : (s.writeRepair j).InRange := by
  have filled := hs.modMemory j.request.buf fun m => (s.repairFills j).foldl Memory.fill m
  have counted := filled.modBuffer j.request.buf (f := fun x => { x with
    repaired := repairedCount (s.repairFills j), unrepaired := unrepairedCount (s.repairFills j) }) fun h => h.of_same rfl
  unfold State.writeRepair
  exact counted.countReel _ _

theorem State.InRange.completeRepair (j : RepairJob) : (s.completeRepair j).InRange := by
  have written := (hs.writeRepair j).releaseNeighbours j.request
  unfold State.completeRepair
  dsimp only
  refine State.InRange.engineTake (State.InRange.setRepair ?_ _ none)
  split <;> [exact written.abortFrame _ _; exact written.joinLane _]

theorem State.InRange.sendLine (b : Buf) (k : Nat) : (s.sendLine b k).InRange :=
  ((hs.setDelivery (d := { s.delivery with transmitter := .sending b (k + 1) }) hs.credits rfl).setLinks
    (k := { s.links with boundaryUsed := false }) hs.ports).sendCell _ _ _

theorem State.InRange.completeSend (b : Buf) : (s.completeSend b).InRange := by
  have waiting := hs.modBuffer b (f := fun x => { x with
    state := .awaitAck, delivery := .awaitingAck, ackTimer := some s.delivery.ackWait }) fun h => h.of_same rfl
  exact (waiting.setDelivery (d := { s.delivery with transmitter := .idle }) hs.credits rfl).arbiterSearch

theorem State.InRange.sendMgmt (p : Port) (c : MgmtCell) : (s.sendMgmt p c).InRange := by
  have marked := hs.setLinks (k := { s.links with
    boundaryUsed := s.links.boundaryUsed || (decide (p = portS) && s.midSend) }) hs.ports
  exact (marked.modPort p fun h => ⟨h.1, by simpa using (Nat.sub_le _ 1).trans h.2⟩).sendCell _ _ _

theorem State.InRange.sendNotice (p : Port) (c : MgmtCell) : (s.sendNotice p c).InRange :=
  (hs.sendMgmt p c).clearInFlight

end Events

/-! ### Arguments in range -/

section Arguments

theorem argRange_eq_some {lo hi : Nat} {w : Word} {n : Nat} :
    argRange lo hi w = some n ↔ w.toNat = n ∧ lo ≤ n ∧ n ≤ hi := by
  unfold argRange
  split <;> simp <;> omega

theorem argTrim_inRange {w : Word} {t : Int} (h : argTrim w = some t) : trimInRange t := by
  unfold argTrim at h
  split at h <;> cases h
  assumption

theorem argGrade_inRange {p r g b : Word} {x : Grade} (h : argGrade p r g b = some x) : x.InRange := by
  simp only [argGrade, Option.bind_eq_bind, Option.bind_eq_some_iff, Option.pure_def] at h
  obtain ⟨_, _, r, hr, g, hg, b, hb, ⟨⟩⟩ := h
  exact ⟨argTrim_inRange hr, argTrim_inRange hg, argTrim_inRange hb⟩

theorem argPolicy_inRange {settle ir action limit : Word} {x : Policy} (h : argPolicy settle ir action limit = some x) :
    x.InRange := by
  simp only [argPolicy, Option.bind_eq_bind, Option.bind_eq_some_iff, Option.pure_def, argRange_eq_some] at h
  obtain ⟨_, ⟨_, _, hs⟩, _, ⟨_, _, hi⟩, _, _, _, ⟨_, _, hl⟩, ⟨⟩⟩ := h
  exact ⟨hs, hi, hl⟩

theorem Args.ofRange_eq_ok {α : Type} {x : Option α} {a : α} : Args.ofRange x = .ok a ↔ x = some a := by
  cases x <;> simp [Args.ofRange]

theorem defaultPolicy_inRange : defaultPolicy.InRange := by unfold Policy.InRange; decide

theorem mountArgs_inRange {ws : List Word} {a : MountArgs} (h : mountArgs ws = .ok a) : a.grade.InRange ∧ a.policy.InRange := by
  unfold mountArgs at h
  split at h
  · simp only [Args.ofRange_eq_ok, Option.bind_eq_bind, Option.bind_eq_some_iff, Option.pure_def] at h
    obtain ⟨_, _, _, _, _, _, g, hg, ⟨⟩⟩ := h
    exact ⟨argGrade_inRange hg, defaultPolicy_inRange⟩
  · simp only [Args.ofRange_eq_ok, Option.bind_eq_bind, Option.bind_eq_some_iff, Option.pure_def] at h
    obtain ⟨_, _, _, _, _, _, g, hg, p, hp, ⟨⟩⟩ := h
    exact ⟨argGrade_inRange hg, argPolicy_inRange hp⟩
  · cases h

theorem reelGradeArgs_inRange {ws : List Word} {a : Slot × Grade} (h : reelGradeArgs ws = .ok a) : a.2.InRange := by
  unfold reelGradeArgs at h
  split at h
  · simp only [Args.ofRange_eq_ok, Option.bind_eq_bind, Option.bind_eq_some_iff, Option.pure_def] at h
    obtain ⟨_, _, g, hg, ⟨⟩⟩ := h
    exact argGrade_inRange hg
  · cases h

theorem cueArgs_inRange {ws : List Word} {a : Slot × Cue} (h : cueArgs ws = .ok a) :
    a.2.frame ≤ 16777215 ∧ a.2.grade.InRange := by
  unfold cueArgs at h
  split at h
  · simp only [Args.ofRange_eq_ok, Option.bind_eq_bind, Option.bind_eq_some_iff, Option.pure_def, argRange_eq_some] at h
    obtain ⟨_, _, f, ⟨_, _, hf⟩, g, hg, ⟨⟩⟩ := h
    exact ⟨hf, argGrade_inRange hg⟩
  · cases h

theorem policyArgs_inRange {ws : List Word} {a : Slot × Policy} (h : policyArgs ws = .ok a) : a.2.InRange := by
  unfold policyArgs at h
  split at h
  · simp only [Args.ofRange_eq_ok, Option.bind_eq_bind, Option.bind_eq_some_iff, Option.pure_def] at h
    obtain ⟨_, _, p, hp, ⟨⟩⟩ := h
    exact argPolicy_inRange hp
  · cases h

theorem argGauge_inRange {pitch anchor range : Word} {g : Gauge} (h : argGauge pitch anchor range = some g) : g.InRange := by
  simp only [argGauge, Option.bind_eq_bind, Option.bind_eq_some_iff, Option.pure_def, argRange_eq_some] at h
  obtain ⟨p, hp, _, ⟨_, _, ha⟩, _, ⟨_, _, hr⟩, ⟨⟩⟩ := h
  refine ⟨?_, ha, hr⟩
  unfold argPitch at hp
  split at hp
  · cases hp
    exact .inl rfl
  · exact .inr (argRange_eq_some.1 hp).2

theorem markArgs_inRange {ws : List Word} {a : Nat × Nat} (h : markArgs ws = .ok a) :
    1 ≤ a.1 ∧ a.1 ≤ 16 ∧ a.1 < a.2 ∧ a.2 ≤ 32 := by
  unfold markArgs at h
  split at h
  · simp only [Args.ofRange_eq_ok, Option.bind_eq_bind, Option.bind_eq_some_iff, argRange_eq_some] at h
    obtain ⟨l, ⟨_, hl, hl'⟩, m, ⟨_, _, hm⟩, h⟩ := h
    split at h <;> cases h
    exact ⟨hl, hl', by assumption, hm⟩
  · cases h

theorem argAccount_inRange {lo hi base gauge vinegar score : Word} {a : Account}
    (h : argAccount lo hi base gauge vinegar score = some a) :
    a.identity < 2 ^ 48 ∧ a.vinegar ≤ 3 ∧ a.priorScore ≤ 1000 := by
  simp only [argAccount, Option.bind_eq_bind, Option.bind_eq_some_iff, Option.pure_def, argRange_eq_some] at h
  obtain ⟨n, ⟨_, _, hn⟩, _, _, _, _, _, ⟨_, _, hv⟩, _, ⟨_, _, hp⟩, ⟨⟩⟩ := h
  have := lo.isLt
  exact ⟨by dsimp only; omega, hv, hp⟩

theorem mapM_option_all {α β : Type} {f : α → Option β} {P : β → Prop} (hf : ∀ a b, f a = some b → P b) :
    ∀ {l : List α} {r : List β}, l.mapM f = some r → ∀ b ∈ r, P b
  | [], r, h => by cases h; simp
  | a :: l, r, h => by
    simp only [List.mapM_cons, Option.bind_eq_bind, Option.bind_eq_some_iff, Option.pure_def] at h
    obtain ⟨b, hb, bs, hbs, ⟨⟩⟩ := h
    exact List.forall_mem_cons.2 ⟨hf a b hb, mapM_option_all hf hbs⟩

theorem noticeArgs_inRange {ws : List Word} {a : Nat × Vector Nat 17} (h : noticeArgs ws = .ok a) :
    a.1 ≤ 3 ∧ ∀ k : Fin 17, a.2[k] ≤ 3 := by
  unfold noticeArgs at h
  split at h
  · split at h
    · simp only [Args.ofRange_eq_ok, Option.bind_eq_bind, Option.bind_eq_some_iff, Option.pure_def, argRange_eq_some] at h
      obtain ⟨m, ⟨_, _, hm⟩, l, hl, v, hv, ⟨⟩⟩ := h
      refine ⟨hm, fun k => ?_⟩
      unfold levelTable at hv
      split at hv <;> cases hv
      exact mapM_option_all (P := (· ≤ 3)) (fun _ _ h => (argRange_eq_some.1 h).2.2) hl _ (List.getElem_mem _)
    · cases h
  · cases h

end Arguments

/-! ### Orders -/

section Orders

variable {s : State} (hs : s.InRange)
include hs

theorem State.InRange.popOrder (p : Port) : (s.popOrder p).InRange :=
  { hs.modPort p fun h => ⟨by simpa using (Nat.sub_le _ 1).trans h.1, h.2⟩ with }

theorem State.InRange.withArgs {α : Type} {a : Args α} {k : α → OrderEffect} (hk : ∀ x, a = .ok x → (k x).1.InRange) :
    (s.withArgs a k).1.InRange := by
  unfold State.withArgs
  split <;> [exact hs; exact hs; exact hk _ rfl]

theorem State.InRange.takeFromShelf (i : RecordNo) : (s.takeFromShelf i).InRange := by
  have home : State.InRange (match s.catalogue[i].position with
      | some q => s.modPosition q fun x => { x with state := .reserved, owner := some i }
      | none => s) := by
    split <;> [exact hs.modPosition _ _; exact hs]
  exact home.modRecord i fun h => h.of_same rfl

theorem State.InRange.mount {a : MountArgs} (hg : a.grade.InRange) (hp : a.policy.InRange) (r : Slot) :
    (s.mount a r).InRange := by
  refine ((hs.modReel r fun _ => ?_).takeFromShelf a.record).tellPaced a.head
  exact
    { State.reset_inRange.reels r with
      policy := hp
      grade := hg
      cues := ⟨Nat.zero_le _, .nil, by simp [mountedReel]⟩
      cueFields := by simp [mountedReel]
      fewDeferred := Nat.zero_le _
      deferred := by simp [mountedReel]
      lastOpened := by simp [mountedReel]
      settleRemaining := hp.1
      shrinkEstimate := by simp [mountedReel, shrinkOk]
      lastOffset := by simp [offsetInRange, mountedReel]
      perfRun := Nat.zero_le _ }

theorem State.InRange.applyMountReel (o : Order) : (applyMountReel s o).1.InRange := by
  refine hs.withArgs fun a ha => ?_
  obtain ⟨hg, hp⟩ := mountArgs_inRange ha
  unfold State.mountOrder
  split <;> [exact hs; skip]
  split <;> [exact hs; skip]
  split <;> [exact hs; skip]
  split <;> [exact hs; exact hs.mount hg hp _]

theorem State.InRange.deferOrder (r : Slot) {d : Deferred} (hd : d.InRange) : (s.deferOrder r d).1.InRange := by
  unfold State.deferOrder
  split
  · rename_i hroom
    exact hs.modReel r fun h => { h with
      cues := ⟨h.cues.few, h.cues.ascending, h.cues.ahead⟩
      fewDeferred := by simpa using hroom
      deferred := fun e he => (List.mem_append.1 he).elim (h.deferred e) fun he => List.mem_singleton.1 he ▸ hd }
  · exact hs

theorem State.InRange.applyUnmount (o : Order) : (applyUnmount s o).1.InRange := by
  refine hs.withArgs fun a _ => ?_
  unfold State.unmountOrder State.unmountAbort State.unmountEnd
  split
  · split
    case h_1 | h_2 | h_3 =>
      dsimp only
      exact hs.abortReel a.1
    all_goals exact hs
  · split
    case h_1 | h_2 | h_3 =>
      split <;> [exact hs.deferOrder _ trivial; exact hs.enterDraining _ _]
    all_goals exact hs

theorem State.InRange.applyHoldReel (o : Order) : (applyHoldReel s o).1.InRange := by
  refine hs.withArgs fun r _ => ?_
  unfold State.holdOrder
  split
  case h_1 | h_2 => split <;> [exact hs.deferOrder _ trivial; exact hs.takeHold _ _]
  all_goals exact hs

theorem State.InRange.resume (r : Slot) : (s.resume r).InRange := by
  refine State.InRange.tellPaced (State.InRange.formFlow (hs.modReel r fun h => ?_) _ _) _
  exact { h with cues := ⟨h.cues.few, h.cues.ascending, h.cues.ahead⟩, settleRemaining := h.policy.1 }

theorem State.InRange.applyResumeReel (o : Order) : (applyResumeReel s o).1.InRange := by
  refine hs.withArgs fun r _ => ?_
  unfold State.resumeOrder
  split <;> [exact hs.resume r; exact hs]

theorem State.InRange.applySetReelPolicy (o : Order) : (applySetReelPolicy s o).1.InRange := by
  refine hs.withArgs fun a ha => ?_
  unfold State.policyOrder
  split
  case h_1 | h_2 | h_3 =>
    split <;> [exact hs.deferOrder _ (policyArgs_inRange ha); exact hs.applyPolicy _ (policyArgs_inRange ha)]
  all_goals exact hs

theorem State.InRange.applySetGauge (o : Order) : (applySetGauge s o).1.InRange := by
  unfold Machine.applySetGauge
  split
  · unfold State.gaugeOrder
    split
    · exact hs
    · exact hs
    · rename_i g e _ he
      split
      · exact hs
      · exact { hs with gauges := modEntry_forall hs.gauges g fun _ => argGauge_inRange he }
  · exact hs

theorem State.InRange.evaluatePacing : s.evaluatePacing.InRange := by
  unfold State.evaluatePacing
  split <;> split <;> first | exact hs.becomePaced | exact hs.becomeOpen | exact hs

theorem State.InRange.applySetPoolMarks (o : Order) : (applySetPoolMarks s o).1.InRange :=
  hs.withArgs fun _ ha => State.InRange.evaluatePacing { hs with marks := markArgs_inRange ha }

theorem State.InRange.applySetDefectLimits (o : Order) : (applySetDefectLimits s o).1.InRange := by
  unfold Machine.applySetDefectLimits
  split
  · split
    · rename_i d hd
      simp only [argDefectLimits, Option.bind_eq_bind, Option.bind_eq_some_iff, Option.pure_def, argRange_eq_some] at hd
      obtain ⟨_, ⟨_, hl, hh⟩, _, ⟨_, _, hb⟩, ⟨⟩⟩ := hd
      exact { hs with defect := ⟨hl, hh, hb⟩ }
    · exact hs
  · exact hs

theorem State.InRange.applySetRepairLimits (o : Order) : (applySetRepairLimits s o).1.InRange := by
  unfold Machine.applySetRepairLimits
  split
  · split
    · rename_i a ha
      simp only [argRepairLimits, Option.bind_eq_bind, Option.bind_eq_some_iff, argRange_eq_some] at ha
      obtain ⟨w, ⟨_, hw, hw'⟩, n, ⟨_, hn, hn'⟩, ha⟩ := ha
      split at ha <;> cases ha
      exact { hs with repairWait := ⟨hw, hw', by assumption⟩, repairSpan := ⟨hn, hn'⟩ }
    · exact hs
  · exact hs

theorem State.InRange.applyLoadProfileCurve (o : Order) : (applyLoadProfileCurve s o).1.InRange := by
  refine hs.withArgs fun a _ => ?_
  unfold State.loadOrder
  split <;> [exact hs; exact { hs with }]

theorem State.InRange.applySetProfileLevels (o : Order) : (applySetProfileLevels s o).1.InRange := by
  refine hs.withArgs fun a _ => ?_
  unfold State.levelsOrder
  split <;> [exact hs; exact { hs with }]

theorem State.InRange.applySetReelGrade (o : Order) : (applySetReelGrade s o).1.InRange := by
  refine hs.withArgs fun a ha => ?_
  have hg := reelGradeArgs_inRange ha
  unfold State.gradeOrder
  split
  case h_1 | h_2 | h_3 =>
    exact hs.modReel _ fun h => { h with grade := hg, cues := ⟨h.cues.few, h.cues.ascending, h.cues.ahead⟩ }
  all_goals exact hs

omit hs in
theorem mem_placeCue {c d : Cue} {l : List Cue} (h : d ∈ placeCue c l) : d = c ∨ d ∈ l := by
  induction l with
  | nil => simpa [placeCue] using h
  | cons a l ih =>
    unfold placeCue at h
    split at h
    · simp only [List.mem_cons] at h ⊢; tauto
    · split at h
      · simpa using h
      · rcases List.mem_cons.1 h with rfl | h
        · simp
        · have := ih h; simp only [List.mem_cons]; tauto

omit hs in
theorem placeCue_ascending {c : Cue} {l : List Cue} (h : l.Pairwise fun a b => a.frame < b.frame) :
    (placeCue c l).Pairwise fun a b => a.frame < b.frame := by
  induction l with
  | nil => simp [placeCue]
  | cons a l ih =>
    obtain ⟨ha, hl⟩ := List.pairwise_cons.1 h
    unfold placeCue
    split
    · rename_i e
      exact List.pairwise_cons.2 ⟨fun b hb => e ▸ ha b hb, hl⟩
    · split
      · rename_i hlt
        exact List.pairwise_cons.2 ⟨List.forall_mem_cons.2 ⟨hlt, fun b hb => hlt.trans (ha b hb)⟩, h⟩
      · refine List.pairwise_cons.2 ⟨fun b hb => ?_, ih hl⟩
        rcases mem_placeCue hb with rfl | hb
        · omega
        · exact ha b hb

omit hs in
/-- A cue set in an ascending list makes it one longer unless it replaces one (R107). -/
theorem placeCue_length {c : Cue} {l : List Cue} (h : l.Pairwise fun a b => a.frame < b.frame) :
    (placeCue c l).length = if hasCue l c.frame then l.length else l.length + 1 := by
  induction l with
  | nil => simp [placeCue, hasCue]
  | cons a l ih =>
    obtain ⟨ha, hl⟩ := List.pairwise_cons.1 h
    have ih := ih hl
    unfold placeCue
    split
    · rename_i e
      simp [hasCue, e]
    · rename_i hne
      split
      · rename_i hlt
        have absent : hasCue (a :: l) c.frame = false := by
          simp only [hasCue, List.any_eq_false, List.mem_cons, decide_eq_true_eq]
          rintro x (rfl | hx)
          · omega
          · have := ha x hx; omega
        simp [absent]
      · have same : hasCue (a :: l) c.frame = hasCue l c.frame := by
          simp [hasCue, Ne.symm hne]
        rw [same, List.length_cons, ih, List.length_cons]
        split <;> rfl

theorem State.InRange.placeCueOn (r : Slot) {c : Cue} (hf : c.frame ≤ 16777215) (hg : c.grade.InRange) :
    (s.placeCueOn r c).1.InRange := by
  unfold State.placeCueOn
  dsimp only
  split <;> [exact hs; skip]
  rename_i hlate
  split <;> [exact hs; skip]
  rename_i hroom
  refine hs.modReel r fun h => { h with cues := ⟨?_, placeCue_ascending h.cues.ascending, ?_⟩, cueFields := ?_ }
  · have := h.cues.few
    simp only [placeCue_length h.cues.ascending]
    split
    · exact this
    · rename_i hnew
      simp only [Bool.not_eq_true] at hnew
      have : ¬ Config.maxCues ≤ s.reels[r].cues.length := fun hfull => hroom ⟨hnew, hfull⟩
      exact Nat.lt_of_not_le this
  · intro n hn d hd
    rcases mem_placeCue hd with rfl | hd
    · change s.reels[r].lastOpened = some n at hn
      simp only [Reel.isLate, hn, decide_eq_true_eq] at hlate
      omega
    · exact h.cues.ahead n hn d hd
  · intro d hd
    rcases mem_placeCue hd with rfl | hd
    · exact ⟨hf, hg⟩
    · exact h.cueFields d hd

theorem State.InRange.applySetCue (o : Order) : (applySetCue s o).1.InRange := by
  refine hs.withArgs fun a ha => ?_
  obtain ⟨hf, hg⟩ := cueArgs_inRange ha
  unfold State.cueOrder
  split
  case h_1 | h_2 | h_3 => exact hs.placeCueOn _ hf hg
  all_goals exact hs

theorem State.InRange.applyClearCues (o : Order) : (applyClearCues s o).1.InRange := by
  refine hs.withArgs fun r _ => ?_
  unfold State.clearOrder
  split
  case h_1 | h_2 | h_3 =>
    exact hs.modReel r fun h => { h with cues := ⟨Nat.zero_le _, .nil, by simp⟩, cueFields := by simp }
  all_goals exact hs

theorem State.InRange.applyWriteLaneMap (o : Order) : (applyWriteLaneMap s o).1.InRange :=
  hs.withArgs fun _ _ => hs.setDelivery hs.credits rfl

theorem State.InRange.applySetAckWait (o : Order) : (applySetAckWait s o).1.InRange := by
  unfold Machine.applySetAckWait
  split
  · split
    · rename_i h
      exact { hs with ackWait := (argRange_eq_some.1 h).2 }
    · exact hs
  · exact hs

omit hs in
theorem Record.InRange.write {x : Record} (h : x.InRange) {a : Account}
    (ha : a.identity < 2 ^ 48 ∧ a.vinegar ≤ 3 ∧ a.priorScore ≤ 1000) : (x.write a).InRange :=
  { h with identity := ha.1, vinegar := ha.2.1, priorScore := ha.2.2 }

theorem State.InRange.createRecord (i : RecordNo) {a : Account}
    (ha : a.identity < 2 ^ 48 ∧ a.vinegar ≤ 3 ∧ a.priorScore ≤ 1000) (q : Option PositionNo) :
    (s.createRecord i a q).InRange := by
  have blank : Record.InRange {} := by simpa [State.reset] using State.reset_inRange.catalogue i
  have home : State.InRange (match q with
      | some q => s.modPosition q fun x => { x with state := .occupied, owner := some i }
      | none => s) := by
    split <;> [exact hs.modPosition _ _; exact hs]
  exact home.modRecord i fun _ => (blank.write ha).of_same rfl

theorem State.InRange.writeOrder (i : Option RecordNo) {a : Option Account}
    (ha : ∀ x, a = some x → x.identity < 2 ^ 48 ∧ x.vinegar ≤ 3 ∧ x.priorScore ≤ 1000) (q : Option (Option PositionNo)) :
    (s.writeOrder i a q).1.InRange := by
  unfold State.writeOrder
  split
  · exact hs
  · unfold State.writeRecord
    split
    · split <;> [exact hs.createRecord _ (ha _ rfl) _; exact hs]
    all_goals first | exact hs | exact hs.modRecord _ fun h => h.write (ha _ rfl)
  · exact hs

theorem State.InRange.applyWriteCatalogue (o : Order) : (applyWriteCatalogue s o).1.InRange := by
  unfold Machine.applyWriteCatalogue
  split
  · exact hs.writeOrder _ (fun _ h => argAccount_inRange h) _
  · exact hs.writeOrder _ (fun _ h => argAccount_inRange h) _
  · exact hs

theorem State.InRange.eraseRecord (i : RecordNo) : (s.eraseRecord i).InRange := by
  have blank : Record.InRange {} := by simpa [State.reset] using State.reset_inRange.catalogue i
  unfold State.eraseRecord
  split
  · rename_i q _
    have erased := (hs.modPosition q Position.freed).modRecord i (f := fun _ => ({} : Record)) fun _ => blank
    dsimp only
    split <;> [exact erased; exact erased.retryPass none]
  · exact hs.modRecord i fun _ => blank

theorem State.InRange.applyEraseCatalogue (o : Order) : (applyEraseCatalogue s o).1.InRange := by
  refine hs.withArgs fun i _ => ?_
  unfold State.eraseOrder
  split <;> first | exact hs.eraseRecord i | exact hs

theorem State.InRange.applyDefineShelves (o : Order) : (applyDefineShelves s o).1.InRange := by
  refine hs.withArgs fun a _ => ?_
  have defined : (s.definePositions a.1 a.2).InRange := { hs with }
  unfold State.defineOrder
  split
  · exact hs
  · dsimp only
    split <;> [exact defined.retryPass none; exact defined]

theorem State.InRange.applyShelfLock (o : Order) : (applyShelfLock s o).1.InRange :=
  hs.withArgs fun q _ => hs.modPosition q _

theorem State.InRange.applyShelfUnlock (o : Order) : (applyShelfUnlock s o).1.InRange := by
  refine hs.withArgs fun q _ => ?_
  have unlocked : (s.setLock q false).InRange := hs.modPosition q _
  unfold State.unlockOrder
  dsimp only
  split <;> [exact unlocked.retryPass none; exact unlocked]

theorem State.InRange.applyNextTicket (o : Order) : (applyNextTicket s o).1.InRange := by
  unfold Machine.applyNextTicket
  split
  · split <;> [exact hs.modTicket _ _; exact hs]
  · exact hs

theorem State.InRange.admitWaiting (hroom : s.shelf.tickets.length < Config.maxTickets) : s.admitWaiting.InRange := by
  unfold State.admitWaiting
  split
  · exact hs
  · rename_i r rest _
    exact (hs.setShelf (m := { s.shelf with waitList := rest }) hs.tickets).formTicket r hroom

theorem State.InRange.confirm {t : Ticket} (ht : t ∈ s.shelf.tickets) : (s.confirm t).InRange := by
  have home : State.InRange (match t.position with
      | some q => s.modPosition q fun x => { x with state := .occupied }
      | none => s) := by
    split <;> [exact hs.modPosition _ _; exact hs]
  have kept : (match t.position with
      | some q => s.modPosition q fun x => { x with state := .occupied }
      | none => s).shelf.tickets = s.shelf.tickets := by
    split <;> rfl
  have shelved := home.modRecord t.record (f := fun x => { x with state := .shelved, position := t.position })
    fun h => h.of_same rfl
  have fewer : ∀ l, l = s.shelf.tickets → (l.filter fun x => decide (x.number ≠ t.number)).length < Config.maxTickets := by
    rintro _ rfl
    exact Nat.lt_of_lt_of_le (List.length_filter_lt_length_iff_exists.2 ⟨t, ht, by simp⟩) hs.tickets
  unfold State.confirm
  dsimp only
  exact State.InRange.admitWaiting (shelved.setShelf (fewer _ kept).le) (fewer _ kept)

theorem State.InRange.applyConfirmTicket (o : Order) : (applyConfirmTicket s o).1.InRange := by
  refine hs.withArgs fun n _ => ?_
  unfold State.confirmOrder
  split
  · exact hs
  · rename_i ht
    split <;> [exact hs.confirm (List.mem_of_find?_eq_some ht); exact hs]

theorem State.InRange.refusePosition (t : Ticket) (q : PositionNo) (block : Bool) :
    (s.refusePosition t q block).InRange := by
  have allocated := (((hs.modPosition q fun x => x.refused block).modRecord t.record
    (f := fun x => { x with position := none }) fun h => h.of_same rfl).allocateTicket (some (t.number, q)) t)
  unfold State.refusePosition
  dsimp only
  split <;> [exact allocated.retryPass _; exact allocated]

theorem State.InRange.applyRefuseTicket (o : Order) : (applyRefuseTicket s o).1.InRange := by
  refine hs.withArgs fun a _ => ?_
  unfold State.refuseOrder
  split
  · exact hs
  · split
    · dsimp only
      split <;> [exact hs.refusePosition _ _ _; exact hs.allocateTicket none _]
    · exact hs

theorem State.InRange.applySetNoticeLevels (o : Order) : (applySetNoticeLevels s o).1.InRange :=
  hs.withArgs fun _ ha => hs.setNotices
    { hs.notices with levels := (noticeArgs_inRange ha).2, mask := (noticeArgs_inRange ha).1 }

theorem State.InRange.applySetNoticePort (o : Order) : (applySetNoticePort s o).1.InRange :=
  hs.withArgs fun _ _ => hs.setNotices { hs.notices with }

/-- An order that only reads keeps the ranges. -/
theorem State.InRange.reads {α : Type} (a : Args α) (words : α → List Word) :
    (s.withArgs a fun x => (s, .done, words x)).1.InRange :=
  hs.withArgs fun _ _ => hs

theorem State.InRange.applyIdentify (o : Order) : (applyIdentify s o).1.InRange := by
  unfold Machine.applyIdentify
  split <;> exact hs

theorem State.InRange.applySoftReset (o : Order) : (applySoftReset s o).1.InRange := by
  unfold Machine.applySoftReset
  split <;> [exact hs.softReset; exact hs]

end Orders

/-! ### Every step -/

/-- The next state of an outcome, if there is one, is in range. -/
def NextInRange (x : Host.Outcome State Fault Refusal) : Prop := ∀ t, x = .next t → t.InRange

section Step

variable {s : State} (hs : s.InRange)
include hs

theorem State.InRange.next : NextInRange (.next s) := by
  rintro t ⟨⟩
  exact hs

theorem State.InRange.finish : NextInRange s.finish := hs.handOver.next

theorem State.InRange.arrival {p : Port} {t : State} (ht : t.InRange) : NextInRange (s.arrival p t) := by
  unfold State.arrival
  split <;> [exact ht.finish; exact hs.next]

theorem State.InRange.takeOrder {mine : Order → Bool} {apply : State → Order → OrderEffect}
    (hap : ∀ (s : State) (o : Order), s.InRange → (apply s o).1.InRange) : NextInRange (s.takeOrder mine apply) := by
  unfold State.takeOrder
  split
  · exact hs.next
  · rename_i p o _
    split
    · exact ((hs.popOrder p).formReply p _ _ _ _).finish
    · split <;> [exact ((hap _ o (hs.popOrder p)).formReply p _ _ _ _).finish; exact hs.next]

theorem State.InRange.execReplySent (p : Port) : NextInRange (execReplySent p s) := by
  unfold Machine.execReplySent
  split
  · split <;> [exact (hs.sendMgmt p _).finish; exact hs.next]
  · exact hs.next

theorem State.InRange.execNoticeSent : NextInRange (execNoticeSent s) := by
  unfold Machine.execNoticeSent
  split
  · exact hs.next
  · split
    · split <;> [exact (hs.sendNotice _ _).finish; exact hs.next]
    · exact hs.next

theorem State.InRange.execFlowCellSent (h : Head) : NextInRange (execFlowCellSent h s) := by
  unfold Machine.execFlowCellSent
  split
  · exact hs.next
  · split <;> [exact ((hs.modPort (headPort h) fun h => h).sendCell _ _ _).finish; exact hs.next]

theorem State.InRange.execOutLine : NextInRange (execOutLine s) := by
  unfold Machine.execOutLine
  split
  · exact hs.next
  · split <;> [exact (hs.sendLine _ _).finish; exact hs.next]

theorem State.InRange.execSendCompletion : NextInRange (execSendCompletion s) := by
  unfold Machine.execSendCompletion
  split
  · exact hs.next
  · split <;> [exact (hs.completeSend _).finish; exact hs.next]

theorem State.InRange.execRepairCompletion : NextInRange (execRepairCompletion s) := by
  unfold Machine.execRepairCompletion
  split <;> [exact hs.next; exact (hs.completeRepair _).finish]

theorem State.InRange.execRepairWaitTimerExpiry (b : Buf) : NextInRange (execRepairWaitTimerExpiry b s) := by
  unfold Machine.execRepairWaitTimerExpiry
  split <;> [exact (hs.requestRepair b none).finish; exact hs.next]

theorem State.InRange.execAckTimerExpiry (b : Buf) : NextInRange (execAckTimerExpiry b s) := by
  unfold Machine.execAckTimerExpiry
  split <;> [exact (hs.ackExpiry b).finish; exact hs.next]

theorem State.InRange.execHeadLinkLoss (h : Head) : NextInRange (execHeadLinkLoss h s) := by
  unfold Machine.execHeadLinkLoss
  split <;> [exact (hs.loseHeadLink h).finish; exact hs.next]

theorem State.InRange.execHeadLinkUp (h : Head) : NextInRange (execHeadLinkUp h s) := by
  unfold Machine.execHeadLinkUp
  split <;> [exact hs.next; exact (hs.gainHeadLink h).finish]

theorem State.InRange.execStoreLinkLoss : NextInRange (execStoreLinkLoss s) := by
  unfold Machine.execStoreLinkLoss
  split <;> [exact hs.loseStoreLink.finish; exact hs.next]

theorem State.InRange.execStoreLinkUp : NextInRange (execStoreLinkUp s) := by
  unfold Machine.execStoreLinkUp
  split <;> [exact hs.next; exact ((hs.modPort portS fun h => h).raise (by decide) _ _).finish]

theorem State.InRange.exec (c : Instr) : NextInRange (exec c s) := by
  cases c with
  | powerOn => exact s.powerOn_inRange.next
  | headLinkLoss h => exact hs.execHeadLinkLoss h
  | headLinkUp h => exact hs.execHeadLinkUp h
  | storeLinkLoss => exact hs.execStoreLinkLoss
  | storeLinkUp => exact hs.execStoreLinkUp
  | frameHead h c => exact hs.arrival (hs.onFrameHead h c)
  | line h c => exact hs.arrival (hs.onLine h c)
  | frameEnd h c => exact hs.arrival (hs.onFrameEnd h c)
  | reelEnd h c => exact hs.arrival (hs.onReelEnd h c)
  | storeAck c => exact hs.arrival (hs.onStoreAck c)
  | credit c => exact hs.arrival (hs.onCredit c)
  | order p c => exact hs.arrival (hs.onOrder p c)
  | otherKindCell p k c => exact hs.arrival (hs.onCell p k c)
  | repairWaitTimerExpiry b => exact hs.execRepairWaitTimerExpiry b
  | ackTimerExpiry b => exact hs.execAckTimerExpiry b
  | repairCompletion => exact hs.execRepairCompletion
  | outLine => exact hs.execOutLine
  | sendCompletion => exact hs.execSendCompletion
  | replySent p => exact hs.execReplySent p
  | noticeSent => exact hs.execNoticeSent
  | flowCellSent h => exact hs.execFlowCellSent h
  | mountReel => exact hs.takeOrder fun _ o h => h.applyMountReel o
  | unmountReelEnd => exact hs.takeOrder fun _ o h => h.applyUnmount o
  | unmountReelAbort => exact hs.takeOrder fun _ o h => h.applyUnmount o
  | holdReel => exact hs.takeOrder fun _ o h => h.applyHoldReel o
  | resumeReel => exact hs.takeOrder fun _ o h => h.applyResumeReel o
  | setReelPolicy => exact hs.takeOrder fun _ o h => h.applySetReelPolicy o
  | readReel => exact hs.takeOrder fun _ _ h => h.reads _ _
  | setGauge => exact hs.takeOrder fun _ o h => h.applySetGauge o
  | readHead => exact hs.takeOrder fun _ _ h => h.reads _ _
  | setPoolMarks => exact hs.takeOrder fun _ o h => h.applySetPoolMarks o
  | readPool => exact hs.takeOrder fun _ _ h => h.reads _ _
  | setDefectLimits => exact hs.takeOrder fun _ o h => h.applySetDefectLimits o
  | setRepairLimits => exact hs.takeOrder fun _ o h => h.applySetRepairLimits o
  | loadProfileCurve => exact hs.takeOrder fun _ o h => h.applyLoadProfileCurve o
  | setProfileLevels => exact hs.takeOrder fun _ o h => h.applySetProfileLevels o
  | readProfile => exact hs.takeOrder fun _ _ h => h.reads _ _
  | setReelGrade => exact hs.takeOrder fun _ o h => h.applySetReelGrade o
  | setCue => exact hs.takeOrder fun _ o h => h.applySetCue o
  | clearCues => exact hs.takeOrder fun _ o h => h.applyClearCues o
  | writeLaneMap => exact hs.takeOrder fun _ o h => h.applyWriteLaneMap o
  | setAckWait => exact hs.takeOrder fun _ o h => h.applySetAckWait o
  | readLanes => exact hs.takeOrder fun _ _ h => h.reads _ _
  | writeCatalogue => exact hs.takeOrder fun _ o h => h.applyWriteCatalogue o
  | eraseCatalogue => exact hs.takeOrder fun _ o h => h.applyEraseCatalogue o
  | readCatalogue => exact hs.takeOrder fun _ _ h => h.reads _ _
  | defineShelves => exact hs.takeOrder fun _ o h => h.applyDefineShelves o
  | shelfLock => exact hs.takeOrder fun _ o h => h.applyShelfLock o
  | shelfUnlock => exact hs.takeOrder fun _ o h => h.applyShelfUnlock o
  | readShelf => exact hs.takeOrder fun _ _ h => h.reads _ _
  | nextTicket => exact hs.takeOrder fun _ o h => h.applyNextTicket o
  | confirmTicket => exact hs.takeOrder fun _ o h => h.applyConfirmTicket o
  | refuseTicket => exact hs.takeOrder fun _ o h => h.applyRefuseTicket o
  | identify => exact hs.takeOrder fun _ o h => h.applyIdentify o
  | softReset => exact hs.takeOrder fun _ o h => h.applySoftReset o
  | setNoticeLevels => exact hs.takeOrder fun _ o h => h.applySetNoticeLevels o
  | setNoticePort => exact hs.takeOrder fun _ o h => h.applySetNoticePort o
  | resetInputLow => exact State.InRange.next { hs with }

theorem State.InRange.step : NextInRange (step s) := by
  unfold Machine.step
  split
  · exact hs.next
  · rename_i rest _
    exact State.InRange.exec (s := { s with pending := rest }) { hs with } _

end Step

/-- Settles O5: every operation keeps the ranges, and so does the command at the front of the queue. -/
theorem stepKeepsValuesInRange : Obligations.StepKeepsValuesInRange :=
  fun _ t hs h => hs.step t h

end Sys2Proof.Machine
end

section
/-! PROOFS. The state right after reset (O3, O4). -/

namespace Sys2Proof.Machine

theorem State.reset_tied : State.reset.Tied := by
  constructor <;> simp [State.reset, PositionState.taken]

theorem State.reset_memoryWf : State.reset.MemoryWf := fun b => by simp [State.reset, Memory.wf, Memory.wfFrom]

/-- Settles O4: each of the three invariants at reset. -/
theorem resetIsSound : Obligations.ResetIsSound :=
  ⟨State.reset_inRange, State.reset_tied, State.reset_memoryWf⟩

theorem State.reset_freeCount : State.reset.freeCount = 32 := by
  simp [State.freeCount, countEntries, State.reset]

theorem powerOnCurve_get (i : Fin 257) : powerOnCurve[i].toNat = min 65535 (256 * i.val) := by
  simp only [powerOnCurve, Fin.getElem_fin, Vector.getElem_mk, List.getElem_toArray, List.getElem_map, List.getElem_range,
    BitVec.toNat_ofNat]
  omega

theorem powerOnLaneMap_get (i : Fin 32) : powerOnLaneMap[i].val = i.val % 4 := by
  simp [powerOnLaneMap]

/-- Settles O3: the fields of every block at reset, each table a replication of one record. -/
theorem resetHoldsPowerOnValues : Obligations.ResetHoldsPowerOnValues := by
  unfold Obligations.ResetHoldsPowerOnValues
  dsimp only
  refine ⟨fun r => ?reels, fun h => ?heads, fun g => ?gauges, fun b => ?buffers, fun b a => ?dram, rfl,
    State.reset_freeCount, rfl, rfl, rfl, rfl, rfl, fun p c => ⟨?black, ?gain, fun i => ?curve, ?depth, ?dither⟩,
    powerOnLaneMap_get, fun l => ?lanes, rfl, rfl, rfl, rfl, rfl, fun i => ?catalogue, fun q => ?positions, rfl, rfl, rfl,
    rfl, rfl, rfl, rfl, rfl, fun p => ?ports, rfl, rfl, rfl⟩
  case dram => simp [State.reset, Memory.read, Memory.unwritten, Sample.zero]
  case curve =>
    rw [← powerOnCurve_get i]
    simp [State.reset, powerOnProfile]
  all_goals simp [State.reset, powerOnProfile]

end Sys2Proof.Machine
end

section
/-! PROOFS. The taking of an order (R180, R181): what a command does with the order it takes, and the argument words that
name a number of a range. -/

namespace Sys2Proof.Machine

/-! ### Argument words -/

theorem natWord_toNat {n : Nat} (h : n < 2 ^ 32) : (natWord n).toNat = n := by
  rw [natWord, BitVec.toNat_ofNat, Nat.mod_eq_of_lt h]

theorem intWord_toInt {t : Int} (h : trimInRange t) : (intWord t).toInt = t := by
  obtain ⟨hl, hh⟩ := h
  rw [intWord, BitVec.toInt_ofInt]
  exact Int.bmod_eq_of_le (by omega) (by omega)

/-- A number of a range is read back from its word. -/
theorem argFin_natWord {n : Nat} (hn : n < 2 ^ 32) (i : Fin n) : argFin n (natWord i.val) = some i := by
  have := i.isLt
  simp [argFin, natWord_toNat (show i.val < 2 ^ 32 by omega)]

theorem argRange_natWord {lo hi n : Nat} (hl : lo ≤ n) (hh : n ≤ hi) (hn : n < 2 ^ 32) :
    argRange lo hi (natWord n) = some n := by
  simp [argRange, natWord_toNat hn, hl, hh]

theorem argTrim_intWord {t : Int} (h : trimInRange t) : argTrim (intWord t) = some t := by
  rw [argTrim, intWord_toInt h]
  exact if_pos h

theorem argGrade_words {g : Grade} (h : g.InRange) :
    argGrade (natWord g.profile.val) (intWord g.trimR) (intWord g.trimG) (intWord g.trimB) = some g := by
  obtain ⟨hr, hg, hb⟩ := h
  simp [argGrade, argFin_natWord (n := 8) (by decide), argTrim_intWord hr, argTrim_intWord hg, argTrim_intWord hb]

theorem argPolicy_words {x : Policy} (h : x.InRange) :
    argPolicy (natWord x.settleCount) (natWord x.irThreshold) (if x.heavyAction = .hold then 1 else 0)
      (natWord x.perfRunLimit) = some x := by
  obtain ⟨hs, hi, hl⟩ := h
  obtain ⟨settle, ir, action, limit⟩ := x
  dsimp only at hs hi hl
  rw [argPolicy, argRange_natWord (Nat.zero_le _) hs (by omega), argRange_natWord (Nat.zero_le _) hi (by omega),
    argRange_natWord (Nat.zero_le _) hl (by omega)]
  cases action <;> rfl

theorem argCurve_words (q : ProfileNo) (c : Fin 3) {first count : Nat} (h1 : 1 ≤ count) (h2 : count ≤ 32)
    (h3 : first + count ≤ 257) :
    argCurve (natWord q.val) (natWord c.val) (natWord first) (natWord count) = some ⟨q, c, first, count⟩ := by
  rw [argCurve, argFin_natWord (by decide), argFin_natWord (by decide), argRange_natWord (Nat.zero_le _) (by omega) (by omega),
    argRange_natWord h1 h2 (by omega)]
  simp [Config.curvePoints, h3]

theorem argShelfRange_words {most first count : Nat} (h1 : 1 ≤ count) (h2 : count ≤ most)
    (h3 : first + count ≤ 1024) :
    argShelfRange most (natWord first) (natWord count) = some ⟨first, count⟩ := by
  rw [argShelfRange, argRange_natWord (Nat.zero_le _) (by omega) (by omega), argRange_natWord h1 h2 (by omega)]
  simp [h3]

theorem slotArgs_word (r : Slot) : slotArgs [natWord r.val] = .ok r := by
  rw [slotArgs, argFin_natWord (by decide)]
  rfl

/-! ### The order taken -/

/-- A command that takes the next order, of a known code and of its own row, leads to the state of `replied`. -/
theorem State.takeOrder_of_next {s : State} {p : Port} {o : Order} (hn : s.nextOrder = some (p, o))
    (hk : codeKnown o.code = true) {mine : Order → Bool} (hm : mine o = true) (apply : State → Order → OrderEffect) :
    s.takeOrder mine apply = .next (replied p o (apply (s.popOrder p) o)) := by
  simp [State.takeOrder, hn, hk, hm, State.answer, replied, State.finish]

/-- The taking of an order of one code by that code's command. -/
theorem State.Takes.takeOrder {s : State} {p : Port} {o : Order} {n : Nat} {ws : List Word} (h : s.Takes p o n ws)
    (hl : 1 ≤ n) (hh : n ≤ 35) (apply : State → Order → OrderEffect) :
    s.takeOrder (hasCode n) apply = .next (replied p o (apply (s.popOrder p) o)) := by
  obtain ⟨hn, hc, -⟩ := h
  exact State.takeOrder_of_next hn (by simp [codeKnown, hc, hl, hh]) (by simp [hasCode, hc]) apply

theorem State.Takes.args {s : State} {p : Port} {o : Order} {n : Nat} {ws : List Word} (h : s.Takes p o n ws) : o.args = ws :=
  h.2.2

/-- The taking of an order whose argument words are good. -/
theorem State.Takes.withArgs {s : State} {p : Port} {o : Order} {n : Nat} {ws : List Word} (h : s.Takes p o n ws)
    (hl : 1 ≤ n) (hh : n ≤ 35) {α : Type} {parse : List Word → Args α} {a : α} (hp : parse ws = .ok a)
    (k : State → Order → α → OrderEffect) :
    s.takeOrder (hasCode n) (fun s o => s.withArgs (parse o.args) (k s o)) =
      .next (replied p o (k (s.popOrder p) o a)) := by
  rw [h.takeOrder hl hh]
  simp only [h.args, hp, State.withArgs]

/-! ### The reading orders (R23, R44, R60, R103, R144, R150, R163, R182) -/

section Readers

variable {s : State} {p : Port} {o : Order}

/-- A reading order with good arguments answers DONE with its words. -/
theorem State.Takes.reads {n : Nat} {ws : List Word} (h : s.Takes p o n ws) (hl : 1 ≤ n) (hh : n ≤ 35) {α : Type}
    {parse : List Word → Args α} {a : α} (hp : parse ws = .ok a) (words : State → α → List Word) {reply : List Word}
    (hw : words (s.popOrder p) a = reply) :
    s.takeOrder (hasCode n) (fun s o => s.withArgs (parse o.args) fun a => (s, .done, words s a)) =
      .next (replied p o (s.popOrder p, .done, reply)) := by
  rw [h.withArgs hl hh hp fun s _ a => (s, .done, words s a), hw]

/-- A port's link is what the readers report of the ports, and the taking of an order keeps it. -/
theorem popOrder_port (q : Port) : (s.popOrder p).links.ports[q] =
    { s.links.ports[q] with orders := if p = q then s.links.ports[q].orders.drop 1 else s.links.ports[q].orders } := by
  rw [State.popOrder_links, modEntry_get]
  split <;> rfl

theorem popOrder_headWords (h : Head) : (s.popOrder p).headWords h = s.headWords h := by
  unfold State.headWords
  simp only [popOrder_port]
  rfl

theorem popOrder_identityReply : (s.popOrder p).identityReply = s.identityReply := by
  unfold State.identityReply
  simp only [popOrder_port]
  rfl

theorem headArgs_word (h : Head) : headArgs [natWord h.val] = .ok h := by
  rw [headArgs, argFin_natWord (by decide)]
  rfl

theorem poolArgs_word (b : Buf) : poolArgs [natWord b.val] = .ok (some b) := by
  rw [poolArgs, argFin_natWord (by decide)]
  rfl

theorem laneArgs_word (l : Lane) : laneArgs [natWord l.val] = .ok (some l) := by
  rw [laneArgs, argFin_natWord (by decide)]
  rfl

theorem recordArgs_word (i : RecordNo) : recordArgs [natWord i.val] = .ok i := by
  rw [recordArgs, argFin_natWord (by decide)]
  rfl

theorem readProfileArgs_words (q : ProfileNo) (c : Fin 3) {first count : Nat} (h1 : 1 ≤ count) (h2 : count ≤ 32)
    (h3 : first + count ≤ 257) :
    readProfileArgs [natWord q.val, natWord c.val, natWord first, natWord count] = .ok ⟨q, c, first, count⟩ := by
  rw [readProfileArgs, argCurve_words q c h1 h2 h3]
  rfl

theorem readShelfArgs_words {first count : Nat} (h1 : 1 ≤ count) (h2 : count ≤ 64) (h3 : first + count ≤ 1024) :
    readShelfArgs [natWord first, natWord count] = .ok ⟨first, count⟩ := by
  rw [readShelfArgs, argShelfRange_words h1 h2 h3]
  rfl

/-- Settles O18: each reader's argument words are read back, and the words it reports do not depend on the order queues. -/
theorem readersReplyAndChangeNothing : Obligations.ReadersReplyAndChangeNothing := by
  intro s p o
  refine ⟨fun r h => ?reel, fun h ht => ?head, fun h => ?pool, fun b h => ?buffer, fun q c first count h1 h2 h3 h => ?profile,
    fun h => ?lanes, fun l h => ?lane, fun i h => ?record, fun first count h1 h2 h3 h => ?shelf, fun h => ?identify⟩
  case reel => exact h.reads (by decide) (by decide) (slotArgs_word r) (fun s r => reelWords s.reels[r]) rfl
  case head => exact ht.reads (by decide) (by decide) (headArgs_word h) State.headWords (popOrder_headWords h)
  case pool => exact h.reads (by decide) (by decide) (parse := poolArgs) rfl State.poolWords rfl
  case buffer => exact h.reads (by decide) (by decide) (poolArgs_word b) State.poolWords rfl
  case profile =>
    exact h.reads (by decide) (by decide) (readProfileArgs_words q c h1 h2 h3) State.profileWords rfl
  case lanes => exact h.reads (by decide) (by decide) (parse := laneArgs) rfl State.lanesWords rfl
  case lane => exact h.reads (by decide) (by decide) (laneArgs_word l) State.lanesWords rfl
  case record => exact h.reads (by decide) (by decide) (recordArgs_word i) State.catalogueWords rfl
  case shelf => exact h.reads (by decide) (by decide) (readShelfArgs_words h1 h2 h3) State.shelfWords rfl
  case identify =>
    have taken := h.takeOrder (by decide) (by decide) applyIdentify
    rw [applyIdentify, h.args] at taken
    rw [← popOrder_identityReply (p := p)]
    exact taken

end Readers

end Sys2Proof.Machine
end

section
/-! PROOFS. The reel orders at a gap and in mid-frame (R5, R6, R9, R12, R14, R15, R17), from what each search and test of the
reel table says. -/

namespace Sys2Proof.Machine

/-! ### What the tests of the reel table say -/

theorem ReelState.bound_iff (x : ReelState) : x.bound = true ↔ x ∈ [.mounted, .running, .held] := by
  cases x <;> decide

theorem State.boundSlot_some {s : State} {h : Head} {r : Slot} (hb : s.boundSlot h = some r) :
    s.reels[r].head = h ∧ s.reels[r].state.bound = true := by
  simpa using (firstEntry_some hb).1

theorem State.boundSlot_none_iff {s : State} {h : Head} :
    s.boundSlot h = none ↔ ∀ r : Slot, ¬ (s.reels[r].head = h ∧ s.reels[r].state.bound = true) := by
  constructor
  · intro hb r
    simpa using firstEntry_none hb r
  · intro hn
    by_contra hb
    obtain ⟨r, hr⟩ := Option.ne_none_iff_exists'.1 hb
    exact hn r (State.boundSlot_some hr)

theorem State.freeSlot_none_iff {s : State} : s.freeSlot = none ↔ ∀ r : Slot, s.reels[r].state ≠ .free := by
  constructor
  · intro hf r
    simpa using firstEntry_none hf r
  · intro hn
    by_contra hf
    obtain ⟨r, hr⟩ := Option.ne_none_iff_exists'.1 hf
    exact hn r (by simpa using (firstEntry_some hr).1)

/-- The entry that passes a test with none below it is the one found. -/
theorem firstEntry_eq_some {α : Type} {n : Nat} {p : Nat → α → Bool} {v : Vector α n} {i : Fin n}
    (hi : p i.val v[i] = true) (hl : ∀ k : Fin n, k < i → p k.val v[k] = false) : firstEntry p v = some i := by
  cases h : firstEntry p v with
  | none => rw [firstEntry_none h i] at hi; cases hi
  | some j =>
    obtain ⟨hj, hjl⟩ := firstEntry_some h
    rcases lt_trichotomy i j with hij | rfl | hij
    · rw [hjl i hij] at hi; cases hi
    · rfl
    · rw [hl j hij] at hj; cases hj

theorem State.freeSlot_eq_some {s : State} {r : Slot} (hr : s.reels[r].state = .free)
    (hl : ∀ k < r, s.reels[k].state ≠ .free) : s.freeSlot = some r :=
  firstEntry_eq_some (by simpa using hr) fun k hk => by simpa using hl k hk

theorem State.assemblingFor_iff {s : State} {r : Slot} :
    s.assemblingFor r = true ↔
      ∃ b d, s.intake.heads[s.reels[r].head].assembly = .assembling b d ∧ d.slot = r := by
  unfold State.assemblingFor
  split
  · rename_i b d hd
    simp only [decide_eq_true_eq]
    constructor
    · exact fun h => ⟨b, d, hd, h⟩
    · rintro ⟨_, _, h, hr⟩
      rw [hd] at h
      cases h
      exact hr
  · rename_i hn
    simp only [Bool.false_eq_true, false_iff]
    rintro ⟨b, d, h, -⟩
    exact hn b d h

theorem State.midFrame_iff {s : State} {r : Slot} :
    s.midFrame r = true ↔ s.reels[r].state = .running ∧
      ∃ b d, s.intake.heads[s.reels[r].head].assembly = .assembling b d ∧ d.slot = r := by
  rw [State.midFrame, Bool.and_eq_true, decide_eq_true_eq, State.assemblingFor_iff]

theorem State.isUp_iff {s : State} {p : Port} : s.isUp p = true ↔ s.links.ports[p].link = .up := by simp [State.isUp]

theorem State.isUp_eq_false_iff {s : State} {p : Port} : s.isUp p = false ↔ s.links.ports[p].link = .down := by
  rw [State.isUp]
  cases s.links.ports[p].link <;> decide

theorem popOrder_isUp (s : State) (p q : Port) : (s.popOrder p).isUp q = s.isUp q := by
  rw [State.isUp, popOrder_port]
  rfl

/-! ### Orders that may wait for a gap (R15) -/

section Waiting

variable {s : State} {r : Slot}

theorem State.deferOrder_room {d : Deferred} (h : s.reels[r].deferred.length < 4) :
    s.deferOrder r d = (s.modReel r fun x => { x with deferred := x.deferred ++ [d] }, .deferred, []) :=
  if_pos h

theorem State.deferOrder_full {d : Deferred} (h : 4 ≤ s.reels[r].deferred.length) : s.deferOrder r d = (s, .full, []) :=
  if_neg (Nat.not_lt.2 h)

theorem State.unmountEnd_gap {tag : BitVec 16} (hb : s.reels[r].state ∈ [.mounted, .running, .held]) (hm : s.midFrame r = false) :
    s.unmountEnd r tag = (s.enterDraining r .unmount, .done, []) := by
  unfold State.unmountEnd
  split
  case h_1 | h_2 | h_3 => simp [hm]
  all_goals simp_all

theorem State.unmountEnd_mid {tag : BitVec 16} (hm : s.midFrame r = true) :
    s.unmountEnd r tag = s.deferOrder r (.unmountEnd tag) := by
  unfold State.unmountEnd
  simp only [(State.midFrame_iff.1 hm).1, hm, ↓reduceIte]

theorem State.unmountEnd_unbound {tag : BitVec 16} (hb : s.reels[r].state ∈ [.free, .draining, .closed]) :
    s.unmountEnd r tag = (s, .wrongState, []) := by
  unfold State.unmountEnd
  split
  case h_4 | h_5 | h_6 => rfl
  all_goals simp_all

theorem State.holdOrder_gap {tag : BitVec 16} (hb : s.reels[r].state ∈ [.mounted, .running]) (hm : s.midFrame r = false) :
    s.holdOrder tag r = (s.takeHold r 0, .done, []) := by
  unfold State.holdOrder
  split
  case h_1 | h_2 => simp [hm]
  all_goals simp_all

theorem State.holdOrder_mid {tag : BitVec 16} (hm : s.midFrame r = true) :
    s.holdOrder tag r = s.deferOrder r (.holdReel tag) := by
  unfold State.holdOrder
  simp only [(State.midFrame_iff.1 hm).1, hm, ↓reduceIte]

theorem State.holdOrder_other {tag : BitVec 16} (hb : s.reels[r].state ∈ [.held, .free, .draining, .closed]) :
    s.holdOrder tag r = (s, .wrongState, []) := by
  unfold State.holdOrder
  split
  case h_3 | h_4 | h_5 | h_6 => rfl
  all_goals simp_all

theorem State.policyOrder_gap {tag : BitVec 16} {y : Policy} (hb : s.reels[r].state ∈ [.mounted, .running, .held])
    (hm : s.midFrame r = false) : s.policyOrder tag (r, y) = (s.applyPolicy r y, .done, []) := by
  unfold State.policyOrder
  split
  case h_1 | h_2 | h_3 => simp [hm]
  all_goals simp_all

theorem State.policyOrder_mid {tag : BitVec 16} {y : Policy} (hm : s.midFrame r = true) :
    s.policyOrder tag (r, y) = s.deferOrder r (.setPolicy tag y) := by
  unfold State.policyOrder
  simp only [(State.midFrame_iff.1 hm).1, hm, ↓reduceIte]

theorem State.policyOrder_unbound {tag : BitVec 16} {y : Policy} (hb : s.reels[r].state ∈ [.free, .draining, .closed]) :
    s.policyOrder tag (r, y) = (s, .wrongState, []) := by
  unfold State.policyOrder
  split
  case h_4 | h_5 | h_6 => rfl
  all_goals simp_all

/-- A hold that takes effect (R10). -/
theorem State.takeHold_bound {cause : Nat} (hb : s.reels[r].state ∈ [.mounted, .running]) :
    s.takeHold r cause =
      (((((s.modReel r fun x => { x with state := .held }).formFlow s.reels[r].head .halt).raise
        .reelHeld r.val (some s.reels[r].record) cause).requestPending r).clearLatestHold r) := by
  have : s.reels[r].state = .mounted ∨ s.reels[r].state = .running := by simpa using hb
  simp only [State.takeHold, this, ↓reduceIte]

end Waiting

/-! ### UNMOUNT-REEL (R17, R18) -/

theorem unmountArgs_words (r : Slot) (form : Bool) : unmountArgs [natWord r.val, flagWord form] = .ok (r, form) := by
  rw [unmountArgs, argFin_natWord (by decide)]
  cases form <;> rfl

/-- An UNMOUNT-REEL of a form is taken by that form's command. -/
theorem State.Takes.unmount {s : State} {p : Port} {o : Order} {r : Slot} {form : Bool}
    (h : s.Takes p o 2 [natWord r.val, flagWord form]) :
    exec (if form then .unmountReelAbort else .unmountReelEnd) s =
      .next (replied p o ((s.popOrder p).unmountOrder o.tag (r, form))) := by
  have hform : unmountForm o = some form := by simp only [unmountForm, h.args, unmountArgs_words]
  have happly : applyUnmount (s.popOrder p) o = (s.popOrder p).unmountOrder o.tag (r, form) := by
    simp only [applyUnmount, h.args, unmountArgs_words, State.withArgs]
  obtain ⟨hn, hc, -⟩ := h
  rw [← happly]
  cases form <;> exact State.takeOrder_of_next hn (by simp [codeKnown, hc]) (by simp [hasCode, hc, hform]) applyUnmount

/-- Settles O30: UNMOUNT-REEL END at a gap, in mid-frame and on an unbound slot. -/
theorem unmountEndDrainsAtAGap : Obligations.UnmountEndDrainsAtAGap := by
  intro s p o r h x midFrame
  have mid : (s.popOrder p).midFrame r = true ↔ midFrame := State.midFrame_iff
  have taken : exec .unmountReelEnd s = .next (replied p o ((s.popOrder p).unmountEnd r o.tag)) :=
    State.Takes.unmount (form := false) h
  refine ⟨?gap, fun hm hl => ?mid, fun hm hl => ?full, fun hb => ?unbound⟩
  case gap =>
    intro hb hm t
    rw [taken, State.unmountEnd_gap (s := s.popOrder p) hb (Bool.eq_false_iff.2 (mt mid.1 hm))]
    rfl
  case mid =>
    rw [taken, State.unmountEnd_mid (s := s.popOrder p) (mid.2 hm), State.deferOrder_room (s := s.popOrder p) hl]
    rfl
  case full => rw [taken, State.unmountEnd_mid (s := s.popOrder p) (mid.2 hm), State.deferOrder_full (s := s.popOrder p) hl]
  case unbound => rw [taken, State.unmountEnd_unbound (s := s.popOrder p) hb]

/-! ### HOLD-REEL, RESUME-REEL and SET-REEL-POLICY (R9, R12, R14) -/

theorem policyArgs_words (r : Slot) {y : Policy} (hy : y.InRange) :
    policyArgs [natWord r.val, natWord y.settleCount, natWord y.irThreshold, if y.heavyAction = .hold then 1 else 0,
      natWord y.perfRunLimit] = .ok (r, y) := by
  rw [policyArgs, argFin_natWord (by decide), argPolicy_words hy]
  rfl

theorem State.resumeOrder_held {s : State} {r : Slot} (h : s.reels[r].state = .held) :
    s.resumeOrder r = (s.resume r, .done, []) :=
  if_pos h

theorem State.resumeOrder_other {s : State} {r : Slot} (h : s.reels[r].state ≠ .held) :
    s.resumeOrder r = (s, .wrongState, []) :=
  if_neg h

/-- One port changed twice. -/
theorem modEntry_modEntry {α : Type} {n : Nat} (v : Vector α n) (i : Fin n) (f g : α → α) :
    modEntry (modEntry v i f) i g = modEntry v i fun x => g (f x) := by
  apply Vector.ext
  intro j hj
  simp only [modEntry_getElem]
  split <;> rfl

theorem modPort_modPort (s : State) (p : Port) (f g : PortState → PortState) :
    (s.modPort p f).modPort p g = s.modPort p fun q => g (f q) := by
  simp only [State.modPort, modEntry_modEntry]

theorem State.formFlow_up {s : State} {h : Head} (hu : s.isUp (headPort h) = true) (c : FlowCell) :
    s.formFlow h c = s.modPort (headPort h) fun q => { q with flow := q.flow ++ [c] } :=
  if_pos hu

theorem State.formFlow_down {s : State} {h : Head} (hu : s.isUp (headPort h) = false) (c : FlowCell) :
    s.formFlow h c = s.modPort (headPort h) fun q => { q with dropped := q.dropped + 1 } :=
  if_neg (by simp [hu])

theorem State.modReel_isUp (s : State) (r : Slot) (f : Reel → Reel) (q : Port) : (s.modReel r f).isUp q = s.isUp q := rfl

theorem State.modPort_isUp (s : State) (p q : Port) {f : PortState → PortState} (hf : ∀ x, (f x).link = x.link) :
    (s.modPort p f).isUp q = s.isUp q := by
  rw [State.isUp, State.isUp, State.modPort_links, modEntry_get]
  split <;> simp [hf]

theorem State.tellPaced_paced {s : State} {h : Head} (hp : s.pool.pacing = .paced) (hu : s.isUp (headPort h) = true) :
    s.tellPaced h = s.modPort (headPort h) fun q => { q with flow := q.flow ++ [.paceHold] } := by
  rw [State.tellPaced, if_pos ⟨hp, hu⟩, State.formFlow_up hu]

theorem State.tellPaced_open {s : State} {h : Head} (hp : ¬ (s.pool.pacing = .paced ∧ s.isUp (headPort h) = true)) :
    s.tellPaced h = s :=
  if_neg hp

theorem State.formFlow_reels (s : State) (h : Head) (c : FlowCell) : (s.formFlow h c).reels = s.reels := by
  unfold State.formFlow
  split <;> rfl

/-- RESUME-REEL on a HELD reel (R12): GO on the reel's head, and what a PACED pool tells it. -/
theorem State.resume_eq (s : State) (r : Slot) :
    s.resume r = ((s.modReel r fun x => { x with state := .running, settleRemaining := x.policy.settleCount }).formFlow
      s.reels[r].head .go).tellPaced s.reels[r].head := by
  have head : ((s.modReel r fun x => { x with state := .running, settleRemaining := x.policy.settleCount }).reels[r]).head =
      s.reels[r].head := by
    rw [State.modReel_reels, modEntry_get, if_pos rfl]
  unfold State.resume
  dsimp only
  rw [State.formFlow_reels, head]

@[simp] theorem State.formFlow_isUp (s : State) (h : Head) (c : FlowCell) (q : Port) : (s.formFlow h c).isUp q = s.isUp q := by
  unfold State.formFlow
  split <;> exact s.modPort_isUp _ _ fun _ => rfl

@[simp] theorem State.formFlow_pool (s : State) (h : Head) (c : FlowCell) : (s.formFlow h c).pool = s.pool := by
  unfold State.formFlow
  split <;> rfl

/-- GO on an UP port, and PACE-HOLD behind it from a PACED pool (R12, R58). -/
theorem State.goAndPace_up {s : State} {h : Head} (hu : s.isUp (headPort h) = true) :
    (s.formFlow h .go).tellPaced h = s.modPort (headPort h) fun q =>
      { q with flow := q.flow ++ if s.pool.pacing = .paced then [.go, .paceHold] else [.go] } := by
  by_cases hp : s.pool.pacing = .paced
  · rw [State.tellPaced_paced (by rw [State.formFlow_pool]; exact hp) (by rw [State.formFlow_isUp]; exact hu),
      State.formFlow_up hu, modPort_modPort]
    simp [hp]
  · rw [State.tellPaced_open (by rw [State.formFlow_pool]; exact fun h => hp h.1), State.formFlow_up hu]
    simp [hp]

/-- GO for a DOWN port is dropped and counted, and a DOWN port is told nothing more (R58, R177). -/
theorem State.goAndPace_down {s : State} {h : Head} (hu : s.isUp (headPort h) = false) :
    (s.formFlow h .go).tellPaced h = s.modPort (headPort h) fun q => { q with dropped := q.dropped + 1 } := by
  rw [State.tellPaced_open (by simp [hu]), State.formFlow_down hu]

/-- Settles O32: the three orders at a gap, in mid-frame and elsewhere. -/
theorem holdResumeAndPolicyOrders : Obligations.HoldResumeAndPolicyOrders := by
  refine ⟨fun s p o r h => ?hold, fun s p o r h => ?resume, fun s p o r y hy h => ?policy⟩
  case hold =>
    intro x midFrame
    have mid : (s.popOrder p).midFrame r = true ↔ midFrame := State.midFrame_iff
    have taken : exec .holdReel s = .next (replied p o ((s.popOrder p).holdOrder o.tag r)) :=
      h.withArgs (by decide) (by decide) (slotArgs_word r) fun s o => s.holdOrder o.tag
    refine ⟨?gap, fun hm hl => ?mid, fun hm hl => ?full, fun hb => ?other⟩
    case gap =>
      intro hb hm t
      rw [taken, State.holdOrder_gap (s := s.popOrder p) hb (Bool.eq_false_iff.2 (mt mid.1 hm)), State.takeHold_bound (s := s.popOrder p) hb]
      rfl
    case mid =>
      rw [taken, State.holdOrder_mid (s := s.popOrder p) (mid.2 hm), State.deferOrder_room (s := s.popOrder p) hl]
      rfl
    case full => rw [taken, State.holdOrder_mid (s := s.popOrder p) (mid.2 hm), State.deferOrder_full (s := s.popOrder p) hl]
    case other => rw [taken, State.holdOrder_other (s := s.popOrder p) hb]
  case resume =>
    intro x t
    have taken : exec .resumeReel s = .next (replied p o ((s.popOrder p).resumeOrder r)) :=
      h.withArgs (by decide) (by decide) (slotArgs_word r) fun s _ => s.resumeOrder
    refine ⟨?up, ?down, ?other⟩
    case up =>
      intro hx hu
      rw [taken, State.resumeOrder_held (s := s.popOrder p) hx, State.resume_eq]
      exact congrArg (fun t => Host.Outcome.next (replied p o (t, .done, [])))
        (State.goAndPace_up (by rw [State.modReel_isUp, popOrder_isUp]; exact State.isUp_iff.2 hu))
    case down =>
      intro hx hu
      rw [taken, State.resumeOrder_held (s := s.popOrder p) hx, State.resume_eq]
      exact congrArg (fun t => Host.Outcome.next (replied p o (t, .done, [])))
        (State.goAndPace_down (by rw [State.modReel_isUp, popOrder_isUp]; exact State.isUp_eq_false_iff.2 hu))
    case other =>
      intro hx
      rw [taken, State.resumeOrder_other (s := s.popOrder p) hx]
  case policy =>
    intro x midFrame
    have mid : (s.popOrder p).midFrame r = true ↔ midFrame := State.midFrame_iff
    have taken : exec .setReelPolicy s = .next (replied p o ((s.popOrder p).policyOrder o.tag (r, y))) :=
      h.withArgs (by decide) (by decide) (policyArgs_words r hy) fun s o => s.policyOrder o.tag
    refine ⟨?gap, fun hm hl => ?mid, fun hm hl => ?full, fun hb => ?unbound⟩
    case gap =>
      intro hb hm
      rw [taken, State.policyOrder_gap (s := s.popOrder p) hb (Bool.eq_false_iff.2 (mt mid.1 hm))]
      rfl
    case mid =>
      rw [taken, State.policyOrder_mid (s := s.popOrder p) (mid.2 hm), State.deferOrder_room (s := s.popOrder p) hl]
      rfl
    case full => rw [taken, State.policyOrder_mid (s := s.popOrder p) (mid.2 hm), State.deferOrder_full (s := s.popOrder p) hl]
    case unbound => rw [taken, State.policyOrder_unbound (s := s.popOrder p) hb]

end Sys2Proof.Machine
end

section
/-! PROOFS. MOUNT-REEL (R5, R6). -/

namespace Sys2Proof.Machine

theorem mountArgs_words (h : Head) (i : RecordNo) (g : GaugeCode) {grade : Grade} (hg : grade.InRange)
    {policy : Option Policy} (hp : ∀ x, policy = some x → x.InRange) :
    mountArgs ([natWord h.val, natWord i.val, natWord g.val, natWord grade.profile.val, intWord grade.trimR,
      intWord grade.trimG, intWord grade.trimB] ++ (policy.toList.flatMap fun x =>
        [natWord x.settleCount, natWord x.irThreshold, if x.heavyAction = .hold then 1 else 0, natWord x.perfRunLimit])) =
      .ok ⟨h, i, g, grade, policy.getD defaultPolicy⟩ := by
  cases policy with
  | none =>
    change mountArgs [_, _, _, _, _, _, _] = _
    rw [mountArgs, argFin_natWord (by decide), argFin_natWord (by decide), argFin_natWord (by decide), argGrade_words hg]
    rfl
  | some x =>
    change mountArgs [_, _, _, _, _, _, _, _, _, _, _] = _
    rw [mountArgs, argFin_natWord (by decide), argFin_natWord (by decide), argFin_natWord (by decide), argGrade_words hg,
      argPolicy_words (hp x rfl)]
    rfl

section Mount

variable {s : State} {a : MountArgs}

/-- MOUNT-REEL's tests in their order (R5). -/
theorem State.mountOrder_inUse {r : Slot} (hr : s.reels[r].head = a.head ∧ s.reels[r].state.bound = true) :
    s.mountOrder a = (s, .inUse, []) := by
  have : (s.boundSlot a.head).isSome = true := by
    rw [Option.isSome_iff_ne_none, Ne, State.boundSlot_none_iff]
    exact fun hn => hn r hr
  exact if_pos this

theorem State.mountOrder_full (hb : s.boundSlot a.head = none) (hf : s.freeSlot = none) :
    s.mountOrder a = (s, .full, []) := by
  simp only [State.mountOrder, hb, hf, Option.isSome_none, Bool.false_eq_true, ↓reduceIte, State.refuse]

theorem State.mountOrder_wrongState {r : Slot} (hb : s.boundSlot a.head = none) (hf : s.freeSlot = some r)
    (hc : s.catalogue[a.record].state ∉ [.shelved, .out]) : s.mountOrder a = (s, .wrongState, []) := by
  have : ¬ (s.catalogue[a.record].state = .shelved ∨ s.catalogue[a.record].state = .out) :=
    fun h => hc (by simpa only [List.mem_cons, List.not_mem_nil, or_false] using h)
  simp only [State.mountOrder, hb, hf, Option.isSome_none, Bool.false_eq_true, ↓reduceIte, State.refuse, this, not_false_eq_true]

theorem State.mountOrder_shelved {r : Slot} (hb : s.boundSlot a.head = none) (hf : s.freeSlot = some r)
    (hc : s.catalogue[a.record].state ∈ [.shelved, .out]) :
    s.mountOrder a = if s.intake.gauges[a.gauge].pitch = 0 then (s, .badArgument, [])
      else (s.mount a r, .done, [natWord r.val]) := by
  have : s.catalogue[a.record].state = .shelved ∨ s.catalogue[a.record].state = .out := by
    simpa only [List.mem_cons, List.not_mem_nil, or_false] using hc
  simp only [State.mountOrder, hb, hf, Option.isSome_none, Bool.false_eq_true, ↓reduceIte, State.refuse, this,
    not_true_eq_false]

theorem State.exists_freeSlot {r : Slot} (hr : s.reels[r].state = .free) : ∃ k, s.freeSlot = some k := by
  rw [← Option.ne_none_iff_exists', Ne, State.freeSlot_none_iff]
  exact fun hn => hn r hr

/-- The record ON_HEAD, and the position it names its home (R6, R151). -/
theorem State.takeFromShelf_eq (s : State) (i : RecordNo) :
    s.takeFromShelf i = { s with
      catalogue := s.catalogue.set i { s.catalogue[i] with state := .onHead }
      shelf := match s.catalogue[i].position with
        | some q => { s.shelf with
            positions := s.shelf.positions.set q { s.shelf.positions[q] with state := .reserved, owner := some i } }
        | none => s.shelf } := by
  unfold State.takeFromShelf
  cases s.catalogue[i].position <;> rfl

end Mount

/-- Settles O29: the tests of R5 in their order, then the mount. -/
theorem mountReelTakesTheLowestFreeSlot : Obligations.MountReelTakesTheLowestFreeSlot := by
  intro s p o h i g grade policy hg hp ht bound
  have taken : exec .mountReel s =
      .next (replied p o ((s.popOrder p).mountOrder ⟨h, i, g, grade, policy.getD defaultPolicy⟩)) :=
    ht.withArgs (by decide) (by decide) (mountArgs_words h i g hg hp) fun s _ => s.mountOrder
  have hbound : ∀ r, bound r ↔ s.reels[r].head = h ∧ s.reels[r].state.bound = true :=
    fun r => and_congr_right fun _ => (ReelState.bound_iff _).symm
  have hnone : (∀ r, ¬ bound r) → (s.popOrder p).boundSlot h = none :=
    fun hn => State.boundSlot_none_iff.2 fun r hr => hn r ((hbound r).2 hr)
  have answer : ∀ {e}, (s.popOrder p).mountOrder ⟨h, i, g, grade, policy.getD defaultPolicy⟩ = e →
      exec .mountReel s = .next (replied p o e) := fun he => he ▸ taken
  refine ⟨?inUse, ?full, ?wrongState, ?badArgument, ?mounted⟩
  case inUse =>
    rintro ⟨r, hr⟩
    exact answer (State.mountOrder_inUse (r := r) ((hbound r).1 hr))
  case full =>
    intro hn hf
    exact answer (State.mountOrder_full (hnone hn) (State.freeSlot_none_iff.2 hf))
  case wrongState =>
    rintro hn ⟨r, hr⟩ hstate
    obtain ⟨k, hk⟩ := State.exists_freeSlot (s := s.popOrder p) hr
    exact answer (State.mountOrder_wrongState (hnone hn) hk hstate)
  case badArgument =>
    rintro hn ⟨r, hr⟩ hstate hpitch
    obtain ⟨k, hk⟩ := State.exists_freeSlot (s := s.popOrder p) hr
    exact answer ((State.mountOrder_shelved (a := ⟨h, i, g, grade, _⟩) (hnone hn) hk hstate).trans (if_pos hpitch))
  case mounted =>
    intro r hn hr hlow hstate hpitch policy' t
    have hk : (s.popOrder p).freeSlot = some r := State.freeSlot_eq_some hr hlow
    have hmount : (s.popOrder p).mount ⟨h, i, g, grade, policy.getD defaultPolicy⟩ r = t.tellPaced h := by
      unfold State.mount
      dsimp only
      rw [State.takeFromShelf_eq]
      rfl
    have hup : t.isUp (headPort h) = true ↔ s.links.ports[headPort h].link = .up := by
      rw [← State.isUp_iff, ← popOrder_isUp s p]
      rfl
    refine answer ((State.mountOrder_shelved (a := ⟨h, i, g, grade, _⟩) (hnone hn) hk hstate).trans ((if_neg hpitch).trans ?_))
    rw [hmount]
    by_cases hpaced : s.pool.pacing = .paced ∧ s.links.ports[headPort h].link = .up
    · rw [if_pos hpaced, State.tellPaced_paced (s := t) hpaced.1 (hup.2 hpaced.2)]
    · rw [if_neg hpaced, State.tellPaced_open (s := t) fun hc => hpaced ⟨hc.1, hup.1 hc.2⟩]

end Sys2Proof.Machine
end

section
/-! PROOFS. The close of a reel: score, class, record and ticket (R22, R154 to R157). -/

namespace Sys2Proof.Machine

theorem damagePpm_eq (c : ReelCounters) :
    damagePpm c = if c.samplesScanned.toNat = 0 then 0 else c.defectiveSamples.toNat * 1000000 / c.samplesScanned.toNat := by
  unfold damagePpm
  simp only [← BitVec.toNat_inj]
  rfl

theorem shrinkTerm_eq (e : Option Int) :
    shrinkTerm e = match e with | some e => (max 0 (min 400 (2 * e))).toNat | none => 0 := by
  cases e with
  | none => rfl
  | some e =>
    unfold shrinkTerm
    dsimp only
    split <;> omega

theorem classOfScore_eq (n : Nat) :
    classOfScore n = if n ≤ 399 then .classA else if n ≤ 699 then .classB else .classC := by
  simp only [classOfScore, Nat.lt_succ_iff]

/-- The codes of the close reasons (R145). -/
theorem CloseReason.code_eq (c : CloseReason) :
    c.code = match c with | .reelEnd => 0 | .unmount => 1 | .abort => 2 | .reset => 3 := by
  cases c <;> rfl

/-- The close of a reel with a recorded reason, up to its ticket (R22, R157). -/
theorem State.closeReel_eq {s : State} {r : Slot} {reason : CloseReason} (h : s.reels[r].closeReason = some reason) :
    let x := s.reels[r]
    let u : State := ({ s with
      reels := s.reels.set r { x with state := .closed }
      catalogue := s.catalogue.set x.record (closedRecord x s.catalogue[x.record]) } : State).raise
        .reelClosed r.val (some x.record) reason.code
    s.closeReel r = if s.shelf.tickets.length < 16 then u.formTicket r
      else { u with shelf := { s.shelf with waitList := s.shelf.waitList ++ [r] } } := by
  intro x u
  have hdetail : x.closeDetail = reason.code := by simp only [Reel.closeDetail, x, h]
  unfold State.closeReel
  dsimp only
  rw [show s.reels[r].closeDetail = reason.code from hdetail]
  rfl

/-- Settles O57: the score's terms, the class, and the record the close writes. -/
theorem closedReelIsScoredAndTicketed : Obligations.ClosedReelIsScoredAndTicketed := by
  refine ⟨?score, ?close⟩
  case score =>
    intro x record hprior c f ts ppm score
    refine ⟨?terms, ?prior, conditionScore_le x hprior, ?cls⟩
    case terms =>
      intro hf
      have hscore : score = _ := if_neg hf
      rw [hscore, damagePpm_eq, shrinkTerm_eq] <;> rfl
    case prior => exact fun hf => if_pos hf
    case cls =>
      intro base vinegar n
      refine ⟨?nitrate, ?sour, ?sound⟩
      case nitrate => rintro rfl; rfl
      case sour => rintro (rfl | rfl) hv <;> exact if_pos hv
      case sound =>
        rw [← classOfScore_eq]
        rintro (⟨rfl | rfl, hv⟩ | rfl)
        · exact if_neg (Nat.not_le.2 hv)
        · exact if_neg (Nat.not_le.2 hv)
        · rfl
  case close =>
    intro s r reason hreason x record score u
    have hrecord : closedRecord x record = { record with
        lastScore := some score
        lastClass := some (chooseClass record.base record.vinegar score)
        lastShrink := x.shrinkEstimate
        lastPpm := some (if x.counters.samplesScanned.toNat = 0 then 0
          else x.counters.defectiveSamples.toNat * 1000000 / x.counters.samplesScanned.toNat)
        lastReason := some reason
        scanCount := min 255 (record.scanCount + 1) } := by
      rw [← damagePpm_eq, ← hreason]
      rfl
    have hclose := State.closeReel_eq hreason
    dsimp only at hclose
    have hu : u = ({ s with
        reels := s.reels.set r { x with state := .closed }
        catalogue := s.catalogue.set x.record (closedRecord x record) } : State).raise
          .reelClosed r.val (some x.record) reason.code := by
      rw [hrecord, CloseReason.code_eq] <;> rfl
    refine ⟨fun hroom => ?room, fun hfull => ?full⟩
    case room => rw [hclose, if_pos hroom, hu]
    case full => rw [hclose, if_neg (Nat.not_lt.2 hfull), hu]

end Sys2Proof.Machine
end

section
/-! PROOFS. SOFT-RESET, and what an abandoned repair leaves in the DRAM (R94, R183). -/

namespace Sys2Proof.Machine

/-! ### The region of an abandoned repair (R94) -/

/-- What a canonical region reads after one fill. -/
theorem Memory.read_fill {m : Memory} (h : m.wf = true) (f : Fill) (a : Nat) :
    (m.fill f).read a = m.read a ∨
      f.address = a ∧ ∃ v, f.value = some v ∧ (m.fill f).read a = { v with ir := (m.read a).ir } := by
  unfold Memory.fill
  split
  · rename_i v hv
    rw [Memory.read_write_wf h]
    split
    · rename_i ha
      exact .inr ⟨ha, v, hv, by rw [ha]⟩
    · exact .inl rfl
  · exact .inl rfl

/-- What a canonical region reads after some fills: the sample as it was, or the value of one of the fills with the stored IR
value kept (R85). -/
theorem Memory.read_fills {fs : List Fill} {m : Memory} (h : m.wf = true) (a : Nat) :
    (fs.foldl Memory.fill m).read a = m.read a ∨
      ∃ f ∈ fs, f.address = a ∧ ∃ v, f.value = some v ∧
        (fs.foldl Memory.fill m).read a = { v with ir := (m.read a).ir } := by
  induction fs generalizing m with
  | nil => exact .inl rfl
  | cons f fs ih =>
    have sameIr : ((m.fill f).read a).ir = (m.read a).ir := by
      rcases Memory.read_fill h f a with e | ⟨-, v, -, e⟩ <;> rw [e]
    rw [List.foldl_cons]
    rcases ih (Memory.wf_fill h f) with e | ⟨g, hg, ha, v, hv, e⟩
    · rcases Memory.read_fill h f a with e' | ⟨ha, v, hv, e'⟩
      · exact .inl (e.trans e')
      · exact .inr ⟨f, by simp, ha, v, hv, e.trans e'⟩
    · exact .inr ⟨g, by simp [hg], ha, v, hv, by rw [e, sameIr]⟩

/-- An abandoned repair changes the DRAM and its own count alone. -/
theorem State.abandonRepair_eq (s : State) :
    s.abandonRepair = { s with
      pool := { s.pool with dram := s.abandonRepair.pool.dram }, abandoned := s.abandonRepair.abandoned } := by
  unfold State.abandonRepair
  split <;> rfl

theorem State.abandonRepair_idle {s : State} (h : s.repair.engine = none) : s.abandonRepair = s := by
  simp only [State.abandonRepair, h]

/-- Only the region of the abandoned frame may change. -/
theorem State.abandonRepair_dram_of_ne {s : State} {job : RepairJob} (h : s.repair.engine = some job) {k : Buf}
    (hk : k ≠ job.request.buf) : s.abandonRepair.pool.dram[k] = s.pool.dram[k] := by
  simp only [State.abandonRepair, h]
  exact modEntry_of_ne _ (Ne.symm hk) _

/-- Each sample of the abandoned frame stands or holds the value the repair had for it. -/
theorem State.abandonRepair_read {s : State} {job : RepairJob} (h : s.repair.engine = some job) (hs : s.MemoryWf) (a : Nat) :
    s.abandonRepair.pool.dram[job.request.buf].read a = s.pool.dram[job.request.buf].read a ∨
      ∃ f ∈ s.repairFills job, f.address = a ∧ ∃ v, f.value = some v ∧
        s.abandonRepair.pool.dram[job.request.buf].read a =
          { v with ir := (s.pool.dram[job.request.buf].read a).ir } := by
  have written : ∀ f ∈ (((s.repairFills job).zipIdx.filter fun e => Config.abandonedWrite s.abandoned e.2).map Prod.fst),
      f ∈ s.repairFills job := by
    intro f hf
    obtain ⟨⟨g, i⟩, hg, rfl⟩ := List.mem_map.1 hf
    exact (List.mem_zipIdx' (List.mem_filter.1 hg).1).2 ▸ List.getElem_mem _
  have region : s.abandonRepair.pool.dram[job.request.buf] =
      (((s.repairFills job).zipIdx.filter fun e => Config.abandonedWrite s.abandoned e.2).map Prod.fst).foldl Memory.fill
        s.pool.dram[job.request.buf] := by
    simp only [State.abandonRepair, h]
    exact (modEntry_get _ _ _ _).trans (if_pos rfl)
  rw [region]
  rcases Memory.read_fills (hs job.request.buf) a with e | ⟨f, hf, e⟩
  · exact .inl e
  · exact .inr ⟨f, written f hf, e⟩

/-! ### SOFT-RESET (R183) -/

/-- SOFT-RESET after the taking of its order, with the parts that depend on more than one block named. -/
theorem State.softReset_popOrder (s : State) (p : Port) :
    (s.popOrder p).softReset = { s with
      reels := Vector.replicate 8 {}
      intake := { s.intake with heads := Vector.replicate 4 {} }
      pool := { s.pool with
        buffers := Vector.replicate 32 {}, pacing := .open_, dram := (s.popOrder p).abandonRepair.pool.dram }
      repair := { s.repair with queue := [], engine := none }
      delivery := { s.delivery with
        queues := Vector.replicate 4 [], credits := Vector.replicate 4 0, lastServed := 3, transmitter := .idle
        staleAcks := 0, cutSends := 0 }
      catalogue := mapEntries (fun _ x => x.softReset) s.catalogue
      shelf := { s.shelf with waitList := [] }
      notices := { s.notices with waiting := [], inFlight := none }
      links := { ports := mapEntries (fun _ q => q.softReset) (s.popOrder p).links.ports, checkFailuresS := 0
                 sunkCellsS := 0, boundaryUsed := false }
      lastPort := portS
      abandoned := (s.popOrder p).abandonRepair.abandoned } := by
  unfold State.softReset
  rw [State.abandonRepair_eq]
  rfl

/-- Settles O28: SOFT-RESET block by block, and the region of the repair it abandons. -/
theorem softResetKeepsTheTablesAndClearsTheWork : Obligations.SoftResetKeepsTheTablesAndClearsTheWork := by
  intro s p o h
  refine ⟨(s.popOrder p).abandonRepair.pool.dram, (s.popOrder p).abandonRepair.abandoned,
    mapEntries (fun _ x => x.softReset) s.catalogue, mapEntries (fun _ q => q.softReset) (s.popOrder p).links.ports,
    ?effect, fun i => ?record, fun k => ?port, fun he => ?idle, fun job hj => ⟨fun k hk => ?others, fun hm a => ?region⟩⟩
  case effect =>
    have taken : exec .softReset s = .next (replied p o (applySoftReset (s.popOrder p) o)) :=
      h.takeOrder (by decide) (by decide) applySoftReset
    have happly : applySoftReset (s.popOrder p) o = ((s.popOrder p).softReset, .done, []) := by
      simp only [applySoftReset, h.args]
    rw [taken, happly, State.softReset_popOrder]
  case record =>
    simp only [Fin.getElem_fin, mapEntries_get]
    rfl
  case port =>
    rw [Fin.getElem_fin, mapEntries_get]
    change ((s.popOrder p).links.ports[k]).softReset = _
    rw [popOrder_port]
    simp only [@eq_comm _ p k]
    rfl
  case idle => rw [State.abandonRepair_idle (s := s.popOrder p) he]; exact ⟨rfl, rfl⟩
  case others => exact State.abandonRepair_dram_of_ne (s := s.popOrder p) hj hk
  case region => exact State.abandonRepair_read (s := s.popOrder p) hj hm a

end Sys2Proof.Machine
end

section
/-! PROOFS. A FRAME-HEAD that gets no buffer (R8, R25 to R27). -/

namespace Sys2Proof.Machine

/-! ### Two changes of one entry -/

theorem modReel_modReel (s : State) (r : Slot) (f g : Reel → Reel) :
    (s.modReel r f).modReel r g = s.modReel r fun x => g (f x) := by
  simp only [State.modReel, modEntry_modEntry]

theorem modHead_modHead (s : State) (h : Head) (f g : HeadIntake → HeadIntake) :
    (s.modHead h f).modHead h g = s.modHead h fun x => g (f x) := by
  simp only [State.modHead, modEntry_modEntry]

theorem modBuffer_modBuffer (s : State) (b : Buf) (f g : Buffer → Buffer) :
    (s.modBuffer b f).modBuffer b g = s.modBuffer b fun x => g (f x) := by
  simp only [State.modBuffer, modEntry_modEntry]

/-- Changes of one reel that agree on its record are one change. -/
theorem modReel_congr {s : State} {r : Slot} {f g : Reel → Reel} (h : f s.reels[r] = g s.reels[r]) :
    s.modReel r f = s.modReel r g := by
  simp only [State.modReel, modEntry, h]

/-! ### Cells that reach a port (R136, R174) -/

theorem State.arrival_up {s : State} {p : Port} (hu : s.links.ports[p].link = .up) (t : State) :
    s.arrival p t = .next t.handOver :=
  if_pos (State.isUp_iff.2 hu)

/-- No frame is in hand on a head. -/
def State.NoFrame (s : State) (h : Head) : Prop := ∀ b d, s.intake.heads[h].assembly ≠ .assembling b d

theorem State.takeFrameHead_noFrame {s : State} {h : Head} (hn : s.NoFrame h) (f : FrameHeadFields) :
    s.takeFrameHead h f = s.openingTests h f := by
  unfold State.takeFrameHead
  split
  · rename_i b d hd
    exact absurd hd (hn b d)
  · rfl

/-! ### The opening tests (R26, R27) -/

section Opening

variable {s : State} {h : Head} {f : FrameHeadFields}

theorem State.openingTests_orphan (hb : s.boundSlot h = none) :
    s.openingTests h f = s.modHead h fun x => { x with assembly := .sinking, orphanFrames := x.orphanFrames + 1 } := by
  simp only [State.openingTests, hb, State.sinkFrame, modHead_modHead]

variable {r : Slot} (hb : s.boundSlot h = some r)
include hb

theorem State.openingTests_held (hx : s.reels[r].state = .held) :
    s.openingTests h f = (s.countReel r fun c => { c with discardedHeld := c.discardedHeld + 1 }).sinkFrame h := by
  simp only [State.openingTests, hb, hx, ↓reduceIte]

theorem State.openingTests_sequence (hx : s.reels[r].state ≠ .held) (hq : s.reels[r].isSequenceFault f.frame = true) :
    s.openingTests h f = ((s.countReel r fun c => { c with discardedSequence := c.discardedSequence + 1 }).raise
      .sequenceFault r.val (some s.reels[r].record) f.frame).sinkFrame h := by
  have record : (s.countReel r fun c => { c with discardedSequence := c.discardedSequence + 1 }).reels[r].record =
      s.reels[r].record := by
    rw [State.countReel_reels, modEntry_get, if_pos rfl]
  simp only [State.openingTests, hb, hx, hq, ↓reduceIte, record]

theorem State.openingTests_opened (hx : s.reels[r].state ∈ [.mounted, .running])
    (hq : ∀ n, s.reels[r].lastOpened = some n → n < f.frame) : s.openingTests h f = s.openedFrame h r f := by
  have notHeld : s.reels[r].state ≠ .held := by
    intro e
    rw [e] at hx
    exact absurd hx (by decide)
  have noFault : s.reels[r].isSequenceFault f.frame = false := by
    unfold Reel.isSequenceFault
    split
    · rename_i n hn
      have := hq n hn
      simpa using this
    · rfl
  simp only [State.openingTests, hb, notHeld, noFault, ↓reduceIte, Bool.false_eq_true]

end Opening

/-- The reel record at an opening, from MOUNTED or RUNNING (R27). -/
theorem Reel.opened_eq {x : Reel} (hx : x.state ∈ [.mounted, .running]) (f : Nat) :
    x.opened f = { x.consumeCues f with
      state := .running, lastOpened := some f
      counters := { x.counters with framesOpened := x.counters.framesOpened + 1 } } := by
  have : (if x.state = .mounted then ReelState.running else x.state) = .running := by
    rcases List.mem_pair.1 hx with e | e <;> simp [e]
  unfold Reel.opened
  rw [this]
  rfl

@[simp] theorem Reel.opened_settleRemaining (x : Reel) (f : Nat) : (x.opened f).settleRemaining = x.settleRemaining := rfl

section OpenedFrame

variable {s : State} {h : Head} {r : Slot} {f : FrameHeadFields}

theorem State.openedFrame_settle (hs : 0 < s.reels[r].settleRemaining) :
    s.openedFrame h r f = ((s.modReel r fun x => { x.opened f.frame with
      settleRemaining := x.settleRemaining - 1
      counters := { (x.opened f.frame).counters with
        discardedSettle := (x.opened f.frame).counters.discardedSettle + 1 } }).sinkFrame h).discardedNext r := by
  have settle : 0 < (s.modReel r fun x => x.opened f.frame).reels[r].settleRemaining := by
    rw [State.modReel_reels, modEntry_get, if_pos rfl]
    exact hs
  simp only [State.openedFrame, settle, ↓reduceIte, modReel_modReel, Reel.opened_settleRemaining]

variable (hs : s.reels[r].settleRemaining = 0)
include hs

theorem State.openedFrame_settled :
    ¬ 0 < (s.modReel r fun x => x.opened f.frame).reels[r].settleRemaining := by
  rw [State.modReel_reels, modEntry_get, if_pos rfl, Reel.opened_settleRemaining, hs]
  exact Nat.lt_irrefl 0

theorem State.openedFrame_oversize
    (hf : ¬ (1 ≤ f.lines ∧ f.lines ≤ Config.maxLines ∧ 1 ≤ f.width ∧ f.width ≤ Config.maxWidth)) :
    s.openedFrame h r f = ((s.modReel r fun x => { x.opened f.frame with
      counters := { (x.opened f.frame).counters with
        discardedOversize := (x.opened f.frame).counters.discardedOversize + 1 } }).sinkFrame h).discardedNext r := by
  simp only [State.openedFrame, State.openedFrame_settled hs, ↓reduceIte, hf, not_false_eq_true, State.countReel,
    modReel_modReel]

theorem State.openedFrame_lost
    (hf : 1 ≤ f.lines ∧ f.lines ≤ Config.maxLines ∧ 1 ≤ f.width ∧ f.width ≤ Config.maxWidth) (hb : s.freeBuffer = none) :
    s.openedFrame h r f = (((s.modReel r fun x => { x.opened f.frame with
      counters := { (x.opened f.frame).counters with framesLost := (x.opened f.frame).counters.framesLost + 1 } }).raise
        .frameLost r.val (some s.reels[r].record) f.frame).sinkFrame h).discardedNext r := by
  have free : (s.modReel r fun x => x.opened f.frame).freeBuffer = none := hb
  have record : (s.modReel r fun x => { x.opened f.frame with
      counters := { (x.opened f.frame).counters with
        framesLost := (x.opened f.frame).counters.framesLost + 1 } }).reels[r].record = s.reels[r].record := by
    rw [State.modReel_reels, modEntry_get, if_pos rfl]
    rfl
  simp only [State.openedFrame, State.openedFrame_settled hs, ↓reduceIte, hf, not_true_eq_false, and_self, free,
    State.countReel, modReel_modReel, record]

end OpenedFrame

theorem State.freeBuffer_none_iff {s : State} : s.freeBuffer = none ↔ s.freeCount = 0 := by
  rw [State.freeCount, countEntries, List.countP_eq_zero]
  constructor
  · intro hf b hb
    obtain ⟨i, hi, rfl⟩ := List.mem_iff_getElem.1 hb
    simpa using firstEntry_none hf ⟨i, by simpa using hi⟩
  · intro hn
    by_contra hf
    obtain ⟨b, hb⟩ := Option.ne_none_iff_exists'.1 hf
    exact hn s.pool.buffers[b] (by simp) (firstEntry_some hb).1

/-- Settles O36: the check, the opening tests in their order, and an opened frame that gets no buffer. -/
theorem frameHeadThatGetsNoBuffer : Obligations.FrameHeadThatGetsNoBuffer := by
  refine ⟨fun s h c hu => ?tests, fun s h c r hu hc hn hb hx => ?opened⟩
  case tests =>
    intro f counted
    have arrives : exec (.frameHead h c) s = .next (s.onFrameHead h c).handOver := State.arrival_up hu _
    refine ⟨fun hc => ?failed, fun hc hn => ?passed⟩
    case failed =>
      rw [arrives, State.onFrameHead, if_neg (by simp [hc])]
      rfl
    case passed =>
      rw [arrives, State.onFrameHead, if_pos hc, State.takeFrameHead_noFrame hn]
      refine ⟨fun hb => ?orphan, fun r hb => ?bound⟩
      case orphan =>
        rw [State.openingTests_orphan hb]
        rfl
      case bound =>
        intro x sunk
        refine ⟨fun hx => ?held, fun n hx hl hle => ?sequence⟩
        case held =>
          rw [State.openingTests_held hb hx]
          rfl
        case sequence =>
          have fault : s.reels[r].isSequenceFault f.frame = true := by
            rw [Reel.isSequenceFault, show s.reels[r].lastOpened = some n from hl]
            exact decide_eq_true hle
          rw [State.openingTests_sequence hb hx fault]
          rfl
  case opened =>
    intro f hf x fits opened k sunk
    have arrives : exec (.frameHead h c) s = .next (s.openedFrame h r f).handOver := by
      rw [← State.openingTests_opened hb hx hf, ← State.takeFrameHead_noFrame hn]
      refine (State.arrival_up hu _).trans ?_
      rw [State.onFrameHead, if_pos hc]
    have hopened : ∀ (g : Reel → Reel) (settle : Nat) (k' : ReelCounters),
        g x = { x.opened f.frame with settleRemaining := settle, counters := k' } →
        s.modReel r g = s.modReel r fun _ => opened settle k' := by
      intro g settle k' hg
      apply modReel_congr
      rw [show g s.reels[r] = _ from hg, Reel.opened_eq hx]
    refine ⟨fun hs => ?settle, fun hs hf => ?oversize, fun hs hf hfree => ?lost⟩
    case settle =>
      rw [arrives, State.openedFrame_settle hs, hopened _ (x.settleRemaining - 1)
        { k with discardedSettle := k.discardedSettle + 1 } rfl]
      rfl
    case oversize =>
      rw [arrives, State.openedFrame_oversize hs hf, hopened _ 0 { k with discardedOversize := k.discardedOversize + 1 }
        (by rw [← hs]; rfl)]
      rfl
    case lost =>
      rw [arrives, State.openedFrame_lost hs hf (State.freeBuffer_none_iff.2 hfree),
        hopened _ 0 { k with framesLost := k.framesLost + 1 } (by rw [← hs]; rfl)]
      rfl

end Sys2Proof.Machine
end

section
/-! PROOFS. What the close of a reel and the pacing of the pool leave alone: the reels, the blocks that work on frames, and the
links and order queues of the ports (R21, R22, R56, R57, R165 to R168). -/

namespace Sys2Proof.Machine

/-- The blocks that work on frames: the intake, the buffer records, the repair unit and the delivery unit, with the cells sent. -/
def State.work (s : State) : Intake × Vector Buffer 32 × Repair × DeliveryUnit × List SentCell :=
  (s.intake, s.pool.buffers, s.repair, s.delivery, s.wire)

/-- The link state and the order queue of each port. -/
def State.lines (s : State) : Vector (Link × List Order) 5 := s.links.ports.map fun q => (q.link, q.orders)

theorem State.work_eq_iff {s t : State} : t.work = s.work ↔
    t.intake = s.intake ∧ t.pool.buffers = s.pool.buffers ∧ t.repair = s.repair ∧ t.delivery = s.delivery ∧
      t.wire = s.wire := by
  simp only [State.work, Prod.mk.injEq]

theorem State.lines_eq_iff {s t : State} : t.lines = s.lines ↔
    ∀ p : Port, t.links.ports[p].link = s.links.ports[p].link ∧ t.links.ports[p].orders = s.links.ports[p].orders := by
  constructor
  · intro h p
    have hp := congrArg (fun v : Vector (Link × List Order) 5 => v[p]) h
    simpa [State.lines] using hp
  · intro h
    apply Vector.ext
    intro i hi
    obtain ⟨hl, ho⟩ := h ⟨i, hi⟩
    simp only [Fin.getElem_fin] at hl ho
    simp [State.lines, hl, ho]

/-- A change of a port that keeps its link and its orders. -/
theorem State.modPort_lines (s : State) (p : Port) {f : PortState → PortState}
    (hf : ∀ q, (f q).link = q.link ∧ (f q).orders = q.orders) : (s.modPort p f).lines = s.lines := by
  rw [State.lines_eq_iff]
  intro k
  rw [State.modPort_links, modEntry_get]
  split <;> [exact hf _; exact ⟨rfl, rfl⟩]

/-! ### Pending notices that stay (R184) -/

/-- The kinds of notice that the release of buffers, the close of reels and the retry of tickets raise. -/
def quietKinds : List NoticeKind := [.reelClosed, .poolRecovered, .ticketIssued, .ticketAwaitingSpace]

/-- A notice unit in range stays so, and a pending notice of a kind not named stays as it is. -/
def NoticeUnit.Keeps (raised : List NoticeKind) (u v : NoticeUnit) : Prop :=
  u.InRange → v.InRange ∧ ∀ n ∈ u.waiting, n.kind ∉ raised → n ∈ v.waiting

theorem NoticeUnit.Keeps.refl (raised : List NoticeKind) (u : NoticeUnit) : Keeps raised u u := fun hu => ⟨hu, fun _ hn _ => hn⟩

theorem NoticeUnit.Keeps.trans {raised : List NoticeKind} {u v w : NoticeUnit} (h : Keeps raised u v) (h' : Keeps raised v w) :
    Keeps raised u w := fun hu =>
  have hv := h hu
  have hw := h' hv.1
  ⟨hw.1, fun n hn hq => hw.2 n (hv.2 n hn hq) hq⟩

theorem NoticeUnit.Keeps.mono {l m : List NoticeKind} {u v : NoticeUnit} (h : Keeps l u v) (hm : l ⊆ m) : Keeps m u v :=
  fun hu => ⟨(h hu).1, fun n hn hq => (h hu).2 n hn fun hk => hq (hm hk)⟩

/-- A notice of another entry stays in a list when a notice is placed. -/
theorem mem_placeNotice_of_ne {m n : Notice} {join : Notice → Notice} {l : List Notice} (hm : m ∈ l) (hk : m.key ≠ n.key) :
    m ∈ placeNotice n join l := by
  induction l with
  | nil => cases hm
  | cons a l ih =>
    unfold placeNotice
    obtain rfl | hl := List.mem_cons.1 hm
    · split
      · contradiction
      · split <;> simp
    · split
      · exact List.mem_cons_of_mem _ hl
      · split <;> [exact List.mem_cons_of_mem _ hm; exact List.mem_cons_of_mem _ (ih hl)]

/-- Notices of different kinds have different entries. -/
theorem Notice.key_ne_of_kind {m n : Notice} (hm : m.inst < 8) (hn : n.inst < 8) (hk : m.kind ≠ n.kind) : m.key ≠ n.key := by
  have injective : m.kind.index.val = n.kind.index.val → m.kind = n.kind := by
    cases m.kind <;> cases n.kind <;> simp [NoticeKind.index]
  unfold Notice.key
  intro h
  exact hk (injective (by omega))

theorem State.raise_keeps (s : State) {raised : List NoticeKind} {k : NoticeKind} {i : Nat} (hk : k ∈ raised) (hi : i < 8)
    (c : Option RecordNo) (d : Nat) : NoticeUnit.Keeps raised s.notices (s.raise k i c d).notices := fun hu =>
  ⟨hu.place (by simp) hi (fun _ => rfl) (fun _ => rfl) fun _ => Nat.min_le_left _ _, fun n hn hq =>
    mem_placeNotice_of_ne hn (Notice.key_ne_of_kind (hu.instances n hn) hi fun h => hq (h ▸ hk))⟩

/-! ### Changes aside from the work on frames -/

/-- The reels, the work on frames, and the links and orders of the ports are the same, and the pending notices are kept. -/
structure State.Aside (s t : State) : Prop where
  work : t.work = s.work
  lines : t.lines = s.lines
  reels : t.reels = s.reels
  notices : NoticeUnit.Keeps quietKinds s.notices t.notices

theorem State.Aside.refl (s : State) : s.Aside s := ⟨rfl, rfl, rfl, .refl _ _⟩

theorem State.Aside.trans {s t u : State} (h : s.Aside t) (h' : t.Aside u) : s.Aside u :=
  ⟨h'.work.trans h.work, h'.lines.trans h.lines, h'.reels.trans h.reels, h.notices.trans h'.notices⟩

/-- The same change of a reel on both sides. -/
theorem State.Aside.modReel {s t : State} (h : s.Aside t) (r : Slot) (f : Reel → Reel) :
    (s.modReel r f).Aside (t.modReel r f) :=
  ⟨h.work, h.lines, congrArg (modEntry · r f) h.reels, h.notices⟩

/-- A loop of one operation that stays aside. -/
theorem State.Aside.foldl {α : Type} {op : State → α → State} (h : ∀ s a, State.Aside s (op s a)) (l : List α) (s : State) :
    s.Aside (l.foldl op s) := by
  induction l generalizing s with
  | nil => exact .refl s
  | cons a l ih => exact (h s a).trans (ih _)

section

variable (s : State)

theorem State.Aside.modPort (p : Port) {f : PortState → PortState}
    (hf : ∀ q, (f q).link = q.link ∧ (f q).orders = q.orders) : s.Aside (s.modPort p f) :=
  ⟨rfl, s.modPort_lines p hf, rfl, .refl _ _⟩

theorem State.Aside.formFlow (h : Head) (c : FlowCell) : s.Aside (s.formFlow h c) := by
  unfold State.formFlow
  split <;> exact .modPort s _ fun _ => ⟨rfl, rfl⟩

theorem State.Aside.raise {k : NoticeKind} {i : Nat} (hk : k ∈ quietKinds) (hi : i < 8) (c : Option RecordNo) (d : Nat) :
    s.Aside (s.raise k i c d) :=
  ⟨rfl, rfl, rfl, s.raise_keeps hk hi c d⟩

theorem State.Aside.modRecord (i : RecordNo) (f : Record → Record) : s.Aside (s.modRecord i f) := ⟨rfl, rfl, rfl, .refl _ _⟩

theorem State.Aside.modPosition (q : PositionNo) (f : Position → Position) : s.Aside (s.modPosition q f) :=
  ⟨rfl, rfl, rfl, .refl _ _⟩

theorem State.Aside.modTicket (n : BitVec 16) (f : Ticket → Ticket) : s.Aside (s.modTicket n f) := ⟨rfl, rfl, rfl, .refl _ _⟩

theorem State.Aside.setShelf (m : Shelf) : s.Aside { s with shelf := m } := ⟨rfl, rfl, rfl, .refl _ _⟩

theorem State.Aside.setPacing (x : Pacing) : s.Aside { s with pool := { s.pool with pacing := x } } :=
  ⟨rfl, rfl, rfl, .refl _ _⟩

theorem State.Aside.issueTicket (t : Ticket) (q : PositionNo) : s.Aside (s.issueTicket t q) := by
  have home : s.Aside (match s.catalogue[t.record].position with
      | some h => if h = q then s else s.modPosition h Position.freed
      | none => s) := by
    split
    · split <;> [exact .refl s; exact .modPosition s _ _]
    · exact .refl s
  unfold State.issueTicket
  exact home.trans <| (State.Aside.modPosition _ _ _).trans <| (State.Aside.modRecord _ _ _).trans <|
    (State.Aside.modTicket _ _ _).trans <| .raise _ (by decide) (by decide) _ _

theorem State.Aside.leaveWaiting (t : Ticket) : s.Aside (s.leaveWaiting t) :=
  (State.Aside.modTicket s _ _).trans (.raise _ (by decide) (by decide) _ _)

theorem State.Aside.retryPasses (x : Option (BitVec 16 × PositionNo)) (n : Nat) (s : State) : s.Aside (retryPasses x n s) := by
  induction n generalizing s with
  | zero => exact .refl s
  | succ n ih =>
    unfold Sys2Proof.Machine.retryPasses
    split <;> [exact .refl s; exact (State.Aside.issueTicket s _ _).trans (ih _)]

theorem State.Aside.allocateTicket (x : Option (BitVec 16 × PositionNo)) (t : Ticket) : s.Aside (s.allocateTicket x t) := by
  unfold State.allocateTicket
  split
  · exact .leaveWaiting s t
  · split <;> [exact (State.Aside.issueTicket s _ _).trans (.retryPasses _ _ _); exact .issueTicket s _ _]

/-- The formation of a slot's ticket: the slot becomes FREE, and the rest stays aside (R165). -/
theorem State.Aside.formTicket (r : Slot) : (s.modReel r fun x => { x with state := .free }).Aside (s.formTicket r) := by
  unfold State.formTicket
  refine State.Aside.modReel ?_ r _
  exact (State.Aside.setShelf s _).trans <| (State.Aside.modRecord _ _ _).trans <| .allocateTicket _ _ _

/-- The state a closed slot is left in: FREE with its ticket formed, CLOSED while the ticket queue is full (R22, R165). -/
def State.stateAtClose (s : State) : ReelState := if s.shelf.tickets.length < Config.maxTickets then .free else .closed

theorem State.stateAtClose_mem : s.stateAtClose ∈ [.closed, .free] := by
  unfold State.stateAtClose
  split <;> simp

/-- The close of a reel changes the state of its slot, and the rest stays aside (R22). -/
theorem State.Aside.closeReel (r : Slot) : (s.modReel r fun x => { x with state := s.stateAtClose }).Aside (s.closeReel r) := by
  have closed : (s.modReel r fun x => { x with state := .closed }).Aside
      (((s.modReel r fun x => { x with state := .closed }).raise .reelClosed r.val (some s.reels[r].record)
        s.reels[r].closeDetail).modRecord s.reels[r].record (closedRecord s.reels[r])) :=
    (State.Aside.raise _ (by decide) r.isLt _ _).trans (.modRecord _ _ _)
  by_cases room : s.shelf.tickets.length < Config.maxTickets
  · have ticket := (closed.modReel r fun x => { x with state := .free }).trans (.formTicket _ r)
    rw [modReel_modReel] at ticket
    simp only [State.stateAtClose, if_pos room]
    unfold State.closeReel
    exact (if_pos (c := _ < _) room) ▸ ticket
  · simp only [State.stateAtClose, if_neg room]
    unfold State.closeReel
    exact (if_neg (c := _ < _) room) ▸ closed.trans (.setShelf _ _)

theorem State.Aside.flowToHeads (c : FlowCell) (p : Head → Bool) : s.Aside (s.flowToHeads c p) :=
  .foldl (fun s _ => .formFlow s _ _) _ s

theorem State.Aside.paceRise : s.Aside s.paceRise := by
  unfold State.paceRise
  split
  · exact (State.Aside.setPacing s _).trans <| (State.Aside.flowToHeads _ _ _).trans <|
      .raise (k := .poolRecovered) (i := 0) _ (by decide) (by decide) _ _
  · exact .refl s

end

end Sys2Proof.Machine
end

section
/-! PROOFS. What the release test, the clearing of holds and the requests of repairs do: to the work on frames exactly, and to the
reels and notices as a relation that steps compose (R52 to R55, R81, R83). -/

namespace Sys2Proof.Machine

/-! ### The buffer records (R52 to R55) -/

/-- A buffer record after the release test (R54). -/
def Buffer.tested (x : Buffer) : Buffer :=
  if x.delivery ≠ .resolved then x else if x.held then { x with state := .done } else x.released

/-- A buffer record after its successor hold is cleared, with the release test that follows (R52). -/
def Buffer.unheld (x : Buffer) : Buffer :=
  if x.successorHold then { x with successorHold := false }.tested else x

/-- A buffer record after one neighbour hold is released, with the release test at the last (R53). -/
def Buffer.lessHeld (x : Buffer) : Buffer :=
  let y := { x with neighbourHolds := x.neighbourHolds - 1 }
  if y.neighbourHolds = 0 then y.tested else y

/-- What releases, clearings of holds and repair requests may do to a buffer record: its frame stays as it is, a delivery that is
not resolved stays, the state changes only from PENDING to REPAIR or, at a release test, to FREE or DONE, and no successor
hold is set. -/
structure Buffer.Eases (x y : Buffer) : Prop where
  frame : y.released = x.released
  delivery : y.delivery = x.delivery ∨ x.delivery = .resolved ∧ y.delivery = .neverSent
  state : y.state = x.state ∨ (x.state = .pending ∧ y.state = .repair) ∨ (x.delivery = .resolved ∧ y.state ∈ [.free, .done])
  hold : y.successorHold = true → x.successorHold = true

theorem Buffer.Eases.refl (x : Buffer) : x.Eases x := ⟨rfl, .inl rfl, .inl rfl, id⟩

theorem Buffer.Eases.trans {x y z : Buffer} (h : x.Eases y) (h' : y.Eases z) : x.Eases z := by
  refine ⟨h'.frame.trans h.frame, ?_, ?_, fun hz => h.hold (h'.hold hz)⟩
  · have hd := h.delivery
    have hd' := h'.delivery
    grind
  · have hd := h.delivery
    have hs := h.state
    have hs' := h'.state
    simp only [List.mem_cons, List.not_mem_nil, or_false] at hs hs' ⊢
    grind

theorem Buffer.Eases.slot {x y : Buffer} (h : x.Eases y) : y.slot = x.slot :=
  (congrArg Buffer.slot h.frame : y.released.slot = x.released.slot)

theorem Buffer.Eases.delivery_eq {x y : Buffer} (h : x.Eases y) (hx : x.delivery ≠ .resolved) : y.delivery = x.delivery :=
  h.delivery.resolve_right fun hd => hx hd.1

theorem Buffer.Eases.state_eq {x y : Buffer} (h : x.Eases y) (hx : x.delivery ≠ .resolved) (hp : x.state ≠ .pending) :
    y.state = x.state := by
  obtain hs | ⟨hs, -⟩ | ⟨hd, -⟩ := h.state <;> [exact hs; exact absurd hs hp; exact absurd hd hx]

theorem Buffer.Eases.state_ne_free {x y : Buffer} (h : x.Eases y) (hx : x.delivery ≠ .resolved) (hf : x.state ≠ .free) :
    y.state ≠ .free := by
  obtain hs | ⟨-, hs⟩ | ⟨hd, -⟩ := h.state <;> [rwa [hs]; simp [hs]; exact absurd hd hx]

theorem Buffer.Eases.hold_false {x y : Buffer} (h : x.Eases y) (hx : x.successorHold = false) : y.successorHold = false :=
  Bool.eq_false_iff.2 fun hy => by simp [h.hold hy] at hx

theorem Buffer.tested_eases (x : Buffer) : x.Eases x.tested := by
  unfold Buffer.tested
  split
  · exact .refl x
  · rename_i hd
    have hr : x.delivery = .resolved := not_not.1 hd
    split
    · exact ⟨rfl, .inl rfl, .inr (.inr ⟨hr, by simp⟩), id⟩
    · exact ⟨rfl, .inr ⟨hr, rfl⟩, .inr (.inr ⟨hr, by simp [Buffer.released]⟩), fun h => Bool.noConfusion h⟩

theorem Buffer.unheld_eases (x : Buffer) : x.Eases x.unheld := by
  unfold Buffer.unheld
  split
  · exact Buffer.Eases.trans (y := { x with successorHold := false }) ⟨rfl, .inl rfl, .inl rfl, fun h => Bool.noConfusion h⟩
      (tested_eases _)
  · exact .refl x

theorem Buffer.lessHeld_eases (x : Buffer) : x.Eases x.lessHeld := by
  have less : x.Eases { x with neighbourHolds := x.neighbourHolds - 1 } := ⟨rfl, .inl rfl, .inl rfl, id⟩
  unfold Buffer.lessHeld
  dsimp only
  split <;> [exact less.trans (tested_eases _); exact less]

theorem Buffer.tested_successorHold {x : Buffer} (h : x.successorHold = false) : x.tested.successorHold = false :=
  x.tested_eases.hold_false h

theorem Buffer.unheld_successorHold (x : Buffer) : x.unheld.successorHold = false := by
  unfold Buffer.unheld
  split <;> [exact tested_successorHold rfl; exact Bool.eq_false_iff.2 ‹_›]

/-! ### The release test on the work (R54, R55) -/

variable (s : State)

theorem modBuffer_get (b k : Buf) (f : Buffer → Buffer) :
    (s.modBuffer b f).pool.buffers[k] = if b = k then f s.pool.buffers[k] else s.pool.buffers[k] := modEntry_get _ _ _ _

theorem State.work_buffers {s t : State} (h : t.work = s.work) : t.pool.buffers = s.pool.buffers :=
  (State.work_eq_iff.1 h).2.1

/-- Changes of one record that agree on it. -/
theorem modBuffer_congr {s : State} {b : Buf} {f g : Buffer → Buffer} (h : f s.pool.buffers[b] = g s.pool.buffers[b]) :
    s.modBuffer b f = s.modBuffer b g := by
  simp only [State.modBuffer, modEntry, h]

theorem modBuffer_id {s : State} {b : Buf} {f : Buffer → Buffer} (h : f s.pool.buffers[b] = s.pool.buffers[b]) :
    s.modBuffer b f = s := by
  simp only [State.modBuffer, modEntry_id _ _ h]

theorem State.forgetLatest_work (b : Buf) : (s.forgetLatest b).work = s.work := by
  unfold State.forgetLatest
  dsimp only
  split <;> rfl

theorem State.closeIfEmpty_work (r : Slot) : (s.closeIfEmpty r).work = s.work := by
  unfold State.closeIfEmpty
  split <;> [exact (State.Aside.closeReel s r).work; rfl]

theorem State.release_work (b : Buf) : (s.release b).work = (s.modBuffer b Buffer.released).work :=
  (State.Aside.paceRise _).work.trans ((State.closeIfEmpty_work _ _).trans (State.forgetLatest_work _ _))

/-- The release test acts on the work as on the one record. -/
theorem State.releaseTest_work (b : Buf) : (s.releaseTest b).work = (s.modBuffer b Buffer.tested).work := by
  unfold State.releaseTest
  split
  · rename_i hd
    rw [modBuffer_id (f := Buffer.tested) (if_pos hd)]
  · rename_i hd
    split
    · rename_i hh
      rw [modBuffer_congr (g := Buffer.tested)]
      exact ((if_neg hd).trans (if_pos hh)).symm
    · rename_i hh
      rw [State.release_work, modBuffer_congr (g := Buffer.tested)]
      exact ((if_neg hd).trans (if_neg hh)).symm

theorem State.clearSuccessor_work (b : Buf) : (s.clearSuccessor b).work = (s.modBuffer b Buffer.unheld).work := by
  unfold State.clearSuccessor
  split
  · rename_i hh
    rw [State.releaseTest_work, modBuffer_modBuffer, modBuffer_congr (g := Buffer.unheld)]
    exact (if_pos hh).symm
  · rename_i hh
    rw [modBuffer_id (f := Buffer.unheld) (if_neg hh)]

theorem State.releaseNeighbour_work (b : Buf) : (s.releaseNeighbour b).work = (s.modBuffer b Buffer.lessHeld).work := by
  have entry : (s.modBuffer b fun x => { x with neighbourHolds := x.neighbourHolds - 1 }).pool.buffers[b] =
      { s.pool.buffers[b] with neighbourHolds := s.pool.buffers[b].neighbourHolds - 1 } := by
    rw [modBuffer_get, if_pos rfl]
  unfold State.releaseNeighbour
  dsimp only
  rw [entry]
  dsimp only
  split
  · rename_i hz
    rw [State.releaseTest_work, modBuffer_modBuffer, modBuffer_congr (g := Buffer.lessHeld)]
    exact (if_pos hz).symm
  · rename_i hz
    rw [modBuffer_congr (g := Buffer.lessHeld)]
    exact (if_neg hz).symm

/-! ### Steps of release and request, as a relation -/

/-- A repair request waits in the queue or is in the engine. -/
def State.Requested (s : State) (q : RepairRequest) : Prop :=
  q ∈ s.repair.queue ∨ ∃ job, s.repair.engine = some job ∧ job.request = q

/-- A reel record but for its state and its latest frame. -/
def Reel.kept (x : Reel) : Reel := { x with state := .free, latest := none }

/-- What releases, clearings of holds and repair requests may do: of the reels they change only the state, by the close of a
DRAINING reel that owns no frame on its way, and the latest frame, which goes with its release. -/
structure State.Eases (s t : State) : Prop where
  intake : t.intake = s.intake
  delivery : t.delivery = s.delivery
  wire : t.wire = s.wire
  lines : t.lines = s.lines
  buffers : ∀ b : Buf, s.pool.buffers[b].Eases t.pool.buffers[b]
  requests : ∀ q, s.Requested q → t.Requested q
  kept : ∀ r : Slot, t.reels[r].kept = s.reels[r].kept
  state : ∀ r : Slot, t.reels[r].state = s.reels[r].state ∨ s.reels[r].state = .draining ∧ t.reels[r].state ∈ [.closed, .free]
  owned : ∀ (r : Slot) (b : Buf), s.pool.buffers[b].slot = r → s.pool.buffers[b].state ≠ .free →
    s.pool.buffers[b].delivery ≠ .resolved → t.reels[r].state = s.reels[r].state
  latest : ∀ r : Slot, t.reels[r].latest = s.reels[r].latest ∨ t.reels[r].latest = none ∧ ∃ k : Buf,
    s.reels[r].latest = some k ∧ s.pool.buffers[k].delivery = .resolved ∧ t.pool.buffers[k].successorHold = false
  notices : NoticeUnit.Keeps quietKinds s.notices t.notices

namespace State.Eases

theorem refl : s.Eases s where
  intake := rfl
  delivery := rfl
  wire := rfl
  lines := rfl
  buffers _ := .refl _
  requests _ := id
  kept _ := rfl
  state _ := .inl rfl
  owned _ _ _ _ _ := rfl
  latest _ := .inl rfl
  notices := .refl _ _

variable {s}

theorem trans {t u : State} (h : s.Eases t) (h' : t.Eases u) : s.Eases u where
  intake := h'.intake.trans h.intake
  delivery := h'.delivery.trans h.delivery
  wire := h'.wire.trans h.wire
  lines := h'.lines.trans h.lines
  buffers b := (h.buffers b).trans (h'.buffers b)
  requests q hq := h'.requests q (h.requests q hq)
  kept r := (h'.kept r).trans (h.kept r)
  state r := by
    obtain hs | ⟨hs, ht⟩ := h.state r
    · rw [← hs]
      exact h'.state r
    · obtain hu | ⟨hu, -⟩ := h'.state r
      · exact .inr ⟨hs, hu ▸ ht⟩
      · rw [hu] at ht
        exact absurd ht (by decide)
  owned r b hr hf hd :=
    have hb := h.buffers b
    (h'.owned r b (hb.slot.trans hr) (hb.state_ne_free hd hf) (by rwa [hb.delivery_eq hd])).trans (h.owned r b hr hf hd)
  latest r := by
    obtain hs | ⟨ht, k, hk, hd, hh⟩ := h.latest r
    · obtain hs' | ⟨hu, k, hk, hd, hh⟩ := h'.latest r
      · exact .inl (hs'.trans hs)
      · have hr : s.pool.buffers[k].delivery = .resolved := by
          by_contra hn
          exact hn (((h.buffers k).delivery_eq hn).symm.trans hd)
        exact .inr ⟨hu, k, hs.symm.trans hk, hr, hh⟩
    · obtain hs' | ⟨hu, -⟩ := h'.latest r
      · exact .inr ⟨hs'.trans ht, k, hk, hd, (h'.buffers k).hold_false hh⟩
      · exact .inr ⟨hu, k, hk, hd, (h'.buffers k).hold_false hh⟩
  notices := h.notices.trans h'.notices

theorem of_aside {t : State} (h : s.Aside t) : s.Eases t := by
  obtain ⟨hi, hb, hr, hd, hw⟩ := State.work_eq_iff.1 h.work
  exact { refl s with
    intake := hi
    delivery := hd
    wire := hw
    lines := h.lines
    buffers := fun b => hb ▸ .refl _
    requests := fun q hq => by rwa [State.Requested, hr]
    kept := fun r => by rw [h.reels]
    state := fun r => .inl (by rw [h.reels])
    owned := fun r b _ _ _ => by rw [h.reels]
    latest := fun r => .inl (by rw [h.reels])
    notices := h.notices }

/-- A loop of one operation that eases. -/
theorem foldl {α : Type} {op : State → α → State} (h : ∀ s a, State.Eases s (op s a)) (l : List α) (s : State) :
    s.Eases (l.foldl op s) := by
  induction l generalizing s with
  | nil => exact refl s
  | cons a l ih => exact (h s a).trans (ih _)

variable (s)

theorem modBuffer (b : Buf) {f : Buffer → Buffer} (hf : s.pool.buffers[b].Eases (f s.pool.buffers[b])) :
    s.Eases (s.modBuffer b f) :=
  { refl s with
    buffers := fun k => by
      rw [modBuffer_get]
      split <;> [(rename_i hk; subst hk; exact hf); exact .refl _]
    latest := fun _ => .inl rfl }

theorem closeIfEmpty (r : Slot) : s.Eases (s.closeIfEmpty r) := by
  unfold State.closeIfEmpty
  split
  · rename_i hc
    obtain ⟨hx, ho⟩ := hc
    refine trans ?_ (of_aside (.closeReel s r))
    have entry : ∀ k : Slot, (s.modReel r fun x => { x with state := s.stateAtClose }).reels[k] =
        if r = k then { s.reels[k] with state := s.stateAtClose } else s.reels[k] := fun k => modEntry_get _ _ _ _
    exact { refl s with
      kept := fun k => by rw [entry]; split <;> rfl
      state := fun k => by
        rw [entry]
        split
        · rename_i hk
          exact .inr ⟨hk ▸ hx, s.stateAtClose_mem⟩
        · exact .inl rfl
      owned := fun k b hb hf hd => by
        rw [entry]
        split
        · rename_i hk
          subst hk
          simp only [State.ownsBuffer, List.any_eq_false, decide_eq_true_eq] at ho
          exact absurd ⟨hf, hb⟩ (ho _ (by simp))
        · rfl
      latest := fun k => .inl (by rw [entry]; split <;> rfl) }
  · exact refl s

/-- The release of a buffer whose delivery is resolved. -/
theorem release {b : Buf} (hd : s.pool.buffers[b].delivery = .resolved) : s.Eases (s.release b) := by
  have record : s.Eases ((s.modBuffer b Buffer.released).forgetLatest b) := by
    have released := modBuffer s b (f := Buffer.released)
      ⟨rfl, .inr ⟨hd, rfl⟩, .inr (.inr ⟨hd, by simp [Buffer.released]⟩), fun h => Bool.noConfusion h⟩
    unfold State.forgetLatest
    dsimp only
    split
    · rename_i hl
      set r := (s.modBuffer b Buffer.released).pool.buffers[b].slot
      have entry : ∀ k : Slot, ((s.modBuffer b Buffer.released).modReel r fun x => { x with latest := none }).reels[k] =
          if r = k then { s.reels[k] with latest := none } else s.reels[k] := fun k => modEntry_get _ _ _ _
      exact { released with
        kept := fun k => by rw [entry]; split <;> rfl
        state := fun k => .inl (by rw [entry]; split <;> rfl)
        owned := fun k _ _ _ _ => by rw [entry]; split <;> rfl
        latest := fun k => by
          rw [entry]
          split
          · rename_i hk
            refine .inr ⟨rfl, b, hk ▸ hl, hd, ?_⟩
            rw [State.modReel_pool, modBuffer_get, if_pos rfl]
            rfl
          · exact .inl rfl }
    · exact released
  unfold State.release
  exact record.trans ((closeIfEmpty _ _).trans (of_aside (.paceRise _)))

theorem releaseTest (b : Buf) : s.Eases (s.releaseTest b) := by
  unfold State.releaseTest
  split
  · exact refl s
  · rename_i hd
    have hr : s.pool.buffers[b].delivery = .resolved := not_not.1 hd
    split
    · exact modBuffer s b ⟨rfl, .inl rfl, .inr (.inr ⟨hr, by simp⟩), id⟩
    · exact release s hr

theorem clearSuccessor (b : Buf) : s.Eases (s.clearSuccessor b) := by
  unfold State.clearSuccessor
  split
  · exact (modBuffer s b ⟨rfl, .inl rfl, .inl rfl, fun h => Bool.noConfusion h⟩).trans (releaseTest _ _)
  · exact refl s

theorem clearLatestHold (r : Slot) : s.Eases (s.clearLatestHold r) := by
  unfold State.clearLatestHold
  split <;> [exact clearSuccessor s _; exact refl s]

theorem releaseNeighbour (b : Buf) : s.Eases (s.releaseNeighbour b) := by
  have less : s.Eases (s.modBuffer b fun x => { x with neighbourHolds := x.neighbourHolds - 1 }) :=
    modBuffer s b ⟨rfl, .inl rfl, .inl rfl, id⟩
  unfold State.releaseNeighbour
  dsimp only
  split <;> [exact less.trans (releaseTest _ _); exact less]

theorem releaseNeighbours (q : RepairRequest) : s.Eases (s.releaseNeighbours q) := by
  unfold State.releaseNeighbours
  cases q.prev <;> cases q.next
  · exact refl s
  · exact releaseNeighbour s _
  · exact releaseNeighbour s _
  · exact (releaseNeighbour s _).trans (releaseNeighbour _ _)

theorem engineTake : s.Eases s.engineTake := by
  unfold State.engineTake
  split
  · rename_i q rest he hq
    exact { refl s with
      requests := fun x hx => by
        obtain hx | ⟨job, hj, -⟩ := hx
        · rw [hq] at hx
          obtain rfl | hx := List.mem_cons.1 hx
          · exact .inr ⟨_, rfl, rfl⟩
          · exact .inl hx
        · simp [he] at hj }
  · exact refl s

end State.Eases

/-! ### The request of a repair (R53, R81) -/

/-- Prev's successor hold becomes a neighbour hold. -/
def State.turnPrev (s : State) : Option Buf → State
  | some p => s.modBuffer p fun x => { x with successorHold := false, neighbourHolds := x.neighbourHolds + 1 }
  | none => s

/-- Next takes a neighbour hold. -/
def State.holdNext (s : State) : Option Buf → State
  | some n => s.addNeighbour n
  | none => s

/-- The holds a request takes: prev's successor hold becomes a neighbour hold, and next takes one. -/
def State.takeHolds (s : State) (prev next : Option Buf) : State := (s.turnPrev prev).holdNext next

/-- A request enters the repair queue. -/
def State.enqueue (s : State) (q : RepairRequest) : State :=
  { s with repair := { s.repair with queue := s.repair.queue ++ [q] } }

theorem State.requestRepair_eq (b : Buf) (next : Option Buf) : s.requestRepair b next =
    (((s.takeHolds (s.prevOf s.pool.buffers[b].slot s.pool.buffers[b].frame) next).modBuffer b fun x =>
      { x with state := .repair, repairTimer := none }).enqueue
        ⟨b, s.prevOf s.pool.buffers[b].slot s.pool.buffers[b].frame, next⟩).engineTake := rfl

/-- A change of one record that keeps a field of it keeps the field of every record. -/
theorem modBuffer_field {α : Type} (g : Buffer → α) (b k : Buf) {f : Buffer → Buffer} (hf : ∀ x, g (f x) = g x) :
    g (s.modBuffer b f).pool.buffers[k] = g s.pool.buffers[k] := by
  rw [modBuffer_get]
  split <;> [exact hf _; rfl]

/-- The holds a request takes change no state of a buffer. -/
theorem State.takeHolds_state (prev next : Option Buf) (k : Buf) :
    (s.takeHolds prev next).pool.buffers[k].state = s.pool.buffers[k].state := by
  have turned : (s.turnPrev prev).pool.buffers[k].state = s.pool.buffers[k].state := by
    cases prev <;> [rfl; exact modBuffer_field s Buffer.state _ k (by intro _; rfl)]
  cases next <;> [exact turned; exact (modBuffer_field _ Buffer.state _ k (by intro _; rfl)).trans turned]

/-- The holds a request takes clear the successor hold of prev, and no other. -/
theorem State.takeHolds_successorHold (prev next : Option Buf) (k : Buf) : (s.takeHolds prev next).pool.buffers[k].successorHold =
    if prev = some k then false else s.pool.buffers[k].successorHold := by
  have turned : (s.turnPrev prev).pool.buffers[k].successorHold =
      if prev = some k then false else s.pool.buffers[k].successorHold := by
    cases prev with
    | none => rfl
    | some p =>
      simp only [Option.some.injEq]
      refine (congrArg Buffer.successorHold (modBuffer_get s p k _)).trans ?_
      split <;> rfl
  cases next <;> [exact turned; exact (modBuffer_field _ Buffer.successorHold _ k (by intro _; rfl)).trans turned]

theorem State.Eases.takeHolds (prev next : Option Buf) : s.Eases (s.takeHolds prev next) := by
  have turned : s.Eases (s.turnPrev prev) := by
    cases prev <;> [exact refl s; exact modBuffer s _ ⟨rfl, .inl rfl, .inl rfl, fun h => Bool.noConfusion h⟩]
  cases next <;> [exact turned; exact turned.trans (modBuffer _ _ ⟨rfl, .inl rfl, .inl rfl, id⟩)]

theorem State.Eases.enqueue (q : RepairRequest) : s.Eases (s.enqueue q) :=
  { refl s with
    requests := fun _ hx => hx.imp_left (List.mem_append_left _)
    latest := fun _ => .inl rfl }

/-- The request of a PENDING frame's repair. -/
theorem State.Eases.requestRepair {b : Buf} (hb : s.pool.buffers[b].state = .pending) (next : Option Buf) :
    s.Eases (s.requestRepair b next) := by
  rw [State.requestRepair_eq]
  refine (takeHolds s _ next).trans (trans (modBuffer _ b ?_) ((enqueue _ _).trans (engineTake _)))
  exact ⟨rfl, .inl rfl, .inr (.inl ⟨(State.takeHolds_state _ _ _ _).trans hb, rfl⟩), id⟩

@[simp] theorem State.engineTake_pool : s.engineTake.pool = s.pool := by
  unfold State.engineTake
  split <;> rfl

theorem State.requestRepair_state (b : Buf) (next : Option Buf) (k : Buf) :
    (s.requestRepair b next).pool.buffers[k].state = if b = k then .repair else s.pool.buffers[k].state := by
  rw [State.requestRepair_eq, State.engineTake_pool]
  refine (congrArg Buffer.state (modBuffer_get _ b k _)).trans ?_
  split <;> [rfl; exact State.takeHolds_state _ _ _ _]

theorem State.requestRepair_successorHold (b : Buf) (next : Option Buf) (k : Buf) :
    (s.requestRepair b next).pool.buffers[k].successorHold =
      if s.prevOf s.pool.buffers[b].slot s.pool.buffers[b].frame = some k then false else s.pool.buffers[k].successorHold := by
  rw [State.requestRepair_eq, State.engineTake_pool]
  exact (modBuffer_field _ Buffer.successorHold b k (by intro _; rfl)).trans (State.takeHolds_successorHold _ _ _ _)

theorem State.requestRepair_requested (b : Buf) (next : Option Buf) :
    (s.requestRepair b next).Requested ⟨b, s.prevOf s.pool.buffers[b].slot s.pool.buffers[b].frame, next⟩ := by
  rw [State.requestRepair_eq]
  exact (State.Eases.engineTake _).requests _ (.inl (List.mem_append_right _ (List.mem_singleton_self _)))

theorem State.requestRepair_reels (b : Buf) (next : Option Buf) : (s.requestRepair b next).reels = s.reels := by
  have taken : ∀ t : State, t.engineTake.reels = t.reels := fun t => by
    unfold State.engineTake
    split <;> rfl
  rw [State.requestRepair_eq, taken]
  unfold State.takeHolds
  cases s.prevOf s.pool.buffers[b].slot s.pool.buffers[b].frame <;> cases next <;> rfl

theorem State.Eases.requestPending (r : Slot) : s.Eases (s.requestPending r) := by
  unfold State.requestPending
  split
  · rename_i b hb
    have hp := (firstEntry_some hb).1
    exact requestRepair s (of_decide_eq_true hp).1 none
  · exact refl s

theorem State.Eases.discardedNext (r : Slot) : s.Eases (s.discardedNext r) :=
  (requestPending s r).trans (clearLatestHold _ r)

end Sys2Proof.Machine
end

section
/-! PROOFS. The frame gap of a reel: what holds, deferred orders and the entry to DRAINING do to the reel, to its frames and to the
rest (R10, R11, R14, R16, R20). -/

namespace Sys2Proof.Machine

/-- The kinds of notice that the gap of a reel may raise once its frame has ended. -/
def gapKinds : List NoticeKind := .reelHeld :: quietKinds

theorem quietKinds_subset_gapKinds : quietKinds ⊆ gapKinds := List.subset_cons_self _ _

/-- A frame whose delivery is not resolved, in a buffer of the reel, is the reel's latest frame. -/
structure State.HasLatest (s : State) (r : Slot) (b : Buf) : Prop where
  latest : s.reels[r].latest = some b
  slot : s.pool.buffers[b].slot = r
  state : s.pool.buffers[b].state ≠ .free
  delivery : s.pool.buffers[b].delivery ≠ .resolved

theorem State.HasLatest.eases {r : Slot} {s t : State} {b : Buf} (h : s.HasLatest r b) (he : ∀ b : Buf, s.pool.buffers[b].Eases t.pool.buffers[b])
    (hl : t.reels[r].latest = s.reels[r].latest) : t.HasLatest r b where
  latest := hl.trans h.latest
  slot := (he b).slot.trans h.slot
  state := (he b).state_ne_free h.delivery h.state
  delivery := by
    rw [(he b).delivery_eq h.delivery]
    exact h.delivery

theorem Reel.ext_kept {x y : Reel} (hk : y.kept = x.kept) (hs : y.state = x.state) (hl : y.latest = x.latest) : y = x := by
  cases x; cases y
  simp only [Reel.kept, Reel.mk.injEq] at hk hs hl ⊢
  tauto

/-- Releases and requests leave a reel with an unresolved latest frame. -/
theorem State.Eases.reel_eq {r : Slot} {s t : State} {b : Buf} (h : s.Eases t) (hb : s.HasLatest r b) : t.reels[r] = s.reels[r] := by
  refine Reel.ext_kept (h.kept r) (h.owned r b hb.slot hb.state hb.delivery) ?_
  obtain hl | ⟨-, k, hk, hd, -⟩ := h.latest r
  · exact hl
  · rw [hb.latest, Option.some.injEq] at hk
    exact absurd (hk ▸ hd) hb.delivery

/-- What the gap of reel `r` may do: to the frames what releases and requests do, to another reel no more than close it when it is
DRAINING. -/
structure State.Gap (r : Slot) (s t : State) : Prop where
  intake : t.intake = s.intake
  delivery : t.delivery = s.delivery
  wire : t.wire = s.wire
  lines : t.lines = s.lines
  buffers : ∀ b : Buf, s.pool.buffers[b].Eases t.pool.buffers[b]
  requests : ∀ q, s.Requested q → t.Requested q
  kept : ∀ k : Slot, r ≠ k → t.reels[k].kept = s.reels[k].kept
  state : ∀ k : Slot, r ≠ k → t.reels[k].state = s.reels[k].state ∨
    s.reels[k].state = .draining ∧ t.reels[k].state ∈ [.closed, .free]
  owned : ∀ k : Slot, r ≠ k → ∀ b, s.HasLatest k b → t.reels[k] = s.reels[k]
  notices : NoticeUnit.Keeps gapKinds s.notices t.notices

section

variable {r : Slot} {s t u : State}

theorem State.Eases.gap (h : s.Eases t) (r : Slot) : s.Gap r t where
  intake := h.intake
  delivery := h.delivery
  wire := h.wire
  lines := h.lines
  buffers := h.buffers
  requests := h.requests
  kept k _ := h.kept k
  state k _ := h.state k
  owned _ _ _ hb := h.reel_eq hb
  notices := h.notices.mono quietKinds_subset_gapKinds

theorem State.Gap.refl (r : Slot) (s : State) : s.Gap r s := (State.Eases.refl s).gap r

theorem State.Gap.trans (h : s.Gap r t) (h' : t.Gap r u) : s.Gap r u where
  intake := h'.intake.trans h.intake
  delivery := h'.delivery.trans h.delivery
  wire := h'.wire.trans h.wire
  lines := h'.lines.trans h.lines
  buffers b := (h.buffers b).trans (h'.buffers b)
  requests q hq := h'.requests q (h.requests q hq)
  kept k hk := (h'.kept k hk).trans (h.kept k hk)
  state k hk := by
    obtain hs | ⟨hs, ht⟩ := h.state k hk
    · rw [← hs]
      exact h'.state k hk
    · obtain hu | ⟨hu, -⟩ := h'.state k hk
      · exact .inr ⟨hs, hu ▸ ht⟩
      · rw [hu] at ht
        exact absurd ht (by decide)
  owned k hk b hb := by
    have same := h.owned k hk b hb
    exact (h'.owned k hk b (hb.eases h.buffers (congrArg Reel.latest same))).trans same
  notices := h.notices.trans h'.notices

theorem State.modReel_get (s : State) (r k : Slot) (f : Reel → Reel) :
    (s.modReel r f).reels[k] = if r = k then f s.reels[k] else s.reels[k] := modEntry_get _ _ _ _

theorem State.modReel_get_self (s : State) (r : Slot) (f : Reel → Reel) : (s.modReel r f).reels[r] = f s.reels[r] :=
  (State.modReel_get s r r f).trans (if_pos rfl)

theorem State.Gap.modReel (s : State) (r : Slot) (f : Reel → Reel) : s.Gap r (s.modReel r f) :=
  { State.Gap.refl r s with
    kept := fun k hk => by rw [State.modReel_get, if_neg hk]
    state := fun k hk => .inl (by rw [State.modReel_get, if_neg hk])
    owned := fun k hk _ _ => by rw [State.modReel_get, if_neg hk] }

theorem State.Gap.raise (s : State) (r : Slot) (i : Slot) (c : Option RecordNo) (d : Nat) :
    s.Gap r (s.raise .reelHeld i.val c d) :=
  { State.Gap.refl r s with notices := s.raise_keeps (by decide) i.isLt c d }

end

/-! ### A reel and its frame through a gap -/

/-- The change of a reel that a step of its gap amounts to, but for its close and the loss of its latest frame. -/
structure Reel.Settles (x y : Reel) : Prop where
  kept : y.kept = x.kept
  state : y.state = x.state ∨ x.state = .draining ∧ y.state ∈ [.closed, .free]

/-- Reel `r` comes out of a gap as `f` gives it: exactly so while it has an unresolved latest frame, and else but for its close and
the loss of its latest frame. -/
structure State.Turns (r : Slot) (f : Reel → Reel) (s t : State) : Prop where
  gap : s.Gap r t
  settles : (f s.reels[r]).Settles t.reels[r]
  exact_ : ∀ b, s.HasLatest r b → t.reels[r] = f s.reels[r]

section

variable {r : Slot} {s t u : State} {f g : Reel → Reel}

theorem State.HasLatest.gap {b : Buf} (h : s.HasLatest r b) (hg : s.Gap r t) (hl : t.reels[r].latest = s.reels[r].latest) :
    t.HasLatest r b := h.eases hg.buffers hl

theorem Reel.Settles.trans {x y z : Reel} (h : x.Settles y) (h' : y.Settles z) : x.Settles z := by
  refine ⟨h'.kept.trans h.kept, ?_⟩
  obtain hs | ⟨hs, ht⟩ := h.state
  · rw [← hs]
    exact h'.state
  · obtain hu | ⟨hu, -⟩ := h'.state
    · exact .inr ⟨hs, hu ▸ ht⟩
    · rw [hu] at ht
      exact absurd ht (by decide)

theorem State.Turns.trans (h : s.Turns r f t) (h' : t.Turns r g u) (hf : ∀ x, (f x).latest = x.latest)
    (hg : ∀ x y, x.Settles y → (g x).Settles (g y)) : s.Turns r (fun x => g (f x)) u where
  gap := h.gap.trans h'.gap
  settles := (hg _ _ h.settles).trans h'.settles
  exact_ b hb := by
    have ht := h.exact_ b hb
    rw [h'.exact_ b (hb.gap h.gap ((congrArg Reel.latest ht).trans (hf _))), ht]

theorem State.Eases.turns (h : s.Eases t) (r : Slot) : s.Turns r (fun x => x) t where
  gap := h.gap r
  settles := ⟨h.kept r, h.state r⟩
  exact_ _ hb := h.reel_eq hb

theorem State.Turns.modReel (s : State) (r : Slot) (f : Reel → Reel) : s.Turns r f (s.modReel r f) where
  gap := .modReel s r f
  settles := by rw [State.modReel_get_self]; exact ⟨rfl, .inl rfl⟩
  exact_ _ _ := State.modReel_get_self s r f

/-- A step that eases after one that turns the reel. -/
theorem State.Turns.eases (h : s.Turns r f t) (h' : t.Eases u) (hf : ∀ x, (f x).latest = x.latest) : s.Turns r f u :=
  h.trans (h'.turns r) hf fun _ _ h => h

end

/-! ### The steps of a gap -/

/-- A reel after a hold that takes effect (R10). -/
def Reel.afterHold (x : Reel) : Reel := if x.state = .mounted ∨ x.state = .running then { x with state := .held } else x

/-- A reel at its entry to DRAINING (R20). -/
def Reel.drained (why : CloseReason) (x : Reel) : Reel :=
  { x with state := .draining, closeReason := some why, cues := [], deferred := [] }

/-- A reel with its policy replaced (R14). -/
def Reel.withPolicy (p : Policy) (x : Reel) : Reel :=
  { x with policy := p, settleRemaining := if x.state = .mounted then p.settleCount else x.settleRemaining }

/-- A reel after its deferred orders (R16 step 3). -/
def Reel.afterDeferred : List Deferred → Reel → Reel
  | [], x => x
  | .holdReel _ :: rest, x => afterDeferred rest x.afterHold
  | .setPolicy _ p :: rest, x => afterDeferred rest (x.withPolicy p)
  | .unmountEnd _ :: _, x => x.drained .unmount

theorem Reel.afterHold_latest (x : Reel) : x.afterHold.latest = x.latest := by
  unfold Reel.afterHold
  split <;> rfl

theorem Reel.afterHold_kept (x : Reel) : x.afterHold.kept = x.kept := by
  unfold Reel.afterHold
  split <;> rfl

theorem Reel.afterHold_state (x : Reel) :
    x.afterHold.state = if x.state = .mounted ∨ x.state = .running then .held else x.state := by
  unfold Reel.afterHold
  split <;> rfl

theorem Reel.afterHold_settles (x y : Reel) (h : x.Settles y) : x.afterHold.Settles y.afterHold where
  kept := by rw [afterHold_kept, afterHold_kept, h.kept]
  state := by
    rw [afterHold_state, afterHold_state]
    obtain hs | ⟨hs, hy⟩ := h.state
    · exact .inl (by rw [hs])
    · simp only [List.mem_cons, List.not_mem_nil, or_false] at hy ⊢
      right
      simp only [hs, reduceCtorEq, or_self, ↓reduceIte, true_and]
      rcases hy with hy | hy <;> simp [hy]

theorem Reel.drained_settles (why : CloseReason) (x y : Reel) (h : x.Settles y) : (x.drained why).Settles (y.drained why) where
  kept := by
    have hk := h.kept
    simp only [Reel.kept, Reel.drained, Reel.mk.injEq] at hk ⊢
    tauto
  state := .inl rfl

theorem Reel.withPolicy_settles (p : Policy) (x y : Reel) (h : x.Settles y) : (x.withPolicy p).Settles (y.withPolicy p) where
  kept := by
    have hk := h.kept
    have mounted : y.state = .mounted ↔ x.state = .mounted := by
      obtain hs | ⟨hs, hy⟩ := h.state
      · rw [hs]
      · simp only [List.mem_cons, List.not_mem_nil, or_false] at hy
        rcases hy with hy | hy <;> simp [hs, hy]
    simp only [Reel.kept, Reel.withPolicy, Reel.mk.injEq, mounted] at hk ⊢
    obtain ⟨-, hk⟩ := hk
    simp [hk]
  state := h.state

theorem Reel.afterDeferred_settles (l : List Deferred) (x y : Reel) (h : x.Settles y) :
    (x.afterDeferred l).Settles (y.afterDeferred l) := by
  induction l generalizing x y with
  | nil => exact h
  | cons e l ih =>
    cases e with
    | holdReel g => exact ih _ _ (afterHold_settles x y h)
    | setPolicy g p => exact ih _ _ (withPolicy_settles p x y h)
    | unmountEnd g => exact drained_settles .unmount x y h

section

variable (s : State) (r : Slot)

/-- A reel taken to HELD, with HALT on its head's port and REEL_HELD (R10): a hold up to the requests it makes. -/
def State.halted (cause : Nat) : State :=
  ((s.modReel r fun x => { x with state := .held }).formFlow s.reels[r].head .halt).raise
    .reelHeld r.val (some s.reels[r].record) cause

theorem State.halted_work (cause : Nat) : (s.halted r cause).work = s.work := (State.Aside.formFlow _ _ _).work

theorem State.halted_reels (cause : Nat) : (s.halted r cause).reels = modEntry s.reels r fun x => { x with state := .held } :=
  State.formFlow_reels _ _ _

theorem State.halted_latest (cause : Nat) : (s.halted r cause).reels[r].latest = s.reels[r].latest := by
  rw [State.halted_reels, modEntry_get, if_pos rfl]

theorem State.takeHold_eq {cause : Nat} (hx : s.reels[r].state = .mounted ∨ s.reels[r].state = .running) :
    s.takeHold r cause = (s.halted r cause).discardedNext r := if_pos hx

theorem State.takeHold_none {cause : Nat} (hx : ¬ (s.reels[r].state = .mounted ∨ s.reels[r].state = .running)) :
    s.takeHold r cause = s := if_neg hx

theorem State.Turns.halted (cause : Nat) : s.Turns r (fun x => { x with state := .held }) (s.halted r cause) where
  gap := (State.Gap.modReel s r _).trans (((State.Eases.of_aside (.formFlow _ _ _)).gap r).trans (.raise _ r r _ _))
  settles := by
    rw [State.halted_reels, modEntry_get, if_pos rfl]
    exact ⟨rfl, .inl rfl⟩
  exact_ _ _ := by rw [State.halted_reels, modEntry_get, if_pos rfl]

theorem State.Turns.congr {r : Slot} {s t : State} {f g : Reel → Reel} (h : s.Turns r f t) (hf : f s.reels[r] = g s.reels[r]) :
    s.Turns r g t where
  gap := h.gap
  settles := hf ▸ h.settles
  exact_ b hb := (h.exact_ b hb).trans hf

theorem State.Turns.takeHold (cause : Nat) : s.Turns r Reel.afterHold (s.takeHold r cause) := by
  by_cases hx : s.reels[r].state = .mounted ∨ s.reels[r].state = .running
  · rw [State.takeHold_eq s r hx]
    exact ((State.Turns.halted s r cause).eases (.discardedNext _ r) fun _ => rfl).congr (if_pos hx).symm
  · rw [State.takeHold_none s r hx]
    exact ((State.Eases.refl s).turns r).congr (if_neg hx).symm

theorem State.Turns.applyPolicy (p : Policy) : s.Turns r (Reel.withPolicy p) (s.applyPolicy r p) := .modReel s r _

theorem State.enterDraining_eq (why : CloseReason) :
    s.enterDraining r why = ((s.modReel r (Reel.drained why)).discardedNext r).closeIfEmpty r := rfl

theorem State.Turns.enterDraining (why : CloseReason) : s.Turns r (Reel.drained why) (s.enterDraining r why) :=
  (State.Turns.modReel s r (Reel.drained why)).eases ((State.Eases.discardedNext _ r).trans (.closeIfEmpty _ r)) fun _ => rfl

theorem State.Turns.applyDeferred (l : List Deferred) (s : State) : s.Turns r (Reel.afterDeferred l) (applyDeferred r l s) := by
  induction l generalizing s with
  | nil => exact (State.Eases.refl s).turns r
  | cons e l ih =>
    cases e with
    | holdReel g =>
      exact (State.Turns.takeHold s r 0).trans (ih _) Reel.afterHold_latest (Reel.afterDeferred_settles l)
    | setPolicy g p => exact (State.Turns.applyPolicy s r p).trans (ih _) (fun _ => rfl) (Reel.afterDeferred_settles l)
    | unmountEnd g => exact .enterDraining s r .unmount

/-- A reel after the deferred orders of its list, which is left empty (R16 steps 3 and 4). -/
def Reel.afterOrders (x : Reel) : Reel := Reel.afterDeferred x.deferred { x with deferred := [] }

theorem State.Turns.applyDeferredOrders : s.Turns r Reel.afterOrders (s.applyDeferredOrders r) := by
  have orders := (State.Turns.modReel s r fun x => { x with deferred := [] }).trans
    (State.Turns.applyDeferred r s.reels[r].deferred _) (fun _ => rfl) (Reel.afterDeferred_settles _)
  exact orders.congr rfl

end

end Sys2Proof.Machine
end

section
/-! PROOFS. What a gap does to the frames that wait on it, to the reel's fields, and to REEL_HELD (R10, R11, R16, R20, R27). -/

namespace Sys2Proof.Machine

/-! ### Discarded next (R27) -/

/-- The gap has told the frames of reel `r` that no next frame comes: the latest frame lost its successor hold, and the PENDING
frame's repair is requested with no next frame. -/
structure State.Quieted (r : Slot) (s t : State) : Prop where
  latest : ∀ k : Buf, s.reels[r].latest = some k → t.pool.buffers[k].successorHold = false
  pending : ∀ k : Buf, s.pendingFrame r = some k → s.pool.buffers[k].delivery ≠ .resolved →
    t.pool.buffers[k].state = .repair ∧ t.pool.buffers[k].delivery ≠ .resolved ∧
      ∃ q, t.Requested q ∧ q.buf = k ∧ q.next = none

section

variable {r : Slot} {s s' t u : State}

theorem State.Quieted.gap (h : s.Quieted r t) {k : Slot} (hg : t.Gap k u) : s.Quieted r u where
  latest b hb := (hg.buffers b).hold_false (h.latest b hb)
  pending b hb hd := by
    obtain ⟨hs, hd, q, hq, hbuf, hnext⟩ := h.pending b hb hd
    have he := hg.buffers b
    refine ⟨(he.state_eq hd (by rw [hs]; decide)).trans hs, ?_, q, hg.requests q hq, hbuf, hnext⟩
    rwa [he.delivery_eq hd]

theorem State.pendingFrame_congr (hb : s'.pool.buffers = s.pool.buffers) : s'.pendingFrame r = s.pendingFrame r := by
  simp only [State.pendingFrame, hb]

theorem State.Quieted.of_same (h : s'.Quieted r t) (hb : s'.pool.buffers = s.pool.buffers)
    (hl : s'.reels[r].latest = s.reels[r].latest) : s.Quieted r t where
  latest k hk := h.latest k (hl.trans hk)
  pending k hk hd := h.pending k ((State.pendingFrame_congr hb).trans hk) (by rwa [hb])

theorem State.requestPending_reels (s : State) (r : Slot) : (s.requestPending r).reels = s.reels := by
  unfold State.requestPending
  split <;> [exact State.requestRepair_reels _ _ _; rfl]

theorem State.clearSuccessor_get (s : State) (b k : Buf) : (s.clearSuccessor b).pool.buffers[k] =
    if b = k then s.pool.buffers[k].unheld else s.pool.buffers[k] := by
  rw [State.work_buffers (s.clearSuccessor_work b)]
  exact modBuffer_get s b k _

theorem State.discardedNext_quieted (s : State) (r : Slot) : s.Quieted r (s.discardedNext r) where
  latest k hk := by
    have hl : (s.requestPending r).reels[r].latest = some k := by rw [State.requestPending_reels, hk]
    unfold State.discardedNext State.clearLatestHold
    rw [hl]
    dsimp only
    rw [State.clearSuccessor_get, if_pos rfl]
    exact Buffer.unheld_successorHold _
  pending k hk hd := by
    have asked : s.requestPending r = s.requestRepair k none := by
      unfold State.requestPending
      rw [hk]
    have hp : s.pool.buffers[k].state = .pending := (of_decide_eq_true (firstEntry_some hk).1).1
    have he := (State.Eases.requestRepair s hp none).buffers k
    have hs : (s.requestRepair k none).pool.buffers[k].state = .repair := by rw [State.requestRepair_state, if_pos rfl]
    have hd' : (s.requestRepair k none).pool.buffers[k].delivery ≠ .resolved := by rwa [he.delivery_eq hd]
    have hc := State.Eases.clearLatestHold (s.requestRepair k none) r
    unfold State.discardedNext
    rw [asked]
    exact ⟨((hc.buffers k).state_eq hd' (by rw [hs]; decide)).trans hs, by rwa [(hc.buffers k).delivery_eq hd'], _,
      hc.requests _ (State.requestRepair_requested s k none), rfl, rfl⟩

/-! ### Holds, deferred orders and the frames -/

/-- Whether a reel is feeding the pool: MOUNTED or RUNNING, so that a hold takes effect on it (R10). -/
def Reel.Active (x : Reel) : Prop := x.state = .mounted ∨ x.state = .running

theorem State.takeHold_quieted (hx : s.reels[r].Active) (cause : Nat) : s.Quieted r (s.takeHold r cause) := by
  rw [State.takeHold_eq s r hx]
  exact (State.discardedNext_quieted _ r).of_same (State.work_buffers (s.halted_work r cause)) (s.halted_latest r cause)

theorem State.enterDraining_quieted (s : State) (r : Slot) (why : CloseReason) : s.Quieted r (s.enterDraining r why) := by
  rw [State.enterDraining_eq]
  exact ((State.discardedNext_quieted _ r).gap ((State.Eases.closeIfEmpty _ r).gap r)).of_same rfl
    (by rw [State.modReel_get_self]; rfl)

/-- Whether a deferred order is a SET-REEL-POLICY: neither a hold nor the end of the reel. -/
def Deferred.Sets (e : Deferred) : Prop := e.holds = false ∧ e.ends = false

/-- Deferred orders that only set the policy change the reel's record alone. -/
theorem applyDeferred_sets {l : List Deferred} (hl : ∀ e ∈ l, e.Sets) (s : State) :
    applyDeferred r l s = s.modReel r (Reel.afterDeferred l) := by
  induction l generalizing s with
  | nil => exact (show s.modReel r (fun x => x) = s from by simp only [State.modReel, modEntry_id]).symm
  | cons e l ih =>
    obtain ⟨he, rest⟩ := List.forall_mem_cons.1 hl
    cases e with
    | holdReel g => exact absurd he.1 (by simp [Deferred.holds])
    | setPolicy g p => exact (ih rest _).trans (modReel_modReel _ _ _ _)
    | unmountEnd g => exact absurd he.2 (by simp [Deferred.ends])

/-- Deferred orders with a hold or the reel's end among them tell the frames that no next frame comes. -/
theorem applyDeferred_quieted {l : List Deferred} (hl : ∃ e ∈ l, ¬ e.Sets) (s : State) (hx : s.reels[r].Active) :
    s.Quieted r (applyDeferred r l s) := by
  induction l generalizing s with
  | nil => simp at hl
  | cons e l ih =>
    cases e with
    | holdReel g => exact (State.takeHold_quieted hx 0).gap (State.Turns.applyDeferred r l _).gap
    | setPolicy g p =>
      have later : ∃ e ∈ l, ¬ e.Sets := by
        obtain ⟨e, he, hs⟩ := hl
        obtain rfl | he := List.mem_cons.1 he
        · exact absurd ⟨rfl, rfl⟩ hs
        · exact ⟨e, he, hs⟩
      have entry : (s.applyPolicy r p).reels[r] = s.reels[r].withPolicy p := State.modReel_get_self s r _
      exact (ih later _ (by rw [entry]; exact hx)).of_same rfl (by rw [entry]; rfl)
    | unmountEnd g => exact State.enterDraining_quieted s r .unmount

end

/-! ### The reel's fields after its deferred orders -/

/-- What the deferred orders and holds of a gap leave of a reel's record. -/
def Reel.lasting (x : Reel) : Reel :=
  { x with state := .free, policy := defaultPolicy, settleRemaining := 0, cues := [], deferred := [], closeReason := none }

theorem Reel.afterHold_eq (x : Reel) : x.afterHold = { x with state := x.afterHold.state } := by
  unfold Reel.afterHold
  split <;> rfl

theorem Reel.afterHold_closeReason (x : Reel) : x.afterHold.closeReason = x.closeReason := by rw [x.afterHold_eq]
theorem Reel.afterHold_cues (x : Reel) : x.afterHold.cues = x.cues := by rw [x.afterHold_eq]
theorem Reel.afterHold_deferred (x : Reel) : x.afterHold.deferred = x.deferred := by rw [x.afterHold_eq]

theorem Reel.afterDeferred_lasting (l : List Deferred) (x : Reel) : (x.afterDeferred l).lasting = x.lasting := by
  induction l generalizing x with
  | nil => rfl
  | cons e l ih =>
    cases e with
    | holdReel g => exact (ih _).trans (by rw [x.afterHold_eq]; rfl)
    | setPolicy g p => exact (ih _).trans rfl
    | unmountEnd g => rfl

/-- An UNMOUNT-REEL END among the deferred orders drains the reel. -/
theorem Reel.afterDeferred_ends {l : List Deferred} (hl : ∃ e ∈ l, e.ends = true) (x : Reel) :
    (x.afterDeferred l).state = .draining ∧ (x.afterDeferred l).closeReason = some .unmount ∧ (x.afterDeferred l).cues = [] ∧
      (x.afterDeferred l).deferred = [] := by
  induction l generalizing x with
  | nil => simp at hl
  | cons e l ih =>
    cases e with
    | unmountEnd g => exact ⟨rfl, rfl, rfl, rfl⟩
    | holdReel g | setPolicy g p =>
      simp only [List.exists_mem_cons_iff, Deferred.ends, Bool.false_eq_true, false_or] at hl
      exact ih hl _

/-- Without one they keep the close reason and the cues, and a hold among them holds a reel that feeds the pool. -/
theorem Reel.afterDeferred_goes {l : List Deferred} (hl : ∀ e ∈ l, e.ends = false) (x : Reel) :
    (x.afterDeferred l).closeReason = x.closeReason ∧ (x.afterDeferred l).cues = x.cues ∧
      (x.afterDeferred l).deferred = x.deferred ∧
      ((∃ e ∈ l, e.holds = true) → x.Active → (x.afterDeferred l).state = .held) ∧
      ((∀ e ∈ l, e.holds = false) ∨ ¬ x.Active → (x.afterDeferred l).state = x.state) := by
  induction l generalizing x with
  | nil => exact ⟨rfl, rfl, rfl, by simp, fun _ => rfl⟩
  | cons e l ih =>
    obtain ⟨he, rest⟩ := List.forall_mem_cons.1 hl
    cases e with
    | unmountEnd g => exact absurd he (by simp [Deferred.ends])
    | holdReel g =>
      obtain ⟨h1, h2, h3, h4, h5⟩ := ih rest x.afterHold
      have inactive : ¬ x.afterHold.Active := by
        unfold Reel.Active
        rw [x.afterHold_state]
        split <;> [simp; assumption]
      refine ⟨h1.trans x.afterHold_closeReason, h2.trans x.afterHold_cues, h3.trans x.afterHold_deferred,
        fun _ hx => ?_, fun hx => ?_⟩
      · exact (h5 (.inr inactive)).trans (x.afterHold_state.trans (if_pos hx))
      · obtain hx | hx := hx
        · exact absurd (hx _ List.mem_cons_self) (by simp [Deferred.holds])
        · exact (h5 (.inr inactive)).trans (x.afterHold_state.trans (if_neg hx))
    | setPolicy g p =>
      obtain ⟨h1, h2, h3, h4, h5⟩ := ih rest (x.withPolicy p)
      refine ⟨h1, h2, h3, fun hh hx => h4 ?_ hx, fun hh => h5 (hh.imp_left fun h e he => h e (List.mem_cons_of_mem _ he))⟩
      simpa [Deferred.holds] using hh

/-- The policy in force is the last one set before the reel's end. -/
theorem Reel.afterDeferred_policy (l : List Deferred) (x : Reel) : (x.afterDeferred l).policy =
    ((l.takeWhile fun e => !e.ends).filterMap Deferred.newPolicy).getLastD x.policy := by
  induction l generalizing x with
  | nil => rfl
  | cons e l ih =>
    cases e with
    | unmountEnd g => rfl
    | holdReel g =>
      refine (ih _).trans ?_
      rw [x.afterHold_eq]
      rfl
    | setPolicy g p =>
      exact (ih _).trans List.getLastD_cons.symm

end Sys2Proof.Machine
end

section
/-! PROOFS. The internal holds of an assembled frame and the deferred orders behind them, together (R11, R16), and the notices
that wait. -/

namespace Sys2Proof.Machine

/-! ### Notices that wait (R184, R185) -/

/-- A notice with a record and a detail is pending. -/
def State.Waits (s : State) (kind : NoticeKind) (inst : Nat) (record : Option RecordNo) (detail : Nat) : Prop :=
  ∃ n ∈ s.notices.waiting, n.kind = kind ∧ n.inst = inst ∧ n.record = record ∧ n.detail = detail

section

variable {s t : State} {k : NoticeKind} {i : Nat} {c : Option RecordNo} {d : Nat}

theorem State.Waits.keeps (h : s.Waits k i c d) (hu : s.notices.InRange) {raised : List NoticeKind}
    (hk : NoticeUnit.Keeps raised s.notices t.notices) (hn : k ∉ raised) : t.Waits k i c d := by
  obtain ⟨n, hm, hkind, hrest⟩ := h
  exact ⟨n, (hk hu).2 n hm (hkind ▸ hn), hkind, hrest⟩

/-- Among pending notices in range an entry is its kind and instance. -/
theorem Notice.eq_of_key {m n : Notice} (hm : m.inst < 8) (hn : n.inst < 8) (hk : m.key = n.key) : m.kind = n.kind ∧ m.inst = n.inst := by
  have hkind : m.kind = n.kind := by
    by_contra h
    exact Notice.key_ne_of_kind hm hn h hk
  refine ⟨hkind, ?_⟩
  simp only [Notice.key, hkind] at hk
  omega

/-- A list in which a notice is placed holds it, alone or joined with one of its entry. -/
theorem exists_mem_placeNotice {n : Notice} {join : Notice → Notice} {P : Notice → Prop} {l : List Notice} (hn : P n)
    (hj : ∀ m ∈ l, m.key = n.key → P (join m)) : ∃ m ∈ placeNotice n join l, P m := by
  induction l with
  | nil => exact ⟨n, List.mem_singleton_self n, hn⟩
  | cons a l ih =>
    unfold placeNotice
    split
    · exact ⟨_, List.mem_cons_self, hj a List.mem_cons_self ‹_›⟩
    · split
      · exact ⟨n, List.mem_cons_self, hn⟩
      · obtain ⟨m, hm, hp⟩ := ih fun m hm => hj m (List.mem_cons_of_mem _ hm)
        exact ⟨m, List.mem_cons_of_mem _ hm, hp⟩

/-- A pending notice stays when one is placed, itself or joined. -/
theorem mem_placeNotice_or_join {m n : Notice} {join : Notice → Notice} {l : List Notice} (hm : m ∈ l) :
    m ∈ placeNotice n join l ∨ join m ∈ placeNotice n join l := by
  induction l with
  | nil => cases hm
  | cons a l ih =>
    unfold placeNotice
    obtain rfl | hl := List.mem_cons.1 hm
    · split
      · simp
      · split <;> simp
    · split
      · simp [hl]
      · split
        · simp [hl]
        · exact (ih hl).imp (List.mem_cons_of_mem _) (List.mem_cons_of_mem _)

/-- In a list in table order an entry stands once. -/
theorem Notice.eq_of_sorted {m n : Notice} {l : List Notice} (hl : l.Pairwise fun a b => a.key < b.key) (hm : m ∈ l) (hn : n ∈ l)
    (hk : m.key = n.key) : m = n :=
  List.inj_on_of_nodup_map ((List.pairwise_map.2 hl).imp fun h => Nat.ne_of_lt h) hm hn hk

theorem State.raise_waits (hu : s.notices.InRange) (hi : i < 8) : (s.raise k i c d).Waits k i c d :=
  exists_mem_placeNotice (P := fun n => n.kind = k ∧ n.inst = i ∧ n.record = c ∧ n.detail = d) ⟨rfl, rfl, rfl, rfl⟩
    fun m hm hkey =>
      have same := Notice.eq_of_key (hu.instances m hm) hi hkey
      ⟨same.1, same.2, rfl, rfl⟩

theorem State.raise_inRange (hu : s.notices.InRange) (hi : i < 8) : (s.raise k i c d).notices.InRange :=
  (s.raise_keeps (raised := [k]) (List.mem_singleton_self k) hi c d hu).1

/-- The hand-over keeps a report, in flight or pending (R185). -/
theorem State.Waits.handOver (h : s.Waits k i c d) (hu : s.notices.InRange) : s.handOver.Reports k i c d := by
  obtain ⟨n, hm, hn⟩ := h
  unfold State.handOver
  split
  · split
    · exact ⟨n, .inl hm, hn⟩
    · rename_i m hc
      by_cases hk : n.key = m.key
      · have same : n = m := Notice.eq_of_sorted hu.sorted hm (NoticeUnit.choose_mem hc) hk
        exact ⟨n, .inr ⟨s.notices.port, by rw [same]; rfl⟩, hn⟩
      · exact ⟨n, .inl (List.mem_filter.2 ⟨hm, decide_eq_true hk⟩), hn⟩
  · exact ⟨n, .inl hm, hn⟩

/-- A notice that returns from flight leaves every report that waits (R185). -/
theorem State.Waits.returnNotice (h : s.Waits k i c d) (p : Port) : (s.returnNotice p).Waits k i c d := by
  obtain ⟨n, hm, hn⟩ := h
  unfold State.returnNotice
  split
  · exact ⟨n, hm, hn⟩
  · split
    · obtain hm | hm := mem_placeNotice_or_join hm <;> [exact ⟨n, hm, hn⟩; exact ⟨_, hm, hn⟩]
    · exact ⟨n, hm, hn⟩

end

/-! ### Internal holds (R11) -/

/-- Whether the end of a frame holds the reel as heavy. -/
def Reel.heavyDue (x : Reel) (heavy : Bool) : Bool := heavy && decide (x.policy.heavyAction = .hold)

/-- Whether the perf-fault run of a reel holds it at its limit. -/
def Reel.perfDue (x : Reel) (perfFault : Bool) : Bool :=
  perfFault && decide (x.policy.perfRunLimit ≠ 0 ∧ x.policy.perfRunLimit ≤ x.perfRun)

/-- A reel after the internal holds due at the gap of an assembled frame. -/
def Reel.afterInternal (heavy perfFault : Bool) (x : Reel) : Reel :=
  if (x.state = .mounted ∨ x.state = .running) ∧ (x.heavyDue heavy || x.perfDue perfFault) = true then
    { x with state := .held, perfRun := if x.perfDue perfFault then 0 else x.perfRun }
  else x

section

variable {s : State} {r : Slot} {heavy perfFault : Bool}

theorem State.internalHolds_eq (s : State) (r : Slot) (heavy perfFault : Bool) : s.internalHolds r heavy perfFault =
    if s.reels[r].state = .mounted ∨ s.reels[r].state = .running then
      if (s.reels[r].heavyDue heavy || s.reels[r].perfDue perfFault) = true then
        if s.reels[r].perfDue perfFault = true then
          (s.takeHold r (if s.reels[r].heavyDue heavy = true then 1 else 2)).modReel r fun x => { x with perfRun := 0 }
        else s.takeHold r (if s.reels[r].heavyDue heavy = true then 1 else 2)
      else s
    else s := rfl

theorem modReel_id {s : State} {r : Slot} {f : Reel → Reel} (h : f s.reels[r] = s.reels[r]) : s.modReel r f = s := by
  simp only [State.modReel, modEntry_id _ _ h]

/-- The internal hold that is due takes effect, and a perf-fault run at its limit starts again. -/
theorem State.internalHolds_due (hx : s.reels[r].Active) (hd : (s.reels[r].heavyDue heavy || s.reels[r].perfDue perfFault) = true) :
    s.internalHolds r heavy perfFault = (s.takeHold r (if s.reels[r].heavyDue heavy then 1 else 2)).modReel r fun x =>
      { x with perfRun := if s.reels[r].perfDue perfFault then 0 else x.perfRun } := by
  refine (State.internalHolds_eq s r heavy perfFault).trans ((if_pos hx).trans ((if_pos hd).trans ?_))
  split
  · rfl
  · exact (modReel_id rfl).symm

theorem State.internalHolds_none
    (hn : ¬ (s.reels[r].Active ∧ (s.reels[r].heavyDue heavy || s.reels[r].perfDue perfFault) = true)) :
    s.internalHolds r heavy perfFault = s := by
  rw [State.internalHolds_eq]
  split
  · exact if_neg fun hd => hn ⟨‹_›, hd⟩
  · rfl

theorem Reel.afterInternal_latest (heavy perfFault : Bool) (x : Reel) : (x.afterInternal heavy perfFault).latest = x.latest := by
  unfold Reel.afterInternal
  split <;> rfl

theorem Reel.afterInternal_settles (heavy perfFault : Bool) (x y : Reel) (h : x.Settles y) :
    (x.afterInternal heavy perfFault).Settles (y.afterInternal heavy perfFault) := by
  have hk := h.kept
  have active : (y.state = .mounted ∨ y.state = .running) ↔ (x.state = .mounted ∨ x.state = .running) := by
    obtain hs | ⟨hs, hy⟩ := h.state
    · rw [hs]
    · simp only [List.mem_cons, List.not_mem_nil, or_false] at hy
      rcases hy with hy | hy <;> simp [hs, hy]
  have dues : y.heavyDue heavy = x.heavyDue heavy ∧ y.perfDue perfFault = x.perfDue perfFault := by
    simp only [Reel.kept, Reel.mk.injEq] at hk
    simp only [Reel.heavyDue, Reel.perfDue]
    obtain ⟨-, -, -, -, hp, -, -, -, -, -, -, -, hr, -⟩ := hk
    rw [hp, hr]
    exact ⟨rfl, rfl⟩
  unfold Reel.afterInternal
  rw [dues.1, dues.2]
  simp only [active]
  split
  · refine ⟨?_, .inl rfl⟩
    simp only [Reel.kept, Reel.mk.injEq] at hk ⊢
    obtain ⟨-, hk⟩ := hk
    simp [hk]
  · exact h

theorem Reel.afterOrders_settles (x y : Reel) (h : x.Settles y) : x.afterOrders.Settles y.afterOrders := by
  have hk := h.kept
  have hd : y.deferred = x.deferred := 
    (congrArg Reel.deferred hk : y.kept.deferred = x.kept.deferred)
  unfold Reel.afterOrders
  rw [hd]
  refine Reel.afterDeferred_settles _ _ _ ⟨?_, h.state⟩
  simp only [Reel.kept, Reel.mk.injEq] at hk ⊢
  tauto

theorem State.Turns.internalHolds (s : State) (r : Slot) (heavy perfFault : Bool) :
    s.Turns r (Reel.afterInternal heavy perfFault) (s.internalHolds r heavy perfFault) := by
  by_cases hd : s.reels[r].Active ∧ (s.reels[r].heavyDue heavy || s.reels[r].perfDue perfFault) = true
  · obtain ⟨hx, hd⟩ := hd
    rw [State.internalHolds_due hx hd]
    have held := (State.Turns.takeHold s r (if s.reels[r].heavyDue heavy then 1 else 2)).trans
      (.modReel _ r fun x => { x with perfRun := if s.reels[r].perfDue perfFault then 0 else x.perfRun })
      Reel.afterHold_latest ?_
    · refine held.congr ?_
      have feeding : s.reels[r].state = .mounted ∨ s.reels[r].state = .running := hx
      simp only [Reel.afterHold, Reel.afterInternal, feeding, hd, and_self, ↓reduceIte]
    · intro x y h
      refine ⟨?_, h.state⟩
      have hk := h.kept
      simp only [Reel.kept, Reel.mk.injEq] at hk ⊢
      obtain ⟨-, hk⟩ := hk
      simp [hk]
  · rw [State.internalHolds_none hd]
    exact ((State.Eases.refl s).turns r).congr (if_neg hd).symm

/-! ### The gap of an assembled frame (R16 steps 2 to 4) -/

/-- The internal holds and the deferred orders of a gap. -/
def State.gapSteps (s : State) (r : Slot) (heavy perfFault : Bool) : State :=
  (s.internalHolds r heavy perfFault).applyDeferredOrders r

/-- The reel after them. -/
def Reel.afterGap (heavy perfFault : Bool) (x : Reel) : Reel := (x.afterInternal heavy perfFault).afterOrders

theorem State.Turns.gapSteps (s : State) (r : Slot) (heavy perfFault : Bool) :
    s.Turns r (Reel.afterGap heavy perfFault) (s.gapSteps r heavy perfFault) :=
  (State.Turns.internalHolds s r heavy perfFault).trans (.applyDeferredOrders _ r) (Reel.afterInternal_latest heavy perfFault)
    Reel.afterOrders_settles

/-- Whether the gap holds or ends a reel. -/
def Reel.Stops (heavy perfFault : Bool) (x : Reel) : Prop :=
  (x.heavyDue heavy || x.perfDue perfFault) = true ∨ ∃ e ∈ x.deferred, ¬ e.Sets

/-- A gap that neither holds nor ends the reel changes its record alone. -/
theorem State.gapSteps_goes (hn : ¬ s.reels[r].Stops heavy perfFault) :
    s.gapSteps r heavy perfFault = s.modReel r (Reel.afterGap heavy perfFault) := by
  obtain ⟨hd, hl⟩ := not_or.1 hn
  have hl : ∀ e ∈ s.reels[r].deferred, e.Sets := fun e he => not_not.1 fun h => hl ⟨e, he, h⟩
  unfold State.gapSteps
  rw [State.internalHolds_none fun h => hd h.2]
  refine (applyDeferred_sets hl _).trans ((modReel_modReel _ _ _ _).trans (modReel_congr ?_))
  unfold Reel.afterGap Reel.afterOrders Reel.afterInternal
  rw [if_neg fun h => hd h.2]

/-- A gap that holds or ends the reel tells its frames that no next frame comes. -/
theorem State.gapSteps_quieted (hx : s.reels[r].Active) (hs : s.reels[r].Stops heavy perfFault) :
    s.Quieted r (s.gapSteps r heavy perfFault) := by
  unfold State.gapSteps
  by_cases hd : (s.reels[r].heavyDue heavy || s.reels[r].perfDue perfFault) = true
  · rw [State.internalHolds_due hx hd]
    exact ((State.takeHold_quieted hx _).gap (.modReel _ r _)).gap (State.Turns.applyDeferredOrders _ r).gap
  · rw [State.internalHolds_none fun h => hd h.2]
    refine (applyDeferred_quieted (hs.resolve_left hd) _ ?_).of_same rfl (by rw [State.modReel_get_self])
    rw [State.modReel_get_self]
    exact hx

end

end Sys2Proof.Machine
end

section
/-! PROOFS. The reel and REEL_HELD after the gap of an assembled frame (R11, R16). -/

namespace Sys2Proof.Machine

section

variable {x : Reel} {heavy perfFault : Bool}

/-- What the gap leaves of a reel's record: its frames and counters, and the perf-fault run where that held the reel. -/
theorem Reel.afterGap_lasting (heavy perfFault : Bool) (x : Reel) : (x.afterGap heavy perfFault).lasting =
    { x.lasting with perfRun := (x.afterInternal heavy perfFault).perfRun } := by
  refine (Reel.afterDeferred_lasting _ _).trans ?_
  unfold Reel.afterInternal
  split <;> rfl

theorem Reel.afterInternal_deferred (heavy perfFault : Bool) (x : Reel) : (x.afterInternal heavy perfFault).deferred = x.deferred := by
  unfold Reel.afterInternal
  split <;> rfl

theorem Reel.afterInternal_policy (heavy perfFault : Bool) (x : Reel) : (x.afterInternal heavy perfFault).policy = x.policy := by
  unfold Reel.afterInternal
  split <;> rfl

theorem Reel.afterInternal_cues (heavy perfFault : Bool) (x : Reel) : (x.afterInternal heavy perfFault).cues = x.cues := by
  unfold Reel.afterInternal
  split <;> rfl

theorem Reel.afterInternal_closeReason (heavy perfFault : Bool) (x : Reel) :
    (x.afterInternal heavy perfFault).closeReason = x.closeReason := by
  unfold Reel.afterInternal
  split <;> rfl

theorem Reel.afterGap_policy (heavy perfFault : Bool) (x : Reel) : (x.afterGap heavy perfFault).policy =
    ((x.deferred.takeWhile fun e => !e.ends).filterMap Deferred.newPolicy).getLastD x.policy := by
  refine (Reel.afterDeferred_policy _ _).trans ?_
  rw [Reel.afterInternal_deferred]
  exact congrArg _ (Reel.afterInternal_policy heavy perfFault x)

/-- An UNMOUNT-REEL END among the deferred orders drains the reel at the gap. -/
theorem Reel.afterGap_ends (hl : ∃ e ∈ x.deferred, e.ends = true) :
    (x.afterGap heavy perfFault).state = .draining ∧ (x.afterGap heavy perfFault).closeReason = some .unmount ∧
      (x.afterGap heavy perfFault).cues = [] ∧ (x.afterGap heavy perfFault).deferred = [] := by
  rw [← Reel.afterInternal_deferred heavy perfFault] at hl
  exact Reel.afterDeferred_ends hl _

/-- Without one the reel keeps its close reason and its cues, and is HELD exactly when a hold was due or deferred. -/
theorem Reel.afterGap_goes (hl : ∀ e ∈ x.deferred, e.ends = false) :
    (x.afterGap heavy perfFault).closeReason = x.closeReason ∧ (x.afterGap heavy perfFault).cues = x.cues ∧
      (x.afterGap heavy perfFault).deferred = [] ∧
      ((x.heavyDue heavy || x.perfDue perfFault) = true ∨ (∃ e ∈ x.deferred, e.holds = true) → x.Active →
        (x.afterGap heavy perfFault).state = .held) ∧
      (¬ ((x.heavyDue heavy || x.perfDue perfFault) = true ∨ ∃ e ∈ x.deferred, e.holds = true) ∨ ¬ x.Active →
        (x.afterGap heavy perfFault).state = x.state) := by
  have hi : ∀ e ∈ (x.afterInternal heavy perfFault).deferred, e.ends = false := by
    rwa [Reel.afterInternal_deferred]
  obtain ⟨h1, h2, h3, h4, h5⟩ := Reel.afterDeferred_goes hi { x.afterInternal heavy perfFault with deferred := [] }
  refine ⟨h1.trans (Reel.afterInternal_closeReason _ _ x), h2.trans (Reel.afterInternal_cues _ _ x), h3, fun hd hx => ?_, fun hd => ?_⟩
  · by_cases hdue : (x.heavyDue heavy || x.perfDue perfFault) = true
    · have held : (x.afterInternal heavy perfFault).state = .held := by
        unfold Reel.afterInternal
        rw [if_pos ⟨hx, hdue⟩]
      refine (h5 (.inr ?_)).trans held
      simp [Reel.Active, held]
    · have same : x.afterInternal heavy perfFault = x := if_neg fun h => hdue h.2
      rw [same] at h4
      refine Eq.trans (congrArg Reel.state ?_) (h4 (hd.resolve_left hdue) hx)
      unfold Reel.afterGap Reel.afterOrders
      rw [same]
  · have same : x.afterInternal heavy perfFault = x := if_neg fun h => by
      obtain hd | hd := hd
      · exact hd (.inl h.2)
      · exact hd h.1
    rw [same] at h5
    refine Eq.trans (congrArg Reel.state ?_) (h5 (hd.imp_left fun h e he => ?_))
    · unfold Reel.afterGap Reel.afterOrders
      rw [same]
    · exact Bool.eq_false_iff.2 fun ht => h (.inr ⟨e, he, ht⟩)

end

/-! ### REEL_HELD (R10) -/

section

variable {s : State} {r : Slot}

/-- On a reel that no hold takes effect on, the deferred orders raise no REEL_HELD. -/
theorem applyDeferred_keeps (hx : ¬ s.reels[r].Active) (l : List Deferred) :
    NoticeUnit.Keeps quietKinds s.notices (applyDeferred r l s).notices := by
  induction l generalizing s with
  | nil => exact .refl _ _
  | cons e l ih =>
    cases e with
    | holdReel g =>
      unfold applyDeferred
      rw [State.takeHold_none s r hx]
      exact ih hx
    | setPolicy g p => exact ih (s := s.applyPolicy r p) (by rw [State.applyPolicy, State.modReel_get_self]; exact hx)
    | unmountEnd g =>
      exact ((State.Eases.discardedNext (s.modReel r (Reel.drained .unmount)) r).trans (.closeIfEmpty _ r)).notices

theorem State.applyDeferredOrders_keeps (hx : ¬ s.reels[r].Active) :
    NoticeUnit.Keeps quietKinds s.notices (s.applyDeferredOrders r).notices :=
  applyDeferred_keeps (s := s.modReel r fun x => { x with deferred := [] }) (by rw [State.modReel_get_self]; exact hx) _

/-- A hold that takes effect raises REEL_HELD with its cause. -/
theorem State.takeHold_waits (hu : s.notices.InRange) (hx : s.reels[r].Active) (cause : Nat) :
    (s.takeHold r cause).Waits .reelHeld r.val (some s.reels[r].record) cause := by
  rw [State.takeHold_eq s r hx]
  have flowed := State.Aside.formFlow (s.modReel r fun x => { x with state := .held }) s.reels[r].head .halt
  exact (State.raise_waits (flowed.notices hu).1 r.isLt).keeps (State.raise_inRange (flowed.notices hu).1 r.isLt)
    (State.Eases.discardedNext _ r).notices (by decide)

theorem State.takeHold_inactive (hx : s.reels[r].Active) (cause : Nat) : ¬ (s.takeHold r cause).reels[r].Active := by
  have settled := (State.Turns.takeHold s r cause).settles.state
  have held : s.reels[r].afterHold.state = .held := (Reel.afterHold_state _).trans (if_pos hx)
  rw [held] at settled
  simp only [reduceCtorEq, false_and, or_false] at settled
  unfold Reel.Active
  rw [settled]
  decide

/-- A deferred hold that comes before the reel's end raises REEL_HELD with detail 0. -/
theorem applyDeferred_waits (hu : s.notices.InRange) (hx : s.reels[r].Active) {l : List Deferred}
    (hl : ∃ e ∈ l.takeWhile fun e => !e.ends, e.holds = true) :
    (applyDeferred r l s).Waits .reelHeld r.val (some s.reels[r].record) 0 := by
  induction l generalizing s with
  | nil => simp at hl
  | cons e l ih =>
    cases e with
    | holdReel g =>
      exact (State.takeHold_waits hu hx 0).keeps ((State.Turns.takeHold s r 0).gap.notices hu).1
        (applyDeferred_keeps (State.takeHold_inactive hx 0) l) (by decide)
    | setPolicy g p =>
      have entry : (s.applyPolicy r p).reels[r] = s.reels[r].withPolicy p := State.modReel_get_self s r _
      have later := ih (s := s.applyPolicy r p) hu (by rw [entry]; exact hx) (by simpa [Deferred.ends, Deferred.holds] using hl)
      rw [entry] at later
      exact later
    | unmountEnd g => simp [Deferred.ends] at hl

variable {heavy perfFault : Bool}

/-- An internal hold that is due is reported with its own cause. -/
theorem State.gapSteps_waits_due (hu : s.notices.InRange) (hx : s.reels[r].Active)
    (hd : (s.reels[r].heavyDue heavy || s.reels[r].perfDue perfFault) = true) :
    (s.gapSteps r heavy perfFault).Waits .reelHeld r.val (some s.reels[r].record)
      (if s.reels[r].heavyDue heavy then 1 else 2) := by
  have waits := State.takeHold_waits hu hx (if s.reels[r].heavyDue heavy then 1 else 2)
  have range := ((State.Turns.takeHold s r (if s.reels[r].heavyDue heavy then 1 else 2)).gap.notices hu).1
  have inactive := State.takeHold_inactive hx (if s.reels[r].heavyDue heavy then 1 else 2)
  unfold State.gapSteps
  rw [State.internalHolds_due hx hd]
  refine waits.keeps range (State.applyDeferredOrders_keeps (s := State.modReel _ r _) ?_) (by decide)
  rw [State.modReel_get_self]
  exact inactive

/-- Without one, a deferred hold that comes before the reel's end is reported with detail 0. -/
theorem State.gapSteps_waits_order (hu : s.notices.InRange) (hx : s.reels[r].Active)
    (hd : ¬ (s.reels[r].heavyDue heavy || s.reels[r].perfDue perfFault) = true)
    (hl : ∃ e ∈ s.reels[r].deferred.takeWhile fun e => !e.ends, e.holds = true) :
    (s.gapSteps r heavy perfFault).Waits .reelHeld r.val (some s.reels[r].record) 0 := by
  have entry := State.modReel_get_self s r fun x => { x with deferred := [] }
  have waits := applyDeferred_waits (s := s.modReel r fun x => { x with deferred := [] }) hu (by rw [entry]; exact hx) hl
  rw [entry] at waits
  unfold State.gapSteps
  rw [State.internalHolds_none fun h => hd h.2]
  exact waits

end

end Sys2Proof.Machine
end

section
/-! PROOFS. The end of a frame up to its gap: its missing lines, the counts, and the path it takes (R31, R42, R64, R68 to R71). -/

namespace Sys2Proof.Machine

/-! ### Missing lines (R29, R31, R64) -/

/-- A buffer record after a bad line is taken. -/
def Buffer.tookBad (x : Buffer) (l : Nat) : Buffer :=
  { x.addRuns [⟨l, 0, x.width⟩] x.width with received := enterLine l x.received, badLines := x.badLines + 1 }

/-- A buffer record after every missing line is taken as a bad line. -/
def Buffer.completed (x : Buffer) : Buffer := x.missing.foldl Buffer.tookBad x

/-- What a frame's lines leave of its buffer record. -/
def Buffer.unlined (x : Buffer) : Buffer :=
  { x with received := [], badLines := 0, runs := [], overflow := false, defective := 0 }

theorem mem_enterLine {k l : Nat} {ls : List Nat} : k ∈ enterLine l ls ↔ k = l ∨ k ∈ ls := by
  induction ls with
  | nil => simp [enterLine]
  | cons a ls ih =>
    unfold enterLine
    split
    · simp_all
    · split
      · simp_all
      · simp_all
        tauto

theorem foldl_tookBad_unlined (ls : List Nat) (x : Buffer) : (ls.foldl Buffer.tookBad x).unlined = x.unlined := by
  induction ls generalizing x with
  | nil => rfl
  | cons l ls ih => exact (ih _).trans rfl

theorem foldl_tookBad_badLines (ls : List Nat) (x : Buffer) : (ls.foldl Buffer.tookBad x).badLines = x.badLines + ls.length := by
  induction ls generalizing x with
  | nil => rfl
  | cons l ls ih =>
    refine (ih _).trans ?_
    simp only [Buffer.tookBad, List.length_cons]
    omega

theorem mem_foldl_tookBad_received {k : Nat} (ls : List Nat) (x : Buffer) :
    k ∈ (ls.foldl Buffer.tookBad x).received ↔ k ∈ ls ∨ k ∈ x.received := by
  induction ls generalizing x with
  | nil => simp
  | cons l ls ih =>
    refine (ih _).trans ?_
    rw [show (x.tookBad l).received = enterLine l x.received from rfl, mem_enterLine, List.mem_cons]
    tauto

theorem Buffer.completed_unlined (x : Buffer) : x.completed.unlined = x.unlined := foldl_tookBad_unlined _ _

theorem Buffer.completed_fixed (x : Buffer) : x.completed.slot = x.slot ∧ x.completed.frame = x.frame ∧
    x.completed.lines = x.lines ∧ x.completed.width = x.width ∧ x.completed.delivery = x.delivery ∧ x.completed.heavy = x.heavy := by
  have h := x.completed_unlined
  simp only [Buffer.unlined, Buffer.mk.injEq] at h
  tauto

theorem Buffer.completed_badLines (x : Buffer) : x.completed.badLines = x.badLines + x.missing.length :=
  foldl_tookBad_badLines _ _

theorem Buffer.completed_received (x : Buffer) {l : Nat} (hl : l < x.lines) : l ∈ x.completed.received := by
  rw [Buffer.completed, mem_foldl_tookBad_received]
  by_cases h : l ∈ x.received
  · exact .inr h
  · exact .inl (by simp [Buffer.missing, hl, h])

/-- The DRAM with other contents. -/
def State.setDram (s : State) (m : Vector Memory 32) : State := { s with pool := { s.pool with dram := m } }

theorem foldl_takeBadLine (b : Buf) (ls : List Nat) (s : State) :
    ∃ m, ls.foldl (fun s l => s.takeBadLine b l) s = (s.setDram m).modBuffer b fun x => ls.foldl Buffer.tookBad x := by
  induction ls generalizing s with
  | nil => exact ⟨s.pool.dram, (modBuffer_id rfl).symm⟩
  | cons l ls ih =>
    have line : ∃ m, s.takeBadLine b l = (s.setDram m).modBuffer b (Buffer.tookBad · l) := ⟨_, modBuffer_congr rfl⟩
    obtain ⟨m, hm⟩ := line
    obtain ⟨m', hm'⟩ := ih (s.takeBadLine b l)
    refine ⟨m', hm'.trans ?_⟩
    rw [hm]
    exact modBuffer_modBuffer (s.setDram m') b (Buffer.tookBad · l) fun x => ls.foldl Buffer.tookBad x

/-- The missing lines change the record of the frame's own buffer, and its region. -/
theorem State.takeMissing_eq (s : State) (b : Buf) : ∃ m, s.takeMissing b = (s.setDram m).modBuffer b Buffer.completed := by
  obtain ⟨m, hm⟩ := foldl_takeBadLine b s.pool.buffers[b].missing s
  exact ⟨m, hm.trans (modBuffer_congr rfl)⟩

/-! ### Steps 1 to 4 of R31 -/

/-- A reel once a frame of it is assembled in buffer `b`. -/
def Reel.assembled (b : Buf) (short : Bool) (x : Reel) : Reel :=
  { x with
    latest := some b
    counters := { x.counters with
      shortFrames := if short then x.counters.shortFrames + 1 else x.counters.shortFrames
      framesAssembled := x.counters.framesAssembled + 1 } }

/-- A reel once the perf-fault run of an assembled frame is known (R42). -/
def Reel.perfed (causes : List Cause) (x : Reel) : Reel :=
  if causes.isEmpty then { x with perfRun := 0 }
  else
    { x with perfRun := min 255 (x.perfRun + 1)
             counters := { x.counters with perfFaultFrames := x.counters.perfFaultFrames + 1 } }

/-- A reel once the frame end has counted its frame (R68). -/
def Reel.counted (y : Buffer) (heavy : Bool) (x : Reel) : Reel := { x with counters := countFrameEnd y heavy x.counters }

theorem State.assembleFrame_eq (s : State) (b : Buf) (r : Slot) : ∃ m, s.assembleFrame b r =
    ((s.setDram m).modBuffer b Buffer.completed).modReel r (Reel.assembled b (!s.pool.buffers[b].missing.isEmpty)) := by
  obtain ⟨m, hm⟩ := s.takeMissing_eq b
  refine ⟨m, ?_⟩
  unfold State.assembleFrame
  dsimp only
  rw [hm]
  rfl

theorem State.perfUpdate_reels (s : State) (r : Slot) (causes : List Cause) :
    (s.perfUpdate r causes).reels = modEntry s.reels r (Reel.perfed causes) := by
  unfold State.perfUpdate Reel.perfed
  split <;> rfl

theorem State.perfUpdate_work (s : State) (r : Slot) (causes : List Cause) : (s.perfUpdate r causes).work = s.work := by
  unfold State.perfUpdate
  split <;> rfl

theorem State.perfUpdate_links (s : State) (r : Slot) (causes : List Cause) : (s.perfUpdate r causes).links = s.links := by
  unfold State.perfUpdate
  split <;> rfl

theorem State.perfUpdate_defect (s : State) (r : Slot) (causes : List Cause) : (s.perfUpdate r causes).defect = s.defect := by
  unfold State.perfUpdate
  split <;> rfl

/-! ### The start of a send (R131) -/

/-- What the arbiter's search may do to what it does not send: the buffer it sends stood at the head of a lane queue. -/
structure State.Searches (s t : State) : Prop where
  reels : t.reels = s.reels
  intake : t.intake = s.intake
  repair : t.repair = s.repair
  lines : t.lines = s.lines
  notices : t.notices = s.notices
  buffers : ∀ k : Buf, t.pool.buffers[k] = s.pool.buffers[k] ∨
    t.pool.buffers[k] = { s.pool.buffers[k] with state := .sending } ∧ ∃ l : Lane, k ∈ s.delivery.queues[l]

theorem State.arbiterSearch_searches (s : State) : s.Searches s.arbiterSearch := by
  have none_ : s.Searches s := ⟨rfl, rfl, rfl, rfl, rfl, fun _ => .inl rfl⟩
  unfold State.arbiterSearch
  split
  · split
    · exact none_
    · rename_i l hl
      split
      · exact none_
      · rename_i b rest hq
        refine ⟨rfl, rfl, rfl, State.modPort_lines _ _ fun _ => ⟨rfl, rfl⟩, rfl, fun k => ?_⟩
        have entry : (s.startSend l b).pool.buffers[k] =
            if b = k then { s.pool.buffers[k] with state := .sending } else s.pool.buffers[k] := modEntry_get _ _ _ _
        rw [entry]
        split
        · rename_i hk
          exact .inr ⟨rfl, l, by rw [hq, hk]; exact List.mem_cons_self⟩
        · exact .inl rfl
  · exact none_

/-! ### The path of an assembled frame (R70, R71) -/

/-- A frame that enters its lane: what it does to the frames, and to the rest. -/
theorem State.joinLane_get (s : State) (b k : Buf) :
    (b ≠ k → (s.joinLane b).pool.buffers[k] = s.pool.buffers[k] ∨
      (s.joinLane b).pool.buffers[k] = { s.pool.buffers[k] with state := .sending } ∧ ∃ l : Lane, k ∈ s.delivery.queues[l]) ∧
    (b = k → ∃ x l, x ∈ [BufferState.queued, .sending] ∧
      (s.joinLane b).pool.buffers[k] = { s.pool.buffers[k] with state := x, lane := some l }) := by
  set l := s.delivery.laneMap[laneIndex s.pool.buffers[b].frame s.pool.buffers[b].slot] with hl
  set u := (s.modBuffer b fun x => { x with state := .queued, lane := some l }).modQueue l fun q => q ++ [b]
  have entry : u.pool.buffers[k] = if b = k then { s.pool.buffers[k] with state := .queued, lane := some l } else s.pool.buffers[k] :=
    modEntry_get _ _ _ _
  have searched := (State.arbiterSearch_searches u).buffers k
  rw [entry] at searched
  constructor
  · intro hk
    rw [if_neg hk] at searched
    refine searched.imp_right fun hs => ⟨hs.1, ?_⟩
    obtain ⟨-, i, hi⟩ := hs
    have queue : u.delivery.queues[i] = if l = i then s.delivery.queues[i] ++ [b] else s.delivery.queues[i] := modEntry_get _ _ _ _
    rw [queue] at hi
    split at hi
    · obtain hi | hi := List.mem_append.1 hi
      · exact ⟨i, hi⟩
      · exact absurd (List.mem_singleton.1 hi).symm hk
    · exact ⟨i, hi⟩
  · intro hk
    rw [if_pos hk] at searched
    obtain hs | ⟨hs, -⟩ := searched
    · exact ⟨.queued, l, by simp, hs⟩
    · exact ⟨.sending, l, by simp, hs⟩

theorem State.joinLane_searches (s : State) (b : Buf) :
    (s.joinLane b).reels = s.reels ∧ (s.joinLane b).intake = s.intake ∧ (s.joinLane b).repair = s.repair ∧
      (s.joinLane b).lines = s.lines ∧ (s.joinLane b).notices = s.notices := by
  have h := State.arbiterSearch_searches ((s.modBuffer b fun x =>
    { x with state := .queued, lane := some s.delivery.laneMap[laneIndex s.pool.buffers[b].frame s.pool.buffers[b].slot] }).modQueue
      s.delivery.laneMap[laneIndex s.pool.buffers[b].frame s.pool.buffers[b].slot] fun q => q ++ [b])
  exact ⟨h.reels, h.intake, h.repair, h.lines, h.notices⟩

/-- The record of a frame whose path is decided: heavy, on its way to its lane; or PENDING (R70, R71). -/
structure Buffer.Paths (heavy : Bool) (x y : Buffer) : Prop where
  /-- What the lines gave the record stays. -/
  lined : y.received = x.received ∧ y.badLines = x.badLines ∧ y.overflow = x.overflow ∧ y.defective = x.defective
  fixed : y.slot = x.slot ∧ y.frame = x.frame ∧ y.lines = x.lines ∧ y.width = x.width ∧ y.delivery = x.delivery
  flag : y.heavy = (heavy || x.heavy)
  state : if heavy then y.state ∈ [.queued, .sending] else y.state = .pending
  hold : y.successorHold = if heavy then !x.overflow else true

/-- The path of an assembled frame, up to what it does for the frame before it. -/
def State.takePath (s : State) (b : Buf) (r : Slot) (heavy : Bool) : State := if heavy then s.heavyPath b r else s.becomePending b

theorem State.heavyPath_eq (s : State) (b : Buf) (r : Slot) : s.heavyPath b r =
    ((s.modBuffer b fun x => { x with heavy := true, successorHold := !x.overflow }).joinLane b).raise .heavyFrame r.val
      (some ((s.modBuffer b fun x => { x with heavy := true, successorHold := !x.overflow }).joinLane b).reels[r].record)
      s.pool.buffers[b].frame := rfl

theorem State.takePath_self (s : State) (b : Buf) (r : Slot) (heavy : Bool) :
    s.pool.buffers[b].Paths heavy (s.takePath b r heavy).pool.buffers[b] := by
  cases heavy with
  | false =>
    have entry : (s.takePath b r false).pool.buffers[b] =
        { s.pool.buffers[b] with state := .pending, successorHold := true, repairTimer := some s.repair.wait } :=
      (modBuffer_get s b b _).trans (if_pos rfl)
    rw [entry]
    exact ⟨⟨rfl, rfl, rfl, rfl⟩, ⟨rfl, rfl, rfl, rfl, rfl⟩, rfl, rfl, rfl⟩
  | true =>
    obtain ⟨x, l, hx, entry⟩ :=
      ((s.modBuffer b fun x => { x with heavy := true, successorHold := !x.overflow }).joinLane_get b b).2 rfl
    rw [modBuffer_get, if_pos rfl] at entry
    have final : (s.takePath b r true).pool.buffers[b] = _ := entry
    rw [final]
    exact ⟨⟨rfl, rfl, rfl, rfl⟩, ⟨rfl, rfl, rfl, rfl, rfl⟩, rfl, hx, rfl⟩

/-- The path of a frame leaves the record of every other buffer, but for one that stood in a lane queue and is now sent. -/
theorem State.takePath_other (s : State) {b k : Buf} (r : Slot) (heavy : Bool) (hk : b ≠ k) :
    (s.takePath b r heavy).pool.buffers[k] = s.pool.buffers[k] ∨
      (s.takePath b r heavy).pool.buffers[k] = { s.pool.buffers[k] with state := .sending } ∧
        ∃ l : Lane, k ∈ s.delivery.queues[l] := by
  cases heavy with
  | false => exact .inl ((modBuffer_get s b k _).trans (if_neg hk))
  | true =>
    have joined := ((s.modBuffer b fun x => { x with heavy := true, successorHold := !x.overflow }).joinLane_get b k).1 hk
    rw [modBuffer_get, if_neg hk] at joined
    exact joined

theorem State.takePath_reels (s : State) (b : Buf) (r : Slot) (heavy : Bool) : (s.takePath b r heavy).reels = s.reels := by
  cases heavy with
  | false => rfl
  | true => exact (State.joinLane_searches _ b).1

theorem State.takePath_intake (s : State) (b : Buf) (r : Slot) (heavy : Bool) : (s.takePath b r heavy).intake = s.intake := by
  cases heavy with
  | false => rfl
  | true => exact (State.joinLane_searches _ b).2.1

theorem State.takePath_lines (s : State) (b : Buf) (r : Slot) (heavy : Bool) : (s.takePath b r heavy).lines = s.lines := by
  cases heavy with
  | false => rfl
  | true => exact (State.joinLane_searches _ b).2.2.2.1

/-- A heavy frame raises HEAVY_FRAME with its number; another raises nothing (R70). -/
theorem State.takePath_notices (s : State) (b : Buf) (r : Slot) (heavy : Bool) : (s.takePath b r heavy).notices =
    if heavy then (s.raise .heavyFrame r.val (some s.reels[r].record) s.pool.buffers[b].frame).notices else s.notices := by
  cases heavy with
  | false => rfl
  | true =>
    obtain ⟨hr, -, -, -, hn⟩ := (s.modBuffer b fun x => { x with heavy := true, successorHold := !x.overflow }).joinLane_searches b
    rw [State.takePath, if_pos rfl, State.heavyPath_eq, hr]
    simp only [State.raise, hn]
    rfl

end Sys2Proof.Machine
end

section
/-! PROOFS. A frame in hand closed at a frame gap: its end, what the end does for the frame before it, and the gap (R16, R31,
R72). -/

namespace Sys2Proof.Machine

/-! ### What a frame's end does for the frame before it (R72) -/

section

variable (s : State) {b p k : Buf} {heavy : Bool}

/-- The predecessor's repair, requested when it is PENDING. -/
def State.askPredecessor (s : State) (b p : Buf) : State :=
  if s.pool.buffers[p].state = .pending then s.requestRepair p (if s.pool.buffers[b].overflow then none else some b) else s

theorem State.predecessorAtEnd_eq (b p : Buf) (heavy : Bool) : s.predecessorAtEnd b p heavy =
    if heavy then (s.askPredecessor b p).clearSuccessor p else s.askPredecessor b p := rfl

theorem State.Eases.askPredecessor (b p : Buf) : s.Eases (s.askPredecessor b p) := by
  unfold State.askPredecessor
  split <;> [exact requestRepair s ‹_› _; exact refl s]

theorem State.Eases.predecessorAtEnd (b p : Buf) (heavy : Bool) : s.Eases (s.predecessorAtEnd b p heavy) := by
  rw [State.predecessorAtEnd_eq]
  split <;> [exact (askPredecessor s b p).trans (clearSuccessor _ p); exact askPredecessor s b p]

theorem State.prevOf_frame {r : Slot} {n : Nat} (h : s.prevOf r n = some k) : s.pool.buffers[k].frame + 1 = n := by
  have hk := (firstEntry_some h).1
  simp only [Bool.and_eq_true, decide_eq_true_eq] at hk
  exact hk.1.2.2

/-- A request for a frame leaves the successor hold of every frame that does not come right before it. -/
theorem State.askPredecessor_successorHold (hk : s.pool.buffers[k].frame + 1 ≠ s.pool.buffers[p].frame) :
    (s.askPredecessor b p).pool.buffers[k].successorHold = s.pool.buffers[k].successorHold := by
  unfold State.askPredecessor
  split
  · rw [State.requestRepair_successorHold, if_neg fun h => hk (s.prevOf_frame h)]
  · rfl

theorem State.askPredecessor_state (hk : p ≠ k) : (s.askPredecessor b p).pool.buffers[k].state = s.pool.buffers[k].state := by
  unfold State.askPredecessor
  split
  · rw [State.requestRepair_state, if_neg hk]
  · rfl

/-- The frame that ends keeps its state and its successor hold. -/
theorem State.predecessorAtEnd_self (hf : s.pool.buffers[p].frame + 1 = s.pool.buffers[b].frame) :
    (s.predecessorAtEnd b p heavy).pool.buffers[b].state = s.pool.buffers[b].state ∧
      (s.predecessorAtEnd b p heavy).pool.buffers[b].successorHold = s.pool.buffers[b].successorHold := by
  have hne : p ≠ b := fun h => by rw [h] at hf; omega
  have asked : (s.askPredecessor b p).pool.buffers[b].state = s.pool.buffers[b].state ∧
      (s.askPredecessor b p).pool.buffers[b].successorHold = s.pool.buffers[b].successorHold :=
    ⟨s.askPredecessor_state hne, s.askPredecessor_successorHold (by omega)⟩
  rw [State.predecessorAtEnd_eq]
  split
  · rw [State.clearSuccessor_get, if_neg hne]
    exact asked
  · exact asked

/-- The predecessor of a heavy frame loses its successor hold, and that of another frame keeps it. -/
theorem State.predecessorAtEnd_hold :
    (s.predecessorAtEnd b p true).pool.buffers[p].successorHold = false ∧
      (s.predecessorAtEnd b p false).pool.buffers[p].successorHold = s.pool.buffers[p].successorHold := by
  constructor
  · rw [State.predecessorAtEnd_eq, if_pos rfl, State.clearSuccessor_get, if_pos rfl]
    exact Buffer.unheld_successorHold _
  · exact s.askPredecessor_successorHold (by omega)

/-- A PENDING predecessor's repair is requested, with the frame that ends as next unless its run list overflowed. -/
theorem State.predecessorAtEnd_requested (hp : s.pool.buffers[p].state = .pending) (hd : s.pool.buffers[p].delivery ≠ .resolved) :
    (s.predecessorAtEnd b p heavy).pool.buffers[p].state = .repair ∧
      (s.predecessorAtEnd b p heavy).pool.buffers[p].delivery ≠ .resolved ∧
      ∃ q, (s.predecessorAtEnd b p heavy).Requested q ∧ q.buf = p ∧
        q.next = if s.pool.buffers[b].overflow then none else some b := by
  set next := if s.pool.buffers[b].overflow then none else some b
  have asked : s.askPredecessor b p = s.requestRepair p next := if_pos hp
  have state : (s.requestRepair p next).pool.buffers[p].state = .repair := by rw [State.requestRepair_state, if_pos rfl]
  have delivery : (s.requestRepair p next).pool.buffers[p].delivery ≠ .resolved := by
    rwa [((State.Eases.requestRepair s hp next).buffers p).delivery_eq hd]
  have after : (s.requestRepair p next).Eases (s.predecessorAtEnd b p heavy) := by
    rw [State.predecessorAtEnd_eq, asked]
    split <;> [exact .clearSuccessor _ p; exact .refl _]
  have he := after.buffers p
  exact ⟨(he.state_eq delivery (by rw [state]; decide)).trans state, by rwa [he.delivery_eq delivery], _,
    after.requests _ (State.requestRepair_requested s p next), rfl, rfl⟩

/-- After it, a PENDING frame was so before and is not the predecessor. -/
theorem State.predecessorAtEnd_pending (hk : (s.predecessorAtEnd b p heavy).pool.buffers[k].state = .pending) :
    s.pool.buffers[k].state = .pending ∧ p ≠ k := by
  have before : ∀ {x y : Buffer}, x.Eases y → y.state = .pending → x.state = .pending := by
    intro x y h hy
    obtain hs | ⟨-, hs⟩ | ⟨-, hs⟩ := h.state
    · rw [← hs, hy]
    · rw [hy] at hs
      cases hs
    · rw [hy] at hs
      exact absurd hs (by decide)
  refine ⟨before ((State.Eases.predecessorAtEnd s b p heavy).buffers k) hk, fun h => ?_⟩
  subst h
  have asked : (s.askPredecessor b p).pool.buffers[p].state = .pending := by
    rw [State.predecessorAtEnd_eq] at hk
    split at hk
    · exact before ((State.Eases.clearSuccessor _ p).buffers p) hk
    · exact hk
  unfold State.askPredecessor at asked
  split at asked
  · rw [State.requestRepair_state, if_pos rfl] at asked
    cases asked
  · contradiction

end

/-! ### The frame's end, its path taken -/

/-- A reel after steps 1 to 5 of R31 for the frame in `b`, whose record is then `y`. -/
def Reel.frameEnded (b : Buf) (short : Bool) (causes : List Cause) (y : Buffer) (heavy : Bool) (x : Reel) : Reel :=
  ((x.assembled b short).perfed causes).counted y heavy

/-- Whether the frame in `b` is heavy when its missing lines are taken (R69). -/
def State.endsHeavy (s : State) (b : Buf) : Bool := heavyDecision s.defect s.pool.buffers[b].completed

/-- The end of the frame in `b` up to its path (R31 steps 1 to 5, R68 to R71). -/
def State.endPath (s : State) (b : Buf) (d : FrameDesc) : State :=
  (((s.assembleFrame b d.slot).perfUpdate d.slot d.causes).countReel d.slot
    (countFrameEnd s.pool.buffers[b].completed (s.endsHeavy b))).takePath b d.slot (s.endsHeavy b)

/-- The end of the frame in `b`, with what it does for the frame before it. -/
def State.endFrame (s : State) (b : Buf) (d : FrameDesc) : State :=
  match s.predecessor d.slot b with
  | some p => (s.endPath b d).predecessorAtEnd b p (s.endsHeavy b)
  | none => s.endPath b d

section

variable (s : State) (h : Head) (b : Buf) (d : FrameDesc)

theorem State.perfUpdate_record : ((s.assembleFrame b d.slot).perfUpdate d.slot d.causes).pool.buffers[b] =
    s.pool.buffers[b].completed := by
  rw [State.work_buffers (State.perfUpdate_work _ _ _)]
  obtain ⟨m, hm⟩ := s.assembleFrame_eq b d.slot
  rw [hm]
  exact (modBuffer_get _ b b _).trans (if_pos rfl)

theorem State.perfUpdate_limits : ((s.assembleFrame b d.slot).perfUpdate d.slot d.causes).defect = s.defect := by
  rw [State.perfUpdate_defect]
  obtain ⟨m, hm⟩ := s.assembleFrame_eq b d.slot
  rw [hm]
  rfl

theorem State.closeFrame_eq : s.closeFrame h b d =
    ((s.endFrame b d).modHead h fun x => { x with assembly := .idle }).gapSteps d.slot (s.endsHeavy b) (!d.causes.isEmpty) := by
  have heavy : heavyDecision ((s.assembleFrame b d.slot).perfUpdate d.slot d.causes).defect
      ((s.assembleFrame b d.slot).perfUpdate d.slot d.causes).pool.buffers[b] = s.endsHeavy b := by
    rw [State.perfUpdate_record, State.perfUpdate_limits]
    rfl
  unfold State.closeFrame State.gapSteps State.endFrame State.endPath State.defectEnd
  dsimp only
  rw [heavy, State.perfUpdate_record]
  rfl

theorem State.endPath_reels : (s.endPath b d).reels = modEntry s.reels d.slot
    (Reel.frameEnded b (!s.pool.buffers[b].missing.isEmpty) d.causes s.pool.buffers[b].completed (s.endsHeavy b)) := by
  obtain ⟨m, hm⟩ := s.assembleFrame_eq b d.slot
  unfold State.endPath
  rw [State.takePath_reels, State.countReel_reels, State.perfUpdate_reels, hm, State.modReel_reels, modEntry_modEntry,
    modEntry_modEntry]
  rfl

theorem State.endPath_intake : (s.endPath b d).intake = s.intake := by
  obtain ⟨m, hm⟩ := s.assembleFrame_eq b d.slot
  unfold State.endPath
  rw [State.takePath_intake, State.countReel_intake, (State.work_eq_iff.1 (State.perfUpdate_work _ _ _)).1, hm]
  rfl

theorem State.endPath_lines : (s.endPath b d).lines = s.lines := by
  obtain ⟨m, hm⟩ := s.assembleFrame_eq b d.slot
  unfold State.endPath
  rw [State.takePath_lines]
  have links : (((s.assembleFrame b d.slot).perfUpdate d.slot d.causes).countReel d.slot
      (countFrameEnd s.pool.buffers[b].completed (s.endsHeavy b))).links = s.links := by
    rw [State.countReel_links, State.perfUpdate_links, hm]
    rfl
  unfold State.lines
  rw [links]

theorem State.endPath_self : s.pool.buffers[b].completed.Paths (s.endsHeavy b) (s.endPath b d).pool.buffers[b] := by
  have path := State.takePath_self (((s.assembleFrame b d.slot).perfUpdate d.slot d.causes).countReel d.slot
    (countFrameEnd s.pool.buffers[b].completed (s.endsHeavy b))) b d.slot (s.endsHeavy b)
  rwa [State.countReel_pool, State.perfUpdate_record] at path

theorem State.endPath_other {k : Buf} (hk : b ≠ k) : (s.endPath b d).pool.buffers[k] = s.pool.buffers[k] ∨
    (s.endPath b d).pool.buffers[k] = { s.pool.buffers[k] with state := .sending } ∧ ∃ l : Lane, k ∈ s.delivery.queues[l] := by
  have path := State.takePath_other (((s.assembleFrame b d.slot).perfUpdate d.slot d.causes).countReel d.slot
    (countFrameEnd s.pool.buffers[b].completed (s.endsHeavy b))) d.slot (s.endsHeavy b) hk
  obtain ⟨-, hbuf, -, hdel, -⟩ := State.work_eq_iff.1 (State.perfUpdate_work (s.assembleFrame b d.slot) d.slot d.causes)
  obtain ⟨m, hm⟩ := s.assembleFrame_eq b d.slot
  have same : (s.assembleFrame b d.slot).pool.buffers[k] = s.pool.buffers[k] := by
    rw [hm]
    exact (modBuffer_get _ b k _).trans (if_neg hk)
  have queues : (s.assembleFrame b d.slot).delivery = s.delivery := by rw [hm]; rfl
  rwa [State.countReel_pool, State.countReel_delivery, hbuf, hdel, same, queues] at path

theorem State.raise_notices_congr {s t : State} (h : t.notices = s.notices) (k : NoticeKind) (i : Nat) (c : Option RecordNo) (n : Nat) :
    (t.raise k i c n).notices = (s.raise k i c n).notices := by
  simp only [State.raise, h]

theorem State.perfUpdate_notices (r : Slot) (causes : List Cause) : (s.perfUpdate r causes).notices =
    if causes.isEmpty then s.notices
    else (s.raise .perfFault r.val (some s.reels[r].record) (lowestCause causes)).notices := by
  unfold State.perfUpdate
  split
  · rfl
  · dsimp only
    rw [State.modReel_get_self]
    rfl

/-- The notices of a frame's end before its path: PERF_FAULT with the lowest cause (R42). -/
def State.perfNotices (s : State) (d : FrameDesc) : State :=
  if d.causes.isEmpty then s else s.raise .perfFault d.slot.val (some s.reels[d.slot].record) (lowestCause d.causes)

theorem State.endPath_notices_eq : (s.endPath b d).notices =
    if s.endsHeavy b then
      ((s.perfNotices d).raise .heavyFrame d.slot.val (some s.reels[d.slot].record) s.pool.buffers[b].frame).notices
    else (s.perfNotices d).notices := by
  set u := ((s.assembleFrame b d.slot).perfUpdate d.slot d.causes).countReel d.slot
    (countFrameEnd s.pool.buffers[b].completed (s.endsHeavy b)) with hu
  obtain ⟨m, hm⟩ := s.assembleFrame_eq b d.slot
  have record : (s.assembleFrame b d.slot).reels[d.slot].record = s.reels[d.slot].record := by
    rw [hm, State.modReel_get_self]
    rfl
  have notices : u.notices = (s.perfNotices d).notices := by
    rw [hu, State.countReel_notices, State.perfUpdate_notices, record]
    unfold State.perfNotices
    split
    · rw [hm]
      rfl
    · exact State.raise_notices_congr (by rw [hm]; rfl) _ _ _ _
  have last : u.reels[d.slot].record = s.reels[d.slot].record := by
    rw [hu, State.countReel_reels, modEntry_get, if_pos rfl, State.perfUpdate_reels, modEntry_get, if_pos rfl]
    refine Eq.trans ?_ record
    unfold Reel.perfed
    split <;> rfl
  have frame : u.pool.buffers[b].frame = s.pool.buffers[b].frame := by
    rw [hu, State.countReel_pool, State.perfUpdate_record]
    exact s.pool.buffers[b].completed_fixed.2.1
  unfold State.endPath
  rw [← hu, State.takePath_notices, last, frame, State.raise_notices_congr notices, notices]

/-- The notices of a frame's end: PERF_FAULT with the lowest cause, and HEAVY_FRAME with the frame number (R42, R70). -/
theorem State.endPath_notices (hu : s.notices.InRange) :
    NoticeUnit.Keeps [.perfFault, .heavyFrame] s.notices (s.endPath b d).notices ∧
    (d.causes ≠ [] → (s.endPath b d).Waits .perfFault d.slot.val (some s.reels[d.slot].record) (lowestCause d.causes)) ∧
    (s.endsHeavy b = true →
      (s.endPath b d).Waits .heavyFrame d.slot.val (some s.reels[d.slot].record) s.pool.buffers[b].frame) := by
  have perf : NoticeUnit.Keeps [.perfFault, .heavyFrame] s.notices (s.perfNotices d).notices := by
    unfold State.perfNotices
    split <;> [exact .refl _ _; exact s.raise_keeps (by decide) d.slot.isLt _ _]
  have fault : d.causes ≠ [] →
      (s.perfNotices d).Waits .perfFault d.slot.val (some s.reels[d.slot].record) (lowestCause d.causes) := by
    intro hc
    unfold State.perfNotices
    rw [if_neg (by simpa using hc)]
    exact State.raise_waits hu d.slot.isLt
  have range := (perf hu).1
  have heavy := (s.perfNotices d).raise_keeps (raised := [.heavyFrame]) (k := .heavyFrame) (by decide) d.slot.isLt
    (some s.reels[d.slot].record) s.pool.buffers[b].frame
  have waits : ∀ {k i c n}, (s.endPath b d).Waits k i c n ↔ ∃ x ∈ (s.endPath b d).notices.waiting,
      x.kind = k ∧ x.inst = i ∧ x.record = c ∧ x.detail = n := Iff.rfl
  simp only [waits]
  rw [State.endPath_notices_eq]
  split
  · exact ⟨perf.trans (heavy.mono (by decide)), fun hc => (fault hc).keeps range heavy (by decide),
      fun _ => State.raise_waits range d.slot.isLt⟩
  · rename_i hh
    exact ⟨perf, fault, fun h => absurd h hh⟩

end

end Sys2Proof.Machine
end

section
/-! PROOFS. The state after a frame in hand is closed at a frame gap: its record, its reel, the frames and the notices (R16, R31). -/

namespace Sys2Proof.Machine

theorem State.handOver_work (s : State) : s.handOver.work = s.work := by
  unfold State.handOver
  split
  · split <;> rfl
  · rfl

theorem State.handOver_reels (s : State) : s.handOver.reels = s.reels := by
  unfold State.handOver
  split
  · split <;> rfl
  · rfl

theorem State.handOver_lines (s : State) : s.handOver.lines = s.lines := by
  unfold State.handOver
  split
  · split
    · rfl
    · exact State.modPort_lines s _ fun _ => ⟨rfl, rfl⟩
  · rfl

theorem State.handOver_intake (s : State) : s.handOver.intake = s.intake := (State.work_eq_iff.1 s.handOver_work).1
theorem State.handOver_buffers (s : State) : s.handOver.pool.buffers = s.pool.buffers := State.work_buffers s.handOver_work
theorem State.handOver_repair (s : State) : s.handOver.repair = s.repair := (State.work_eq_iff.1 s.handOver_work).2.2.1
theorem State.handOver_wire (s : State) : s.handOver.wire = s.wire := (State.work_eq_iff.1 s.handOver_work).2.2.2.2

theorem State.handOver_settings (s : State) : s.handOver.settings = s.settings := congrArg Standing.settings s.handOver_standing

/-- The heavy decision, in the words of R69. -/
theorem heavyDecision_iff {d : DefectLimits} {y : Buffer} : heavyDecision d y = true ↔
    d.heavyLimit * y.lines * y.width < y.defective * 1000 ∨ d.badLineLimit < y.badLines ∨ y.overflow = true := by
  simp only [heavyDecision, Bool.or_eq_true, decide_eq_true_eq, or_assoc]

/-- The same change of a head on both sides. -/
theorem State.Eases.modHead {s t : State} (e : s.Eases t) (h : Head) (f : HeadIntake → HeadIntake) :
    (s.modHead h f).Eases (t.modHead h f) :=
  { e with
    intake := by simp only [State.modHead_intake, e.intake]
    lines := e.lines
    latest := e.latest }

section

variable (s : State) (h : Head) (b : Buf) (d : FrameDesc)

/-- The state at the gap, before what the frame's end does for the frame before it. -/
def State.pathEnded : State := (s.endPath b d).modHead h fun x => { x with assembly := .idle }

/-- The state at the gap, before its holds and deferred orders. -/
def State.atGap : State := (s.endFrame b d).modHead h fun x => { x with assembly := .idle }

theorem State.closeFrame_atGap : s.closeFrame h b d = (s.atGap h b d).gapSteps d.slot (s.endsHeavy b) (!d.causes.isEmpty) :=
  State.closeFrame_eq s h b d

theorem State.pathEnded_eases : (s.pathEnded h b d).Eases (s.atGap h b d) := by
  refine State.Eases.modHead ?_ h _
  unfold State.endFrame
  split <;> [exact .predecessorAtEnd _ b _ _; exact .refl _]

theorem State.closeFrame_turns :
    (s.pathEnded h b d).Turns d.slot (Reel.afterGap (s.endsHeavy b) (!d.causes.isEmpty)) (s.closeFrame h b d) := by
  rw [State.closeFrame_atGap]
  exact ((State.pathEnded_eases s h b d).turns d.slot).trans (.gapSteps _ _ _ _) (fun _ => rfl) fun x y hs =>
    Reel.afterOrders_settles _ _ (Reel.afterInternal_settles _ _ x y hs)

/-- The reel as the frame's end leaves it, before the gap. -/
def State.reelEnded : Reel := s.reels[d.slot].frameEnded b (!s.pool.buffers[b].missing.isEmpty) d.causes
  s.pool.buffers[b].completed (s.endsHeavy b)

theorem State.pathEnded_reel : (s.pathEnded h b d).reels[d.slot] = s.reelEnded b d := by
  refine (congrArg (fun v : Vector Reel 8 => v[d.slot]) (State.endPath_reels s b d)).trans ?_
  exact (modEntry_get _ _ _ _).trans (if_pos rfl)

theorem State.pathEnded_other {k : Slot} (hk : d.slot ≠ k) : (s.pathEnded h b d).reels[k] = s.reels[k] := by
  refine (congrArg (fun v : Vector Reel 8 => v[k]) (State.endPath_reels s b d)).trans ?_
  exact (modEntry_get _ _ _ _).trans (if_neg hk)

theorem State.closeFrame_intake : (s.closeFrame h b d).intake = (s.modHead h fun x => { x with assembly := .idle }).intake := by
  rw [(State.closeFrame_turns s h b d).gap.intake]
  unfold State.pathEnded
  simp only [State.modHead_intake, State.endPath_intake]

theorem State.closeFrame_idle : (s.closeFrame h b d).intake.heads[h].assembly = .idle := by
  rw [State.closeFrame_intake, State.modHead_intake]
  exact congrArg HeadIntake.assembly ((modEntry_get _ _ _ _).trans (if_pos rfl))

theorem State.closeFrame_lines : (s.closeFrame h b d).lines = s.lines :=
  (State.closeFrame_turns s h b d).gap.lines.trans (State.endPath_lines s b d)

/-! ### The reel -/

theorem Reel.frameEnded_state (x : Reel) (b : Buf) (short : Bool) (causes : List Cause) (y : Buffer) (heavy : Bool) :
    (x.frameEnded b short causes y heavy).state = x.state := by
  unfold Reel.frameEnded Reel.perfed
  split <;> rfl

/-- What a frame's end leaves of a reel's record. -/
theorem Reel.frameEnded_eq (x : Reel) (b : Buf) (short : Bool) (causes : List Cause) (y : Buffer) (heavy : Bool) :
    x.frameEnded b short causes y heavy = { x with
      latest := some b
      perfRun := if causes = [] then 0 else min 255 (x.perfRun + 1)
      counters := (x.frameEnded b short causes y heavy).counters } := by
  cases causes <;> rfl

theorem State.reelEnded_eq : s.reelEnded b d = { s.reels[d.slot] with
    latest := some b
    perfRun := if d.causes = [] then 0 else min 255 (s.reels[d.slot].perfRun + 1)
    counters := (s.reelEnded b d).counters } := Reel.frameEnded_eq _ _ _ _ _ _

theorem Reel.frameEnded_counters (x : Reel) (b : Buf) (short : Bool) (causes : List Cause) (y : Buffer) (heavy : Bool) :
    let c := (x.frameEnded b short causes y heavy).counters
    c.framesAssembled = x.counters.framesAssembled + 1 ∧
    c.shortFrames = (if short then x.counters.shortFrames + 1 else x.counters.shortFrames) ∧
    c.samplesScanned = x.counters.samplesScanned + BitVec.ofNat 64 (y.lines * y.width) ∧
    c.heavyFrames = (if heavy then x.counters.heavyFrames + 1 else x.counters.heavyFrames) ∧
    c.perfFaultFrames = if causes = [] then x.counters.perfFaultFrames else x.counters.perfFaultFrames + 1 := by
  cases causes <;> exact ⟨rfl, rfl, rfl, rfl, rfl⟩

theorem State.closeFrame_counters : (s.closeFrame h b d).reels[d.slot].counters = (s.reelEnded b d).counters := by
  have settled := (State.closeFrame_turns s h b d).settles.kept
  rw [State.pathEnded_reel] at settled
  have counters : (s.closeFrame h b d).reels[d.slot].counters =
      ((s.reelEnded b d).afterGap (s.endsHeavy b) (!d.causes.isEmpty)).counters :=
    (congrArg Reel.counters settled : (s.closeFrame h b d).reels[d.slot].kept.counters = _)
  rw [counters]
  have lasting := Reel.afterGap_lasting (s.endsHeavy b) (!d.causes.isEmpty) (s.reelEnded b d)
  exact (congrArg Reel.counters lasting : (Reel.lasting _).counters = _)

/-! ### The frame's own record -/

variable {s h b d}

/-- The record of the closed frame: complete, with its path taken. -/
structure State.ClosedRecord (s : State) (b : Buf) (y : Buffer) : Prop where
  received : ∀ l, l < s.pool.buffers[b].lines → l ∈ y.received
  badLines : y.badLines = s.pool.buffers[b].badLines + s.pool.buffers[b].missing.length
  fixed : y.slot = s.pool.buffers[b].slot ∧ y.frame = s.pool.buffers[b].frame ∧ y.lines = s.pool.buffers[b].lines ∧
    y.width = s.pool.buffers[b].width ∧ y.delivery = s.pool.buffers[b].delivery
  flag : y.heavy = (s.endsHeavy b || s.pool.buffers[b].heavy)
  decision : heavyDecision s.defect y = s.endsHeavy b
  state : if s.endsHeavy b then y.state ∈ [.queued, .sending] else y.state ∈ [.pending, .repair]

theorem State.pathEnded_record (s : State) (h : Head) (b : Buf) (d : FrameDesc) :
    s.ClosedRecord b (s.pathEnded h b d).pool.buffers[b] := by
  have path : s.pool.buffers[b].completed.Paths (s.endsHeavy b) (s.pathEnded h b d).pool.buffers[b] := State.endPath_self s b d
  obtain ⟨hrec, hbad, hover, hdef⟩ := path.lined
  obtain ⟨hslot, hframe, hlines, hwidth, hdel⟩ := path.fixed
  obtain ⟨cslot, cframe, clines, cwidth, cdel, cheavy⟩ := s.pool.buffers[b].completed_fixed
  refine ⟨fun l hl => ?_, ?_, ⟨hslot.trans cslot, hframe.trans cframe, hlines.trans clines, hwidth.trans cwidth, hdel.trans cdel⟩,
    ?_, ?_, ?_⟩
  · rw [hrec]
    exact Buffer.completed_received _ hl
  · rw [hbad]
    exact Buffer.completed_badLines _
  · rw [path.flag, cheavy]
  · simp only [heavyDecision, hlines, hwidth, hdef, hbad, hover, State.endsHeavy]
  · have state := path.state
    split <;> simp_all

theorem State.ClosedRecord.eases {x y : Buffer} (hx : s.ClosedRecord b x) (he : x.Eases y)
    (hd : s.pool.buffers[b].delivery ≠ .resolved) : s.ClosedRecord b y := by
  obtain ⟨xslot, xframe, xlines, xwidth, xdel⟩ := hx.fixed
  have frame := he.frame
  simp only [Buffer.released, Buffer.mk.injEq] at frame
  obtain ⟨-, hslot, -, hframe, hlines, hwidth, hrec, hbad, -, hover, hdef, -, -, -, -, hheavy, -⟩ := frame
  have hdx : x.delivery ≠ .resolved := by rwa [xdel]
  refine ⟨hrec ▸ hx.received, hbad.trans hx.badLines,
    ⟨hslot.trans xslot, hframe.trans xframe, hlines.trans xlines, hwidth.trans xwidth, (he.delivery_eq hdx).trans xdel⟩,
    hheavy.trans hx.flag, ?_, ?_⟩
  · rw [← hx.decision]
    simp only [heavyDecision, hlines, hwidth, hdef, hbad, hover]
  · have state := hx.state
    split
    · rename_i hh
      rw [if_pos hh] at state
      rw [he.state_eq hdx fun hp => by simp [hp] at state]
      exact state
    · rename_i hh
      rw [if_neg hh] at state
      obtain hs | ⟨-, hs⟩ | ⟨hr, -⟩ := he.state
      · rwa [hs]
      · simp [hs]
      · exact absurd hr hdx

theorem State.closeFrame_record (hd : s.pool.buffers[b].delivery ≠ .resolved) :
    s.ClosedRecord b (s.closeFrame h b d).pool.buffers[b] :=
  (State.pathEnded_record s h b d).eases ((State.closeFrame_turns s h b d).gap.buffers b) hd

end

end Sys2Proof.Machine
end

section
/-! PROOFS. A frame of its own reel closed at a frame gap: the reel, the holds of the frame and of the one before it (R11, R16, R42,
R51, R72). -/

namespace Sys2Proof.Machine

variable {s : State} {h : Head} {b p k : Buf} {d : FrameDesc}

/-! ### The frame before (R72) -/

theorem State.predecessor_eq_some {r : Slot} : s.predecessor r b = some p ↔
    s.reels[r].latest = some p ∧ s.pool.buffers[p].frame + 1 = s.pool.buffers[b].frame := by
  simp [State.predecessor, Option.filter_eq_some_iff]

theorem State.endPath_frame (s : State) (b : Buf) (d : FrameDesc) (k : Buf) :
    (s.endPath b d).pool.buffers[k].frame = s.pool.buffers[k].frame := by
  by_cases hk : b = k
  · subst hk
    exact (State.pathEnded_record s 0 b d).fixed.2.1
  · obtain hs | ⟨hs, -⟩ := s.endPath_other b d hk <;> rw [hs]

/-- At the gap the frame that ended still has the state and the successor hold its path gave it. -/
theorem State.atGap_self (s : State) (h : Head) (b : Buf) (d : FrameDesc) :
    (s.atGap h b d).pool.buffers[b].state = (s.pathEnded h b d).pool.buffers[b].state ∧
      (s.atGap h b d).pool.buffers[b].successorHold = (s.pathEnded h b d).pool.buffers[b].successorHold := by
  unfold State.atGap State.pathEnded State.endFrame
  simp only [State.modHead_pool]
  split
  · rename_i p hp
    refine State.predecessorAtEnd_self _ ?_
    rw [State.endPath_frame, State.endPath_frame]
    exact (State.predecessor_eq_some.1 hp).2
  · exact ⟨rfl, rfl⟩

/-! ### The reel at the gap (R11, R16) -/

theorem State.pathEnded_latest (h : Head) (hd : s.pool.buffers[b].delivery ≠ .resolved) (hb : s.pool.buffers[b].slot = d.slot) :
    (s.pathEnded h b d).HasLatest d.slot b := by
  have record := State.pathEnded_record s h b d
  obtain ⟨hslot, -, -, -, hdel⟩ := record.fixed
  refine ⟨?_, hslot.trans hb, fun hf => ?_, by rwa [hdel]⟩
  · rw [State.pathEnded_reel, State.reelEnded, Reel.frameEnded_eq]
  · have state := record.state
    rw [hf] at state
    split at state <;> exact absurd state (by decide)

theorem State.atGap_reel (h : Head) (hd : s.pool.buffers[b].delivery ≠ .resolved) (hb : s.pool.buffers[b].slot = d.slot) :
    (s.atGap h b d).reels[d.slot] = s.reelEnded b d := by
  rw [((State.pathEnded_eases s h b d).turns d.slot).exact_ b (State.pathEnded_latest h hd hb), State.pathEnded_reel]

theorem State.closeFrame_reel (h : Head) (hd : s.pool.buffers[b].delivery ≠ .resolved) (hb : s.pool.buffers[b].slot = d.slot) :
    (s.closeFrame h b d).reels[d.slot] = (s.reelEnded b d).afterGap (s.endsHeavy b) (!d.causes.isEmpty) := by
  rw [(State.closeFrame_turns s h b d).exact_ b (State.pathEnded_latest h hd hb), State.pathEnded_reel]

/-- Whether the gap of the frame in `b` holds or ends its reel. -/
def State.gapStops (s : State) (b : Buf) (d : FrameDesc) : Prop := (s.reelEnded b d).Stops (s.endsHeavy b) (!d.causes.isEmpty)

theorem State.closeFrame_goes (h : Head) (hd : s.pool.buffers[b].delivery ≠ .resolved) (hb : s.pool.buffers[b].slot = d.slot)
    (hn : ¬ s.gapStops b d) : (s.closeFrame h b d).pool.buffers = (s.atGap h b d).pool.buffers := by
  rw [State.closeFrame_atGap, State.gapSteps_goes (by rw [State.atGap_reel h hd hb]; exact hn)]
  rfl

theorem State.closeFrame_quieted (h : Head) (hd : s.pool.buffers[b].delivery ≠ .resolved) (hb : s.pool.buffers[b].slot = d.slot)
    (hx : s.reels[d.slot].Active) (hs : s.gapStops b d) : (s.atGap h b d).Quieted d.slot (s.closeFrame h b d) := by
  rw [State.closeFrame_atGap]
  refine State.gapSteps_quieted ?_ (by rw [State.atGap_reel h hd hb]; exact hs)
  rw [State.atGap_reel h hd hb]
  unfold Reel.Active State.reelEnded
  rw [Reel.frameEnded_state]
  exact hx

/-- A gap leaves a RUNNING reel RUNNING exactly when it neither holds nor ends it. -/
theorem Reel.afterGap_running {x : Reel} {heavy perfFault : Bool} (hx : x.state = .running) :
    (x.afterGap heavy perfFault).state = .running ↔ ¬ x.Stops heavy perfFault := by
  constructor
  · intro hr hs
    by_cases he : ∃ e ∈ x.deferred, e.ends = true
    · simp [(Reel.afterGap_ends (heavy := heavy) (perfFault := perfFault) he).1] at hr
    · have he : ∀ e ∈ x.deferred, e.ends = false := fun e hm => Bool.eq_false_iff.2 fun ht => he ⟨e, hm, ht⟩
      have held := (Reel.afterGap_goes (heavy := heavy) (perfFault := perfFault) he).2.2.2.1
        (hs.imp_right fun ⟨e, hm, hn⟩ => ⟨e, hm, Bool.eq_true_of_not_eq_false fun hf => hn ⟨hf, he e hm⟩⟩) (.inr hx)
      simp [held] at hr
  · intro hn
    obtain ⟨hd, hl⟩ := not_or.1 hn
    have sets : ∀ e ∈ x.deferred, e.Sets := fun e he => not_not.1 fun h => hl ⟨e, he, h⟩
    refine ((Reel.afterGap_goes fun e he => (sets e he).2).2.2.2.2 (.inl ?_)).trans hx
    exact not_or.2 ⟨hd, fun ⟨e, he, hh⟩ => by simp [(sets e he).1] at hh⟩

theorem State.closeFrame_running (h : Head) (hd : s.pool.buffers[b].delivery ≠ .resolved) (hb : s.pool.buffers[b].slot = d.slot)
    (hx : s.reels[d.slot].state = .running) : (s.closeFrame h b d).reels[d.slot].state = .running ↔ ¬ s.gapStops b d := by
  rw [State.closeFrame_reel h hd hb]
  exact Reel.afterGap_running ((Reel.frameEnded_state _ _ _ _ _ _).trans hx)

/-! ### Holds of the frames (R51, R72) -/

/-- The frame that ended keeps its successor hold exactly when its run list did not overflow and its reel goes on. -/
theorem State.closeFrame_hold (h : Head) (hd : s.pool.buffers[b].delivery ≠ .resolved) (hb : s.pool.buffers[b].slot = d.slot)
    (hx : s.reels[d.slot].state = .running) : (s.closeFrame h b d).pool.buffers[b].successorHold = true ↔
      (s.closeFrame h b d).pool.buffers[b].overflow = false ∧ (s.closeFrame h b d).reels[d.slot].state = .running := by
  rw [State.closeFrame_running h hd hb hx]
  by_cases hs : s.gapStops b d
  · have hold := (State.closeFrame_quieted h hd hb (.inr hx) hs).latest b (by
      rw [State.atGap_reel h hd hb, State.reelEnded, Reel.frameEnded_eq])
    rw [hold]
    simp [hs]
  · rw [State.closeFrame_goes h hd hb hs, (State.atGap_self s h b d).2]
    have path : s.pool.buffers[b].completed.Paths (s.endsHeavy b) (s.pathEnded h b d).pool.buffers[b] := State.endPath_self s b d
    have overflow : (s.atGap h b d).pool.buffers[b].overflow = s.pool.buffers[b].completed.overflow :=
      (congrArg Buffer.overflow ((State.pathEnded_eases s h b d).buffers b).frame :
        (s.atGap h b d).pool.buffers[b].released.overflow = _).trans path.lined.2.2.1
    rw [path.hold, overflow]
    simp only [hs, not_false_eq_true, and_true]
    split
    · simp
    · rename_i hh
      simp only [State.endsHeavy, heavyDecision_iff, not_or, Bool.not_eq_true] at hh
      rw [hh.2.2]
      simp

section

variable (hp : s.reels[d.slot].latest = some p) (hf : s.pool.buffers[p].frame + 1 = s.pool.buffers[b].frame)

include hp hf

theorem State.endFrame_predecessor : s.endFrame b d = (s.endPath b d).predecessorAtEnd b p (s.endsHeavy b) := by
  unfold State.endFrame
  rw [State.predecessor_eq_some.2 ⟨hp, hf⟩]

/-- A PENDING predecessor that stands in no lane queue has its repair requested (R72). -/
theorem State.closeFrame_predecessor (h : Head) (hpend : s.pool.buffers[p].state = .pending)
    (hdel : s.pool.buffers[p].delivery ≠ .resolved) (hq : ∀ l : Lane, p ∉ s.delivery.queues[l]) :
    (s.closeFrame h b d).pool.buffers[p].state = .repair ∧
      ∃ q, (s.closeFrame h b d).Requested q ∧ q.buf = p ∧ q.next = if s.pool.buffers[b].completed.overflow then none else some b := by
  have hne : b ≠ p := fun h => by rw [h] at hf; omega
  have same : (s.endPath b d).pool.buffers[p] = s.pool.buffers[p] :=
    (s.endPath_other b d hne).resolve_right fun ⟨_, l, hl⟩ => hq l hl
  obtain ⟨state, delivery, q, hreq, hbuf, hnext⟩ := (s.endPath b d).predecessorAtEnd_requested (b := b) (p := p)
    (heavy := s.endsHeavy b) (by rw [same]; exact hpend) (by rw [same]; exact hdel)
  rw [← State.endFrame_predecessor hp hf] at state delivery hreq
  have gap : (s.atGap h b d).Gap d.slot (s.closeFrame h b d) := by
    rw [State.closeFrame_atGap]
    exact (State.Turns.gapSteps _ _ _ _).gap
  have he := gap.buffers p
  have state' : (s.atGap h b d).pool.buffers[p].state = .repair := state
  have overflow : (s.endPath b d).pool.buffers[b].overflow = s.pool.buffers[b].completed.overflow :=
    (State.endPath_self s b d).lined.2.2.1
  rw [overflow] at hnext
  exact ⟨(he.state_eq delivery (by rw [state']; decide)).trans state', q, gap.requests q hreq, hbuf, hnext⟩

/-- The predecessor of a heavy frame loses its successor hold (R72). -/
theorem State.closeFrame_predecessor_heavy (h : Head) (hh : s.endsHeavy b = true) :
    (s.closeFrame h b d).pool.buffers[p].successorHold = false := by
  have hold := ((s.endPath b d).predecessorAtEnd_hold (b := b) (p := p)).1
  rw [← hh, ← State.endFrame_predecessor hp hf] at hold
  have gap : (s.atGap h b d).Gap d.slot (s.closeFrame h b d) := by
    rw [State.closeFrame_atGap]
    exact (State.Turns.gapSteps _ _ _ _).gap
  exact (gap.buffers p).hold_false hold

/-- The predecessor of another frame keeps it while the reel goes on (R51). -/
theorem State.closeFrame_predecessor_light (h : Head) (hd : s.pool.buffers[b].delivery ≠ .resolved)
    (hb : s.pool.buffers[b].slot = d.slot) (hh : s.endsHeavy b = false) (hn : ¬ s.gapStops b d) :
    (s.closeFrame h b d).pool.buffers[p].successorHold = s.pool.buffers[p].successorHold := by
  have hne : b ≠ p := fun h => by rw [h] at hf; omega
  have hold := ((s.endPath b d).predecessorAtEnd_hold (b := b) (p := p)).2
  rw [← hh, ← State.endFrame_predecessor hp hf] at hold
  rw [State.closeFrame_goes h hd hb hn]
  refine (hold : (s.atGap h b d).pool.buffers[p].successorHold = _).trans ?_
  obtain hs | ⟨hs, -⟩ := s.endPath_other b d hne <;> rw [hs]

end

/-! ### The notices -/

theorem State.closeFrame_keeps (h : Head) (b : Buf) (d : FrameDesc) (hu : s.notices.InRange) :
    NoticeUnit.Keeps (.perfFault :: .heavyFrame :: gapKinds) s.notices (s.closeFrame h b d).notices :=
  ((s.endPath_notices b d hu).1.mono (by decide)).trans ((State.closeFrame_turns s h b d).gap.notices.mono (by decide))

/-- The perf fault and the heavy frame are reported (R42, R70). -/
theorem State.closeFrame_waits (h : Head) (b : Buf) (d : FrameDesc) (hu : s.notices.InRange) :
    (d.causes ≠ [] →
      (s.closeFrame h b d).Waits .perfFault d.slot.val (some s.reels[d.slot].record) (lowestCause d.causes)) ∧
    (s.endsHeavy b = true →
      (s.closeFrame h b d).Waits .heavyFrame d.slot.val (some s.reels[d.slot].record) s.pool.buffers[b].frame) := by
  obtain ⟨keeps, fault, heavy⟩ := s.endPath_notices b d hu
  have gap := (State.closeFrame_turns s h b d).gap.notices
  have range := (keeps hu).1
  exact ⟨fun hc => (show (s.pathEnded h b d).Waits _ _ _ _ from fault hc).keeps range gap (by decide),
    fun hh => (show (s.pathEnded h b d).Waits _ _ _ _ from heavy hh).keeps range gap (by decide)⟩

theorem State.atGap_inRange (h : Head) (b : Buf) (d : FrameDesc) (hu : s.notices.InRange) : (s.atGap h b d).notices.InRange :=
  ((State.pathEnded_eases s h b d).notices ((s.endPath_notices b d hu).1 hu).1).1

/-- The hold that the gap makes is reported: as heavy, as a perf-fault run, or as ordered (R10, R11). -/
theorem State.closeFrame_held (h : Head) (hd : s.pool.buffers[b].delivery ≠ .resolved) (hb : s.pool.buffers[b].slot = d.slot)
    (hx : s.reels[d.slot].Active) (hu : s.notices.InRange) :
    (((s.reelEnded b d).heavyDue (s.endsHeavy b) || (s.reelEnded b d).perfDue (!d.causes.isEmpty)) = true →
      (s.closeFrame h b d).Waits .reelHeld d.slot.val (some s.reels[d.slot].record)
        (if (s.reelEnded b d).heavyDue (s.endsHeavy b) then 1 else 2)) ∧
    (¬ ((s.reelEnded b d).heavyDue (s.endsHeavy b) || (s.reelEnded b d).perfDue (!d.causes.isEmpty)) = true →
      (∃ e ∈ s.reels[d.slot].deferred.takeWhile fun e => !e.ends, e.holds = true) →
      (s.closeFrame h b d).Waits .reelHeld d.slot.val (some s.reels[d.slot].record) 0) := by
  have reel := State.atGap_reel h hd hb
  have record : (s.reelEnded b d).record = s.reels[d.slot].record := by rw [State.reelEnded, Reel.frameEnded_eq]
  have deferred : (s.reelEnded b d).deferred = s.reels[d.slot].deferred := by rw [State.reelEnded, Reel.frameEnded_eq]
  have active : (s.atGap h b d).reels[d.slot].Active := by
    rw [reel]
    unfold Reel.Active State.reelEnded
    rw [Reel.frameEnded_state]
    exact hx
  have range := State.atGap_inRange h b d hu
  have due := State.gapSteps_waits_due (heavy := s.endsHeavy b) (perfFault := !d.causes.isEmpty) range active
  have order := State.gapSteps_waits_order (heavy := s.endsHeavy b) (perfFault := !d.causes.isEmpty) range active
  rw [reel, record] at due order
  rw [deferred] at order
  rw [State.closeFrame_atGap]
  exact ⟨due, order⟩

end Sys2Proof.Machine
end

section
/-! PROOFS. FRAME-END (O42). -/

namespace Sys2Proof.Machine

section

variable {s : State} {h : Head} {b : Buf} {d : FrameDesc}

theorem State.closeFrame_link (h : Head) (b : Buf) (d : FrameDesc) (p : Port) :
    (s.closeFrame h b d).links.ports[p].link = s.links.ports[p].link :=
  (State.lines_eq_iff.1 (State.closeFrame_lines s h b d) p).1

theorem State.closeFrame_noFrame (s : State) (h : Head) (b : Buf) (d : FrameDesc) : (s.closeFrame h b d).NoFrame h := by
  intro b' d' ha
  rw [State.closeFrame_idle] at ha
  cases ha

theorem State.closeFrame_head (s : State) (h : Head) (b : Buf) (d : FrameDesc) :
    (s.closeFrame h b d).intake.heads[h] = { s.intake.heads[h] with assembly := .idle } := by
  rw [State.closeFrame_intake]
  exact (modEntry_get _ _ _ _).trans (if_pos rfl)

theorem State.closeFrame_otherHead (s : State) {h k : Head} (b : Buf) (d : FrameDesc) (hk : k ≠ h) :
    (s.closeFrame h b d).intake.heads[k] = s.intake.heads[k] := by
  rw [State.closeFrame_intake]
  exact (modEntry_get _ _ _ _).trans (if_neg hk.symm)

theorem Buffer.missing_eq_nil_iff_any (x : Buffer) :
    (!x.missing.isEmpty) = (List.range x.lines).any fun l => decide (l ∉ x.received) := by
  unfold Buffer.missing
  rw [Bool.eq_iff_iff]
  simp [List.filter_eq_nil_iff]

theorem Buffer.missing_length (x : Buffer) :
    x.missing.length = (List.range x.lines).countP fun l => decide (l ∉ x.received) := (List.countP_eq_length_filter ..).symm

/-! ### What the frame's end says of the reel, in the words of the statements (R11, R16, R42) -/

theorem State.reelEnded_heavyDue :
    (s.reelEnded b d).heavyDue (s.endsHeavy b) = true ↔
      s.endsHeavy b = true ∧ s.reels[d.slot].policy.heavyAction = .hold := by
  rw [State.reelEnded, Reel.frameEnded_eq]
  simp [Reel.heavyDue]

theorem State.reelEnded_perfDue :
    (s.reelEnded b d).perfDue (!d.causes.isEmpty) = true ↔ d.causes ≠ [] ∧ s.reels[d.slot].policy.perfRunLimit ≠ 0 ∧
      s.reels[d.slot].policy.perfRunLimit ≤ min 255 (s.reels[d.slot].perfRun + 1) := by
  rw [State.reelEnded, Reel.frameEnded_eq]
  cases hc : d.causes with
  | nil => simp [Reel.perfDue]
  | cons k rest => simp [Reel.perfDue]

/-- The perf-fault run after the gap: it starts again when it held the reel (R11, R42). -/
theorem Reel.afterGap_perfRun {x : Reel} {heavy perfFault : Bool} (hx : x.Active) :
    (x.afterGap heavy perfFault).perfRun = if x.perfDue perfFault then 0 else x.perfRun := by
  have lasting := Reel.afterGap_lasting heavy perfFault x
  have run : (x.afterGap heavy perfFault).perfRun = (x.afterInternal heavy perfFault).perfRun :=
    (congrArg Reel.perfRun lasting : (Reel.lasting _).perfRun = _)
  have feeding : x.state = .mounted ∨ x.state = .running := hx
  rw [run]
  unfold Reel.afterInternal
  cases hp : x.perfDue perfFault <;> cases hd : x.heavyDue heavy <;> simp [feeding]

theorem Reel.afterGap_latest (heavy perfFault : Bool) (x : Reel) : (x.afterGap heavy perfFault).latest = x.latest := by
  have lasting := Reel.afterGap_lasting heavy perfFault x
  exact (congrArg Reel.latest lasting : (Reel.lasting _).latest = _)

end

/-- The counters of a frame's end at the gap (R31, R68). -/
theorem State.closeFrame_counts (s : State) (h : Head) (b : Buf) (d : FrameDesc) :
    (s.closeFrame h b d).reels[d.slot].counters.framesAssembled = s.reels[d.slot].counters.framesAssembled + 1 ∧
    (s.closeFrame h b d).reels[d.slot].counters.shortFrames =
      s.reels[d.slot].counters.shortFrames + (if s.pool.buffers[b].missing.isEmpty then 0 else 1) ∧
    (s.closeFrame h b d).reels[d.slot].counters.samplesScanned = s.reels[d.slot].counters.samplesScanned +
      BitVec.ofNat 64 (s.pool.buffers[b].lines * s.pool.buffers[b].width) ∧
    (s.closeFrame h b d).reels[d.slot].counters.heavyFrames =
      (if s.endsHeavy b then s.reels[d.slot].counters.heavyFrames + 1 else s.reels[d.slot].counters.heavyFrames) ∧
    (s.closeFrame h b d).reels[d.slot].counters.perfFaultFrames =
      if d.causes = [] then s.reels[d.slot].counters.perfFaultFrames else s.reels[d.slot].counters.perfFaultFrames + 1 := by
  obtain ⟨-, -, hlines, hwidth, -, -⟩ := s.pool.buffers[b].completed_fixed
  obtain ⟨h1, h2, h3, h4, h5⟩ := Reel.frameEnded_counters s.reels[d.slot] b (!s.pool.buffers[b].missing.isEmpty) d.causes
    s.pool.buffers[b].completed (s.endsHeavy b)
  rw [hlines, hwidth] at h3
  rw [State.closeFrame_counters s h b d]
  refine ⟨h1, h2.trans ?_, h3, h4, h5⟩
  cases s.pool.buffers[b].missing.isEmpty <;> simp

theorem State.closeFrame_overflow (s : State) (h : Head) (b : Buf) (d : FrameDesc) :
    (s.closeFrame h b d).pool.buffers[b].overflow = s.pool.buffers[b].completed.overflow :=
  (congrArg Buffer.overflow ((State.closeFrame_turns s h b d).gap.buffers b).frame :
    (s.closeFrame h b d).pool.buffers[b].released.overflow = _).trans (State.endPath_self s b d).lined.2.2.1

/-! ### The gap of a RUNNING reel, in the words of the statements (R11, R16) -/

/-- The gap of the frame in `b` holds its reel as heavy (R11). -/
def State.HeavyHold (s : State) (b : Buf) (d : FrameDesc) : Prop :=
  s.endsHeavy b = true ∧ s.reels[d.slot].policy.heavyAction = .hold

/-- The gap holds the reel for its perf-fault run (R11). -/
def State.PerfHold (s : State) (d : FrameDesc) : Prop := d.causes ≠ [] ∧ s.reels[d.slot].policy.perfRunLimit ≠ 0 ∧
  s.reels[d.slot].policy.perfRunLimit ≤ min 255 (s.reels[d.slot].perfRun + 1)

/-- A HOLD-REEL takes effect among the deferred orders (R16). -/
def State.OrderHold (s : State) (d : FrameDesc) : Prop :=
  ∃ e ∈ s.reels[d.slot].deferred.takeWhile fun e => !e.ends, e.holds = true

/-- An UNMOUNT-REEL END stands among the deferred orders (R16). -/
def State.OrderEnd (s : State) (d : FrameDesc) : Prop := ∃ e ∈ s.reels[d.slot].deferred, e.ends = true

/-- What the gap makes of the reel. -/
structure State.GapOutcome (s : State) (b : Buf) (d : FrameDesc) (y : Reel) : Prop where
  latest : y.latest = some b
  deferred : y.deferred = []
  policy : y.policy = ((s.reels[d.slot].deferred.takeWhile fun e => !e.ends).filterMap Deferred.newPolicy).getLastD
    s.reels[d.slot].policy
  runHeld : s.PerfHold d → y.perfRun = 0
  run : ¬ s.PerfHold d → y.perfRun = if d.causes = [] then 0 else min 255 (s.reels[d.slot].perfRun + 1)
  ended : s.OrderEnd d → y.state = .draining ∧ y.closeReason = some .unmount ∧ y.cues = []
  kept : ¬ s.OrderEnd d → y.closeReason = s.reels[d.slot].closeReason ∧ y.cues = s.reels[d.slot].cues
  held : ¬ s.OrderEnd d → s.HeavyHold b d ∨ s.PerfHold d ∨ s.OrderHold d → y.state = .held
  running : ¬ s.OrderEnd d → ¬ (s.HeavyHold b d ∨ s.PerfHold d ∨ s.OrderHold d) → y.state = .running

section

variable {s : State} {h : Head} {b : Buf} {d : FrameDesc}

theorem State.reelEnded_due : ((s.reelEnded b d).heavyDue (s.endsHeavy b) || (s.reelEnded b d).perfDue (!d.causes.isEmpty)) = true ↔
    s.HeavyHold b d ∨ s.PerfHold d := by
  rw [Bool.or_eq_true, State.reelEnded_heavyDue, State.reelEnded_perfDue]
  rfl

theorem State.reelEnded_outcome (hx : s.reels[d.slot].state = .running) :
    s.GapOutcome b d ((s.reelEnded b d).afterGap (s.endsHeavy b) (!d.causes.isEmpty)) := by
  have same := State.reelEnded_eq s b d
  have running : (s.reelEnded b d).state = .running := (Reel.frameEnded_state _ _ _ _ _ _).trans hx
  have deferred : (s.reelEnded b d).deferred = s.reels[d.slot].deferred := by rw [same]
  have perfRun := Reel.afterGap_perfRun (heavy := s.endsHeavy b) (perfFault := !d.causes.isEmpty) (.inr running)
  have ends (he : s.OrderEnd d) := Reel.afterGap_ends (x := s.reelEnded b d) (heavy := s.endsHeavy b)
    (perfFault := !d.causes.isEmpty) (by rw [deferred]; exact he)
  have none_ (he : ¬ s.OrderEnd d) : ∀ e ∈ s.reels[d.slot].deferred, e.ends = false :=
    fun e hm => Bool.eq_false_iff.2 fun ht => he ⟨e, hm, ht⟩
  have goes (he : ¬ s.OrderEnd d) := Reel.afterGap_goes (x := s.reelEnded b d) (heavy := s.endsHeavy b)
    (perfFault := !d.causes.isEmpty) (by rw [deferred]; exact none_ he)
  have holds (he : ¬ s.OrderEnd d) : s.HeavyHold b d ∨ s.PerfHold d ∨ s.OrderHold d ↔
      ((s.reelEnded b d).heavyDue (s.endsHeavy b) || (s.reelEnded b d).perfDue (!d.causes.isEmpty)) = true ∨
        ∃ e ∈ (s.reelEnded b d).deferred, e.holds = true := by
    have whole : s.reels[d.slot].deferred.takeWhile (fun e => !e.ends) = s.reels[d.slot].deferred :=
      List.takeWhile_eq_self_iff.2 fun e hm => by simp [none_ he e hm]
    rw [State.reelEnded_due, deferred, or_assoc, State.OrderHold, whole]
  refine ⟨?_, ?_, ?_, fun hp => ?_, fun hp => ?_, fun he => ?_, fun he => ?_, fun he hh => ?_, fun he hh => ?_⟩
  · rw [Reel.afterGap_latest, same]
  · by_cases he : s.OrderEnd d
    · exact (ends he).2.2.2
    · exact (goes he).2.2.1
  · rw [Reel.afterGap_policy, deferred, same]
  · rw [perfRun, if_pos (State.reelEnded_perfDue.2 hp)]
  · rw [perfRun, if_neg (mt State.reelEnded_perfDue.1 hp), same]
  · obtain ⟨h1, h2, h3, -⟩ := ends he
    exact ⟨h1, h2, h3⟩
  · obtain ⟨h1, h2, -⟩ := goes he
    exact ⟨h1.trans (by rw [same]), h2.trans (by rw [same])⟩
  · exact (goes he).2.2.2.1 ((holds he).1 hh) (.inr running)
  · exact ((goes he).2.2.2.2 (.inl (mt (holds he).2 hh))).trans running

variable (hd : s.pool.buffers[b].delivery ≠ .resolved) (hb : s.pool.buffers[b].slot = d.slot)
  (hx : s.reels[d.slot].state = .running)

include hd hb hx

theorem State.closeFrame_outcome (h : Head) : s.GapOutcome b d (s.closeFrame h b d).reels[d.slot] := by
  rw [State.closeFrame_reel h hd hb]
  exact State.reelEnded_outcome hx

/-- The hold that the gap makes is reported with its cause. -/
theorem State.closeFrame_causes (h : Head) (hu : s.notices.InRange) :
    (s.HeavyHold b d → (s.closeFrame h b d).Waits .reelHeld d.slot.val (some s.reels[d.slot].record) 1) ∧
    (¬ s.HeavyHold b d → s.PerfHold d → (s.closeFrame h b d).Waits .reelHeld d.slot.val (some s.reels[d.slot].record) 2) ∧
    (¬ s.HeavyHold b d → ¬ s.PerfHold d → s.OrderHold d →
      (s.closeFrame h b d).Waits .reelHeld d.slot.val (some s.reels[d.slot].record) 0) := by
  obtain ⟨held, ordered⟩ := State.closeFrame_held (s := s) (d := d) h hd hb (.inr hx) hu
  rw [State.reelEnded_due] at held ordered
  refine ⟨fun hh => ?_, fun hh hp => ?_, fun hh hp ho => ordered (not_or.2 ⟨hh, hp⟩) ho⟩
  · have waits := held (.inl hh)
    rwa [if_pos (State.reelEnded_heavyDue.2 hh)] at waits
  · have waits := held (.inr hp)
    rwa [if_neg (mt State.reelEnded_heavyDue.1 hh)] at waits

end

/-- The outcome of a FRAME-END that closes a frame in hand. -/
theorem exec_frameEnd_assembling {s : State} {h : Head} {c : RxCell} {b : Buf} {d : FrameDesc}
    (hu : s.links.ports[headPort h].link = .up) (hc : passesCheck kindFrameEnd c = true)
    (ha : s.intake.heads[h].assembly = .assembling b d) :
    exec (.frameEnd h c) s = .next (s.closeFrame h b d).handOver := by
  refine (State.arrival_up hu (s.onFrameEnd h c)).trans ?_
  unfold State.onFrameEnd State.takeFrameEnd
  rw [if_pos hc, ha]

theorem exec_frameHead_up {s : State} {h : Head} (hu : s.links.ports[headPort h].link = .up) (f : RxCell) :
    exec (.frameHead h f) s = .next (s.onFrameHead h f).handOver := State.arrival_up hu _

/-- Settles O42: the check, a stray FRAME-END, the end of the frame in hand, and the gap that follows it. -/
theorem frameEndAssemblesTheFrame : Obligations.FrameEndAssemblesTheFrame := by
  intro s h c hu
  have arrives : exec (.frameEnd h c) s = .next (s.onFrameEnd h c).handOver := State.arrival_up hu _
  refine ⟨fun hc => ?failed, fun hc hn => ?stray, fun b d hc ha hd => ?ends, fun b d ha => ?steps, fun b d hc ha hd hb hx hr => ?gap⟩
  case failed =>
    rw [arrives, State.onFrameEnd, if_neg (by simp [hc])]
    rfl
  case stray =>
    have stray : s.takeFrameEnd h = (s.modHead h fun x => { x with assembly := .idle }).headSink h := by
      unfold State.takeFrameEnd
      split
      · rename_i b d ha
        exact absurd ha (hn b d)
      · rfl
    rw [arrives, State.onFrameEnd, if_pos hc, stray, State.headSink, modHead_modHead]
    rfl
  case ends =>
    intro short
    have unresolved : s.pool.buffers[b].delivery ≠ .resolved := by rw [hd]; decide
    have record := State.closeFrame_record (h := h) (d := d) unresolved
    obtain ⟨assembled, shorts, scanned, -, -⟩ := State.closeFrame_counts s h b d
    have hshort : short = !s.pool.buffers[b].missing.isEmpty := (Buffer.missing_eq_nil_iff_any _).symm
    refine ⟨_, exec_frameEnd_assembling hu hc ha, ?_⟩
    rw [State.handOver_intake, State.handOver_buffers, State.handOver_reels, State.handOver_settings]
    refine ⟨State.closeFrame_head s h b d, fun k hk => State.closeFrame_otherHead s b d hk, record.received, ?_, assembled, ?_,
      scanned, ?_, congrArg Standing.settings (State.closeFrame_standing s h b d)⟩
    · rw [record.badLines, Buffer.missing_length]
    · rw [shorts, hshort]
      cases s.pool.buffers[b].missing.isEmpty <;> rfl
    · intro y isHeavy
      have state := record.state
      have decision : isHeavy ↔ s.endsHeavy b = true := by rw [← record.decision]; exact heavyDecision_iff.symm
      refine ⟨fun hh => ?_, fun hh => ?_⟩
      · rw [if_pos (decision.1 hh)] at state
        exact ⟨by rw [show y.heavy = _ from record.flag, decision.1 hh]; rfl, state⟩
      · rwa [if_neg (mt decision.2 hh)] at state
  case steps =>
    refine ⟨State.closeFrame_idle s h b d, fun hc => exec_frameEnd_assembling hu hc ha, fun f hf => ?_⟩
    have linked : (s.closeFrame h b d).links.ports[headPort h].link = .up := (State.closeFrame_link h b d _).trans hu
    have opened : s.takeFrameHead h (readFrameHead f.payload) = (s.closeFrame h b d).openingTests h (readFrameHead f.payload) := by
      unfold State.takeFrameHead
      rw [ha]
    rw [exec_frameHead_up hu, exec_frameHead_up linked, State.onFrameHead, State.onFrameHead, if_pos hf, if_pos hf, opened,
      State.takeFrameHead_noFrame (State.closeFrame_noFrame s h b d)]
  case gap =>
    intro r x due count
    have unresolved : s.pool.buffers[b].delivery ≠ .resolved := by rw [hd]; decide
    have record := State.closeFrame_record (h := h) (d := d) unresolved
    have outcome := State.closeFrame_outcome unresolved hb hx h
    have goes := State.closeFrame_running (s := s) (d := d) h unresolved hb hx
    have range := (State.closeFrame_keeps h b d hr hr).1
    obtain ⟨-, -, -, heavies, faults⟩ := State.closeFrame_counts s h b d
    obtain ⟨fault, heavy⟩ := State.closeFrame_waits h b d hr
    obtain ⟨one, two, zero⟩ := State.closeFrame_causes unresolved hb hx h hr
    refine ⟨_, exec_frameEnd_assembling hu hc ha, ?_⟩
    have reports : ∀ {k i c n}, (s.closeFrame h b d).Waits k i c n → (s.closeFrame h b d).handOver.Reports k i c n :=
      fun hw => hw.handOver range
    have requested : ∀ q, (s.closeFrame h b d).Requested q ↔ (s.closeFrame h b d).handOver.Requested q := fun q => by
      unfold State.Requested
      rw [State.handOver_repair]
    rw [State.handOver_buffers, State.handOver_reels]
    intro y isHeavy heavyHold perfHold ended isHeld
    have decision : isHeavy ↔ s.endsHeavy b = true := by rw [← record.decision]; exact heavyDecision_iff.symm
    have hheavy : heavyHold ↔ s.HeavyHold b d := and_congr_left' decision
    have hheld : isHeld ↔ s.HeavyHold b d ∨ s.PerfHold d ∨ s.OrderHold d := or_congr_left hheavy
    refine ⟨outcome.latest, fun hh => ?heavy, fun hh => ?light, fun hcs => ?clean, fun k rest hcs => ?fault,
      fun hh => reports (one (hheavy.1 hh)), fun hh hp => reports (two (mt hheavy.2 hh) hp),
      fun hh hp hd => reports (zero (mt hheavy.2 hh) hp ((hd.resolve_left hh).resolve_left hp)), outcome.deferred, outcome.policy,
      outcome.ended, fun he => ?goes, State.closeFrame_hold h unresolved hb hx, fun p hp hf => ?pred⟩
    case heavy => exact ⟨by rw [heavies, if_pos (decision.1 hh)], reports (heavy (decision.1 hh))⟩
    case light => rw [heavies, if_neg (mt decision.2 hh)]
    case clean =>
      refine ⟨?_, by rw [faults, if_pos hcs]⟩
      rw [outcome.run fun hp => hp.1 hcs, if_pos hcs]
    case fault =>
      have hne : d.causes ≠ [] := by simp [hcs]
      refine ⟨by rw [faults, if_neg hne], ?_, outcome.runHeld, fun hp => (outcome.run hp).trans (if_neg hne)⟩
      have waits := fault hne
      rw [hcs] at waits
      exact reports waits
    case goes =>
      obtain ⟨reason, cues⟩ := outcome.kept he
      exact ⟨reason, cues, fun hh => outcome.held he (hheld.1 hh), fun hh => outcome.running he (mt hheld.2 hh)⟩
    case pred =>
      refine ⟨fun hpend hdel hq => ?_, fun hh => ?_, fun hh hrun => ?_⟩
      · obtain ⟨state, q, hreq, hbuf, hnext⟩ := State.closeFrame_predecessor hp hf h hpend (by rw [hdel]; decide) hq
        have overflow : y.overflow = s.pool.buffers[b].completed.overflow := State.closeFrame_overflow s h b d
        refine ⟨state, q, (requested q).1 hreq, hbuf, ?_⟩
        rw [overflow]
        exact hnext
      · exact State.closeFrame_predecessor_heavy hp hf h (decision.1 hh)
      · exact State.closeFrame_predecessor_light hp hf h unresolved hb (Bool.eq_false_iff.2 (mt decision.2 hh)) (goes.1 hrun)

end Sys2Proof.Machine
end

section
/-! PROOFS. REEL-END (O43). -/

namespace Sys2Proof.Machine

section

variable {s t : State} {h : Head} {r : Slot}

theorem State.endAssembly_noFrame (hn : s.NoFrame h) : s.endAssembly h = s.modHead h fun x => { x with assembly := .idle } := by
  unfold State.endAssembly
  split
  · rename_i b d ha
    exact absurd ha (hn b d)
  · rfl

theorem State.endAssembly_frame {b : Buf} {d : FrameDesc} (ha : s.intake.heads[h].assembly = .assembling b d) :
    s.endAssembly h = s.closeFrame h b d := by
  unfold State.endAssembly
  rw [ha]

/-- The bound slot depends on the heads and states of the reels alone. -/
theorem State.boundSlot_congr (hb : ∀ k : Slot, t.reels[k].head = s.reels[k].head ∧ t.reels[k].state.bound = s.reels[k].state.bound)
    (h : Head) : t.boundSlot h = s.boundSlot h := by
  have same : ∀ k : Slot, (decide (t.reels[k].head = h) && t.reels[k].state.bound) =
      (decide (s.reels[k].head = h) && s.reels[k].state.bound) := fun k => by rw [(hb k).1, (hb k).2]
  cases hs : s.boundSlot h with
  | none =>
    rw [State.boundSlot_none_iff] at hs ⊢
    intro r
    rw [(hb r).1, (hb r).2]
    exact hs r
  | some r =>
    obtain ⟨hr, hl⟩ := firstEntry_some hs
    exact firstEntry_eq_some ((same r).trans hr) fun j hj => (same j).trans (hl j hj)

theorem Reel.Settles.bound {x y : Reel} (hs : x.Settles y) : y.state.bound = x.state.bound := by
  obtain hs | ⟨hs, hy⟩ := hs.state
  · rw [hs]
  · simp only [List.mem_cons, List.not_mem_nil, or_false] at hy
    rcases hy with hy | hy <;> simp [hs, hy, ReelState.bound]

theorem State.Gap.other {k : Slot} (hg : s.Gap r t) (hk : r ≠ k) : s.reels[k].Settles t.reels[k] := ⟨hg.kept k hk, hg.state k hk⟩

theorem Reel.Settles.fields {x y : Reel} (hs : x.Settles y) : y.head = x.head ∧ y.closeReason = x.closeReason ∧ y.cues = x.cues ∧
    y.deferred = x.deferred ∧ y.counters = x.counters := by
  have hk := hs.kept
  simp only [Reel.kept, Reel.mk.injEq] at hk
  tauto

/-- A reel that drains is not bound, and its close does not bind it. -/
theorem Reel.Settles.unbound {x y : Reel} (hs : x.Settles y) (hx : x.state = .draining) : y.state ∉ [.mounted, .running, .held] := by
  have hy := hs.bound
  rw [hx] at hy
  intro hm
  rw [(ReelState.bound_iff _).2 hm] at hy
  cases hy

theorem Reel.afterGap_head (heavy perfFault : Bool) (x : Reel) : (x.afterGap heavy perfFault).head = x.head :=
  (congrArg Reel.head (Reel.afterGap_lasting heavy perfFault x) : (Reel.lasting _).head = _)

theorem Reel.afterGap_record (heavy perfFault : Bool) (x : Reel) : (x.afterGap heavy perfFault).record = x.record :=
  (congrArg Reel.record (Reel.afterGap_lasting heavy perfFault x) : (Reel.lasting _).record = _)

/-- A gap without an UNMOUNT-REEL END leaves a bound reel bound. -/
theorem Reel.afterGap_bound {x : Reel} (heavy perfFault : Bool) (he : ∀ e ∈ x.deferred, e.ends = false) (hx : x.state.bound = true) :
    (x.afterGap heavy perfFault).state.bound = true := by
  obtain ⟨-, -, -, hold, same⟩ := Reel.afterGap_goes (heavy := heavy) (perfFault := perfFault) he
  by_cases hd : ((x.heavyDue heavy || x.perfDue perfFault) = true ∨ ∃ e ∈ x.deferred, e.holds = true) ∧ x.Active
  · rw [hold hd.1 hd.2]
    rfl
  · rw [same (not_and_or.1 hd)]
    exact hx

section

variable {b : Buf} {d : FrameDesc}

theorem State.closeFrame_settles (s : State) (h : Head) (b : Buf) (d : FrameDesc) :
    ((s.reelEnded b d).afterGap (s.endsHeavy b) (!d.causes.isEmpty)).Settles (s.closeFrame h b d).reels[d.slot] := by
  rw [← State.pathEnded_reel s h b d]
  exact (State.closeFrame_turns s h b d).settles

theorem State.closeFrame_other {k : Slot} (s : State) (h : Head) (b : Buf) (hk : d.slot ≠ k) :
    s.reels[k].Settles (s.closeFrame h b d).reels[k] := by
  rw [← State.pathEnded_other s h b d hk]
  exact (State.closeFrame_turns s h b d).gap.other hk

/-- Unless a deferred UNMOUNT-REEL END takes the reel at the gap, the close of its frame leaves every head its bound slot. -/
theorem State.closeFrame_boundSlot (he : ∀ e ∈ s.reels[d.slot].deferred, e.ends = false) (hb : s.reels[d.slot].state.bound = true)
    (g : Head) : (s.closeFrame h b d).boundSlot g = s.boundSlot g := by
  refine State.boundSlot_congr (fun k => ?_) g
  by_cases hk : d.slot = k
  · subst hk
    have settled := State.closeFrame_settles s h b d
    have same := State.reelEnded_eq s b d
    refine ⟨settled.fields.1.trans ((Reel.afterGap_head _ _ _).trans (by rw [same])), settled.bound.trans ?_⟩
    rw [hb]
    exact Reel.afterGap_bound _ _ (by rw [same]; exact he) (by rw [same]; exact hb)
  · have settled := State.closeFrame_other (d := d) s h b hk
    exact ⟨settled.fields.1, settled.bound⟩

/-- A deferred UNMOUNT-REEL END drains the reel at the gap. -/
theorem State.closeFrame_ended (s : State) (h : Head) (b : Buf) (he : ∃ e ∈ s.reels[d.slot].deferred, e.ends = true) :
    (s.closeFrame h b d).reels[d.slot].state ∉ [.mounted, .running, .held] ∧
      (s.closeFrame h b d).reels[d.slot].closeReason = some .unmount ∧ (s.closeFrame h b d).reels[d.slot].cues = [] ∧
      (s.closeFrame h b d).reels[d.slot].deferred = [] := by
  have settled := State.closeFrame_settles s h b d
  obtain ⟨hstate, hreason, hcues, hdeferred⟩ := Reel.afterGap_ends (x := s.reelEnded b d) (heavy := s.endsHeavy b)
    (perfFault := !d.causes.isEmpty) (by rw [State.reelEnded, Reel.frameEnded_eq]; exact he)
  obtain ⟨-, r1, r2, r3, -⟩ := settled.fields
  exact ⟨settled.unbound hstate, r1.trans hreason, r2.trans hcues, r3.trans hdeferred⟩

end

/-! ### REEL-END (R19, R32) -/

theorem State.takeReelEnd_bound (hb : (s.endAssembly h).boundSlot h = some r) :
    s.takeReelEnd h = (s.endAssembly h).enterDraining r .reelEnd := by
  unfold State.takeReelEnd
  dsimp only
  rw [hb]

theorem State.takeReelEnd_unbound (hb : (s.endAssembly h).boundSlot h = none) : s.takeReelEnd h = (s.endAssembly h).headSink h := by
  unfold State.takeReelEnd
  dsimp only
  rw [hb]

theorem Reel.drained_fields (why : CloseReason) (x : Reel) : (x.drained why).state = .draining ∧
    (x.drained why).closeReason = some why ∧ (x.drained why).cues = [] ∧ (x.drained why).deferred = [] ∧
    (x.drained why).counters = x.counters := ⟨rfl, rfl, rfl, rfl, rfl⟩

/-- The end of a reel, as any step after the gap leaves a frame and another reel alone. -/
structure State.Ends (r : Slot) (t v : State) : Prop where
  buffers : ∀ b : Buf, t.pool.buffers[b].Eases v.pool.buffers[b]
  assembly : ∀ h : Head, v.intake.heads[h].assembly = t.intake.heads[h].assembly
  counters : v.reels[r].counters = t.reels[r].counters

theorem State.Gap.ends {k : Slot} (hg : s.Gap k t) (hr : t.reels[r].counters = s.reels[r].counters) : s.Ends r t :=
  ⟨hg.buffers, fun h => by rw [hg.intake], hr⟩

theorem State.headSink_ends (s : State) (h : Head) (r : Slot) : s.Ends r (s.headSink h) := by
  refine ⟨fun _ => .refl _, fun k => ?_, rfl⟩
  refine (congrArg HeadIntake.assembly (modEntry_get _ _ _ _)).trans ?_
  split <;> rfl

theorem State.headSink_settles (s : State) (h : Head) (r : Slot) : s.reels[r].Settles (s.headSink h).reels[r] := ⟨rfl, .inl rfl⟩

end

/-- Settles O43: the check, a head with no bound reel, a reel at a gap, and a frame in hand closed first. -/
theorem reelEndDrainsTheBoundReel : Obligations.ReelEndDrainsTheBoundReel := by
  intro s h c hu t
  have arrives : exec (.reelEnd h c) s = .next (s.onReelEnd h c).handOver := State.arrival_up hu _
  have takes : passesCheck kindReelEnd c = true → exec (.reelEnd h c) s = .next (s.takeReelEnd h).handOver := fun hc => by
    rw [arrives, State.onReelEnd, if_pos hc]
  refine ⟨fun hc => ?failed, fun hc hn hb => ?sunk, fun r hc hn hb => ?gap, fun b d hc ha => ?steps,
    fun r b d hc ha hb hd hdel => ?frame⟩
  case failed =>
    rw [arrives, State.onReelEnd, if_neg (by simp [hc])]
    rfl
  case sunk =>
    have idle := State.endAssembly_noFrame hn
    rw [takes hc, State.takeReelEnd_unbound (by rw [idle]; exact hb), idle, State.headSink, modHead_modHead]
    rfl
  case gap =>
    intro u
    have idle := State.endAssembly_noFrame hn
    rw [takes hc, State.takeReelEnd_bound (by rw [idle]; exact hb), idle]
    rfl
  case steps =>
    intro u
    have closed := State.endAssembly_frame ha
    refine ⟨fun hb => ?_, fun r hb => ?_⟩
    · rw [takes hc, State.takeReelEnd_unbound (by rw [closed]; exact hb), closed]
      rfl
    · rw [takes hc, State.takeReelEnd_bound (by rw [closed]; exact hb), closed]
      rfl
  case frame =>
    subst hd
    intro x missing
    have closed := State.endAssembly_frame ha
    have unresolved : s.pool.buffers[b].delivery ≠ .resolved := by rw [hdel]; decide
    have record := State.closeFrame_record (h := h) (d := d) unresolved
    obtain ⟨assembled, shorts, -, -, -⟩ := State.closeFrame_counts s h b d
    rw [takes hc]
    refine ⟨_, rfl, ?_⟩
    rw [State.handOver_intake, State.handOver_buffers, State.handOver_reels, State.handOver_settings]
    have finish : (s.closeFrame h b d).Ends d.slot (s.takeReelEnd h) →
        (s.takeReelEnd h).intake.heads[h].assembly = .idle ∧
        (∀ l, l < s.pool.buffers[b].lines → l ∈ (s.takeReelEnd h).pool.buffers[b].received) ∧
        (s.takeReelEnd h).pool.buffers[b].badLines = s.pool.buffers[b].badLines + missing.length ∧
        (s.takeReelEnd h).reels[d.slot].counters.framesAssembled = x.counters.framesAssembled + 1 ∧
        (s.takeReelEnd h).reels[d.slot].counters.shortFrames = x.counters.shortFrames + (if missing = [] then 0 else 1) := by
      intro e
      have record := record.eases (e.buffers b) unresolved
      rw [e.counters, e.assembly, State.closeFrame_idle]
      refine ⟨rfl, record.received, record.badLines, assembled, shorts.trans ?_⟩
      simp only [List.isEmpty_iff]
      rfl
    have settings : (s.takeReelEnd h).settings = s.settings := congrArg Standing.settings (State.takeReelEnd_standing s h)
    by_cases he : ∃ e ∈ x.deferred, e.ends = true
    case pos =>
      obtain ⟨state, reason, cues, deferred⟩ := State.closeFrame_ended s h b he
      have last : (s.closeFrame h b d).Ends d.slot (s.takeReelEnd h) ∧
          (s.closeFrame h b d).reels[d.slot].Settles (s.takeReelEnd h).reels[d.slot] := by
        cases hk : (s.closeFrame h b d).boundSlot h with
        | none =>
          rw [State.takeReelEnd_unbound (by rw [closed]; exact hk), closed]
          exact ⟨State.headSink_ends _ _ _, State.headSink_settles _ _ _⟩
        | some k =>
          have hne : k ≠ d.slot := fun h => by
            subst h
            exact state ((ReelState.bound_iff _).1 (State.boundSlot_some hk).2)
          rw [State.takeReelEnd_bound (by rw [closed]; exact hk), closed]
          have gap := (State.Turns.enterDraining (s.closeFrame h b d) k .reelEnd).gap
          exact ⟨gap.ends (gap.other hne).fields.2.2.2.2, gap.other hne⟩
      obtain ⟨ends, settled⟩ := last
      obtain ⟨h1, h2, h3, h4, h5⟩ := finish ends
      obtain ⟨-, sreason, scues, sdeferred, -⟩ := settled.fields
      refine ⟨h1, h2, h3, h4, h5, fun hm => state ?_, scues.trans cues, sdeferred.trans deferred, fun hn => ?_,
        fun _ => sreason.trans reason, settings⟩
      · rw [← ReelState.bound_iff, ← settled.bound]
        exact (ReelState.bound_iff _).2 hm
      · obtain ⟨e, hm, ht⟩ := he
        simp [hn e hm] at ht
    case neg =>
      have none_ : ∀ e ∈ x.deferred, e.ends = false := fun e hm => Bool.eq_false_iff.2 fun ht => he ⟨e, hm, ht⟩
      have bound : (s.closeFrame h b d).boundSlot h = some d.slot := by
        rw [State.closeFrame_boundSlot none_ (State.boundSlot_some hb).2, hb]
      have drained : s.takeReelEnd h = (s.closeFrame h b d).enterDraining d.slot .reelEnd := by
        rw [State.takeReelEnd_bound (by rw [closed]; exact bound), closed]
      have turns := State.Turns.enterDraining (s.closeFrame h b d) d.slot .reelEnd
      rw [← drained] at turns
      obtain ⟨-, reason, cues, deferred, counters⟩ := turns.settles.fields
      obtain ⟨dstate, dreason, dcues, ddeferred, dcounters⟩ :=
        Reel.drained_fields .reelEnd (s.closeFrame h b d).reels[d.slot]
      obtain ⟨h1, h2, h3, h4, h5⟩ := finish (turns.gap.ends (counters.trans dcounters))
      exact ⟨h1, h2, h3, h4, h5, turns.settles.unbound dstate, cues.trans dcues, deferred.trans ddeferred,
        fun _ => reason.trans dreason, fun hex => absurd hex he, settings⟩

end Sys2Proof.Machine
end

section
/-! PROOFS. The links of the head ports (O34): what a port's loss leaves of its lists and of the notices, and the hold it makes. -/

namespace Sys2Proof.Machine

section

variable {s t : State} {h : Head} {r : Slot}

/-! ### A port that is emptied, and the hand-over behind it (R174, R185) -/

/-- The hand-over gives a DOWN port nothing. -/
theorem State.handOver_down {p : Port} (hp : s.links.ports[p].link = .down) : s.handOver.links.ports[p] = s.links.ports[p] := by
  unfold State.handOver
  split
  · rename_i hc
    simp only [Bool.and_eq_true] at hc
    split
    · rfl
    · have hne : s.notices.port ≠ p := fun h => by
        obtain ⟨⟨-, hup⟩, -⟩ := hc
        rw [h, State.isUp_iff, hp] at hup
        cases hup
      exact (modEntry_get _ _ _ _).trans (if_neg hne)
  · rfl

theorem State.returnNotice_links (s : State) (p : Port) : (s.returnNotice p).links = s.links := by
  unfold State.returnNotice
  split
  · rfl
  · split <;> rfl

theorem State.returnNotice_work (s : State) (p : Port) : (s.returnNotice p).work = s.work := by
  unfold State.returnNotice
  split
  · rfl
  · split <;> rfl

theorem State.returnNotice_reels (s : State) (p : Port) : (s.returnNotice p).reels = s.reels := by
  unfold State.returnNotice
  split
  · rfl
  · split <;> rfl

theorem State.returnNotice_inRange (hu : s.notices.InRange) (p : Port) : (s.returnNotice p).notices.InRange := by
  unfold State.returnNotice
  split
  · exact hu
  · rename_i f hf
    obtain ⟨hcount, hinst⟩ := hu.inFlight f hf
    split
    · have placed := hu.place (n := f.notice) (join := fun m => { m with count := min 255 (m.count + f.notice.count + 1) })
        hcount hinst (fun _ => rfl) (fun _ => rfl) fun _ => Nat.min_le_left _ _
      exact { placed with inFlight := fun _ h => by cases h }
    · exact hu

theorem State.emptyPort_work (s : State) (p : Port) : (s.emptyPort p).work = s.work := State.returnNotice_work _ p

theorem State.emptyPort_reels (s : State) (p : Port) : (s.emptyPort p).reels = s.reels := State.returnNotice_reels _ p

theorem State.emptyPort_port (s : State) (p k : Port) : (s.emptyPort p).links.ports[k] =
    if p = k then
      { s.links.ports[k] with
        orders := [], transmit := [], flow := []
        dropped := s.links.ports[k].dropped + BitVec.ofNat 32 (s.links.ports[k].transmit.length + s.links.ports[k].flow.length) }
    else s.links.ports[k] := by
  unfold State.emptyPort
  rw [State.returnNotice_links]
  exact modEntry_get _ _ _ _

/-- A report that waits when the port is emptied stands after the hand-over. -/
theorem State.Waits.emptyPort {k : NoticeKind} {i : Nat} {c : Option RecordNo} {n : Nat} (hw : s.Waits k i c n)
    (hu : s.notices.InRange) (p : Port) : (s.emptyPort p).handOver.Reports k i c n :=
  (State.Waits.returnNotice (s := s.modPort p _) hw p).handOver (State.returnNotice_inRange (s := s.modPort p _) hu p)

theorem State.Reports.noticed {k : NoticeKind} {i : Nat} {c : Option RecordNo} {n : Nat} (hr : s.Reports k i c n) : s.Noticed k i := by
  obtain ⟨m, hm | ⟨p, hm⟩, hk, hi, -⟩ := hr
  · exact .inl ⟨m, hm, hk, hi⟩
  · exact .inr ⟨_, hm, hk, hi⟩

/-! ### The steps of the loss (R13, R43, R174) -/

/-- The link of a head port lost and reported, before anything else is done. -/
def State.lost (s : State) (h : Head) : State := (s.setLink (headPort h) .down).raise .portDown h.val none 0

/-- A RUNNING reel bound to the head held, for the loss of its link (R13). -/
def State.holdAtLoss (s : State) (h : Head) : State :=
  match s.boundSlot h with
  | some r => if s.reels[r].state = .running then s.takeHold r 3 else s
  | none => s

theorem State.loseHeadLink_eq (s : State) (h : Head) :
    s.loseHeadLink h = (((s.lost h).endAssembly h).holdAtLoss h).emptyPort (headPort h) := rfl

theorem exec_headLinkLoss_up (hu : s.links.ports[headPort h].link = .up) :
    exec (.headLinkLoss h) s = .next (s.loseHeadLink h).handOver := if_pos (State.isUp_iff.2 hu)

theorem State.holdAtLoss_running (hb : s.boundSlot h = some r) (hx : s.reels[r].state = .running) :
    s.holdAtLoss h = s.takeHold r 3 := by
  unfold State.holdAtLoss
  rw [hb]
  exact if_pos hx

theorem State.holdAtLoss_none (hn : ∀ r, s.boundSlot h = some r → s.reels[r].state ≠ .running) : s.holdAtLoss h = s := by
  unfold State.holdAtLoss
  split
  · rename_i r hb
    exact if_neg (hn r hb)
  · rfl

/-- The hold at a loss, as a hold of the bound slot or nothing. -/
theorem State.holdAtLoss_cases (s : State) (h : Head) : s.holdAtLoss h = s ∨ ∃ r, s.boundSlot h = some r ∧
    s.reels[r].state = .running ∧ s.holdAtLoss h = s.takeHold r 3 := by
  by_cases hn : ∃ r, s.boundSlot h = some r ∧ s.reels[r].state = .running
  · obtain ⟨r, hb, hx⟩ := hn
    exact .inr ⟨r, hb, hx, State.holdAtLoss_running hb hx⟩
  · exact .inl (State.holdAtLoss_none fun r hb hx => hn ⟨r, hb, hx⟩)

/-- What the loss does to the work of the frames and to the notices, once the frame in hand is closed. -/
theorem State.holdAtLoss_gap (s : State) (h : Head) : ∃ r, s.Gap r (s.holdAtLoss h) := by
  obtain hs | ⟨r, -, -, hs⟩ := s.holdAtLoss_cases h <;> rw [hs]
  · exact ⟨0, .refl 0 s⟩
  · exact ⟨r, (State.Turns.takeHold s r 3).gap⟩

theorem State.endAssembly_lines (s : State) (h : Head) : (s.endAssembly h).lines = s.lines := by
  unfold State.endAssembly
  split <;> [exact State.closeFrame_lines s h _ _; rfl]

theorem State.endAssembly_idle (s : State) (h : Head) : (s.endAssembly h).intake.heads[h].assembly = .idle := by
  unfold State.endAssembly
  split
  · exact State.closeFrame_idle s h _ _
  · exact congrArg HeadIntake.assembly ((modEntry_get _ _ _ _).trans (if_pos rfl))

theorem State.endAssembly_keeps (s : State) (h : Head) (hu : s.notices.InRange) :
    NoticeUnit.Keeps (.perfFault :: .heavyFrame :: gapKinds) s.notices (s.endAssembly h).notices := by
  unfold State.endAssembly
  split <;> [exact State.closeFrame_keeps h _ _ hu; exact .refl _ _]

/-! ### The bound reel at the loss -/

/-- A gap binds no reel. -/
theorem Reel.afterGap_unbound {x : Reel} {heavy perfFault : Bool} (hb : (x.afterGap heavy perfFault).state.bound = true) :
    x.state.bound = true := by
  by_cases he : ∃ e ∈ x.deferred, e.ends = true
  · rw [(Reel.afterGap_ends (heavy := heavy) (perfFault := perfFault) he).1] at hb
    cases hb
  · obtain ⟨-, -, -, -, same⟩ := Reel.afterGap_goes (heavy := heavy) (perfFault := perfFault)
      fun e hm => Bool.eq_false_iff.2 fun ht => he ⟨e, hm, ht⟩
    by_cases hx : x.Active
    · obtain hx | hx := hx <;> rw [hx] <;> rfl
    · rwa [same (.inr hx)] at hb

/-- The end of an assembly binds no reel, and leaves every reel on its head. -/
theorem State.endAssembly_bound (s : State) (h : Head) (k : Slot) : (s.endAssembly h).reels[k].head = s.reels[k].head ∧
    ((s.endAssembly h).reels[k].state.bound = true → s.reels[k].state.bound = true) := by
  by_cases hn : s.NoFrame h
  · rw [State.endAssembly_noFrame hn]
    exact ⟨rfl, id⟩
  · simp only [State.NoFrame, not_forall, not_not] at hn
    obtain ⟨b, d, ha⟩ := hn
    rw [State.endAssembly_frame ha]
    by_cases hk : d.slot = k
    · subst hk
      have settled := State.closeFrame_settles s h b d
      have same := State.reelEnded_eq s b d
      refine ⟨settled.fields.1.trans ((Reel.afterGap_head _ _ _).trans (by rw [same])), fun hb => ?_⟩
      have bound := Reel.afterGap_unbound (settled.bound.symm.trans hb)
      rwa [same] at bound
    · have settled := State.closeFrame_other (d := d) s h b hk
      exact ⟨settled.fields.1, fun hb => settled.bound.symm.trans hb⟩

/-- A slot bound to the head that stays bound through the end of an assembly is still the one found. -/
theorem State.endAssembly_boundSlot (hb : s.boundSlot h = some r) (hr : (s.endAssembly h).reels[r].state.bound = true) :
    (s.endAssembly h).boundSlot h = some r := by
  obtain ⟨hp, hl⟩ := firstEntry_some hb
  have head : s.reels[r].head = h := (State.boundSlot_some hb).1
  refine firstEntry_eq_some ?_ fun k hk => ?_
  · simp only [Bool.and_eq_true, decide_eq_true_eq]
    exact ⟨(State.endAssembly_bound s h r).1.trans head, hr⟩
  · have before := hl k hk
    obtain ⟨hhead, hbound⟩ := State.endAssembly_bound s h k
    simp only [Bool.and_eq_false_iff, decide_eq_false_iff_not] at before ⊢
    rw [hhead]
    exact before.imp_right fun hf => Bool.eq_false_iff.2 fun ht => by rw [hbound ht] at hf; cases hf

theorem State.takeHold_held (hx : s.reels[r].Active) (cause : Nat) : (s.takeHold r cause).reels[r].state = .held := by
  have settled := (State.Turns.takeHold s r cause).settles.state
  rw [(Reel.afterHold_state _).trans (if_pos hx)] at settled
  exact settled.resolve_right fun h => by cases h.1

/-- At the loss a reel bound to the head does not stay RUNNING. -/
theorem State.lossHold_reel (hb : s.boundSlot h = some r) :
    ((s.endAssembly h).holdAtLoss h).reels[r].state ≠ .running ∧
      ((s.endAssembly h).reels[r].state ∈ [.running, .held] → ((s.endAssembly h).holdAtLoss h).reels[r].state = .held) := by
  by_cases hx : (s.endAssembly h).reels[r].state = .running
  · have bound := State.endAssembly_boundSlot hb (by rw [hx]; rfl)
    have held := State.takeHold_held (.inr hx) 3
    rw [State.holdAtLoss_running bound hx, held]
    exact ⟨by decide, fun _ => rfl⟩
  · have settled : (s.endAssembly h).reels[r].Settles ((s.endAssembly h).holdAtLoss h).reels[r] := by
      obtain hs | ⟨k, hk, hrun, hs⟩ := (s.endAssembly h).holdAtLoss_cases h <;> rw [hs]
      · exact ⟨rfl, .inl rfl⟩
      · exact (State.Turns.takeHold _ k 3).gap.other fun h => hx (h ▸ hrun)
    refine ⟨fun hr => ?_, fun hm => ?_⟩
    · obtain hs | ⟨-, hs⟩ := settled.state
      · exact hx (hs.symm.trans hr)
      · rw [hr] at hs
        exact absurd hs (by decide)
    · have held : (s.endAssembly h).reels[r].state = .held := by
        simp only [List.mem_cons, List.not_mem_nil, or_false] at hm
        exact hm.resolve_left hx
      have state := settled.state
      rw [held] at state
      exact state.resolve_right fun h => by cases h.1

/-- A RUNNING reel with no deferred orders is RUNNING or HELD when the assembly has ended. -/
theorem State.endAssembly_running (hx : s.reels[r].state = .running) (hd : s.reels[r].deferred = []) :
    (s.endAssembly h).reels[r].state ∈ [.running, .held] := by
  by_cases hn : s.NoFrame h
  · rw [State.endAssembly_noFrame hn, State.modHead_reels, hx]
    decide
  · simp only [State.NoFrame, not_forall, not_not] at hn
    obtain ⟨b, d, ha⟩ := hn
    rw [State.endAssembly_frame ha]
    by_cases hk : d.slot = r
    · subst hk
      have state := (State.closeFrame_settles s h b d).state
      have same := State.reelEnded_eq s b d
      have deferred : ∀ e ∈ (s.reelEnded b d).deferred, e.ends = false := by rw [same, hd]; simp
      have running : (s.reelEnded b d).state = .running := by rw [same, hx]
      obtain ⟨-, -, -, hold, goes⟩ := Reel.afterGap_goes (heavy := s.endsHeavy b) (perfFault := !d.causes.isEmpty) deferred
      have active : (s.reelEnded b d).Active := .inr running
      by_cases hs : ((s.reelEnded b d).heavyDue (s.endsHeavy b) || (s.reelEnded b d).perfDue (!d.causes.isEmpty)) = true ∨
          ∃ e ∈ (s.reelEnded b d).deferred, e.holds = true
      · rw [hold hs active] at state
        rw [state.resolve_right fun h => by cases h.1]
        decide
      · rw [goes (.inl hs), running] at state
        rw [state.resolve_right fun h => by cases h.1]
        decide
    · have state := (State.closeFrame_other (d := d) s h b hk).state
      rw [hx] at state
      rw [state.resolve_right fun h => by cases h.1]
      decide

end

end Sys2Proof.Machine
end

section
/-! PROOFS. Head link events (O34). -/

namespace Sys2Proof.Machine

section

variable {s : State} {h : Head} {r : Slot}

theorem State.lost_port (s : State) (h : Head) (k : Port) : (s.lost h).links.ports[k] =
    if headPort h = k then { s.links.ports[k] with link := .down } else s.links.ports[k] := modEntry_get _ _ _ _

theorem State.lost_inRange (hu : s.notices.InRange) (h : Head) : (s.lost h).notices.InRange :=
  State.raise_inRange (s := s.setLink (headPort h) .down) hu (by omega)

/-- The state before the port is emptied has the links and orders of the state with the link lost. -/
theorem State.lossHold_lines (s : State) (h : Head) : (((s.lost h).endAssembly h).holdAtLoss h).lines = (s.lost h).lines := by
  obtain ⟨r, gap⟩ := ((s.lost h).endAssembly h).holdAtLoss_gap h
  exact gap.lines.trans (State.endAssembly_lines _ _)

theorem State.loseHeadLink_port (s : State) (h : Head) : ∃ q : PortState,
    (s.loseHeadLink h).handOver.links.ports[headPort h] = { q with link := .down, orders := [], transmit := [], flow := [] } := by
  have link := (State.lines_eq_iff.1 (State.lossHold_lines s h) (headPort h)).1
  rw [State.lost_port, if_pos rfl] at link
  have emptied := State.emptyPort_port (((s.lost h).endAssembly h).holdAtLoss h) (headPort h) (headPort h)
  rw [if_pos rfl, ← State.loseHeadLink_eq] at emptied
  have down : (s.loseHeadLink h).links.ports[headPort h].link = .down := by rw [emptied]; exact link
  refine ⟨(s.loseHeadLink h).links.ports[headPort h], (State.handOver_down down).trans ?_⟩
  conv_lhs => rw [emptied]
  rw [emptied]
  simp only [link]

theorem State.loseHeadLink_otherPort (s : State) (h : Head) {k : Port} (hk : k ≠ headPort h) :
    (s.loseHeadLink h).handOver.links.ports[k].link = s.links.ports[k].link ∧
      (s.loseHeadLink h).handOver.links.ports[k].orders = s.links.ports[k].orders := by
  have emptied := State.emptyPort_port (((s.lost h).endAssembly h).holdAtLoss h) (headPort h) k
  rw [if_neg hk.symm, ← State.loseHeadLink_eq] at emptied
  have same := State.lines_eq_iff.1 (State.handOver_lines (s.loseHeadLink h)) k
  have before := State.lines_eq_iff.1 (State.lossHold_lines s h) k
  rw [State.lost_port, if_neg hk.symm] at before
  rw [same.1, same.2, emptied]
  exact before

theorem State.loseHeadLink_reels (s : State) (h : Head) :
    (s.loseHeadLink h).handOver.reels = (((s.lost h).endAssembly h).holdAtLoss h).reels := by
  rw [State.handOver_reels, State.loseHeadLink_eq, State.emptyPort_reels]

theorem State.loseHeadLink_work (s : State) (h : Head) :
    (s.loseHeadLink h).handOver.work = (((s.lost h).endAssembly h).holdAtLoss h).work := by
  rw [State.handOver_work, State.loseHeadLink_eq, State.emptyPort_work]

theorem State.loseHeadLink_idle (s : State) (h : Head) : (s.loseHeadLink h).handOver.intake.heads[h].assembly = .idle := by
  obtain ⟨r, gap⟩ := ((s.lost h).endAssembly h).holdAtLoss_gap h
  rw [(State.work_eq_iff.1 (State.loseHeadLink_work s h)).1, gap.intake]
  exact State.endAssembly_idle _ _

theorem State.loseHeadLink_noticed (hu : s.notices.InRange) (h : Head) : (s.loseHeadLink h).handOver.Noticed .portDown h.val := by
  obtain ⟨r, gap⟩ := ((s.lost h).endAssembly h).holdAtLoss_gap h
  have range := State.lost_inRange hu h
  have waits : (s.lost h).Waits .portDown h.val none 0 := State.raise_waits (s := s.setLink (headPort h) .down) hu (by omega)
  have ended := (s.lost h).endAssembly_keeps h range
  have keeps := ended.trans (gap.notices.mono (by decide))
  rw [State.loseHeadLink_eq]
  exact ((waits.keeps range keeps (by decide)).emptyPort (keeps range).1 _).noticed

/-! ### The loss at a gap, and with a frame in hand (R13, R43) -/

theorem State.formFlow_notices (s : State) (h : Head) (c : FlowCell) : (s.formFlow h c).notices = s.notices := by
  unfold State.formFlow
  split <;> rfl

theorem State.loseHeadLink_noFrame (hn : s.NoFrame h) : (s.lost h).endAssembly h =
    (s.lost h).modHead h fun x => { x with assembly := .idle } :=
  State.endAssembly_noFrame hn

/-- A port emptied (R174). -/
def PortState.emptied (q : PortState) : PortState :=
  { q with orders := [], transmit := [], flow := []
           dropped := q.dropped + BitVec.ofNat 32 (q.transmit.length + q.flow.length) }

theorem State.emptyPort_lost (s : State) (h : Head) (f : HeadIntake → HeadIntake) :
    ((s.lost h).modHead h f).emptyPort (headPort h) =
      (((s.modPort (headPort h) fun q => PortState.emptied { q with link := .down }).modHead h f).raise
        .portDown h.val none 0).returnNotice (headPort h) := by
  rw [← modPort_modPort s (headPort h) (fun q => { q with link := .down }) PortState.emptied]
  rfl

/-! ### The link up (R58, R174, R178) -/

theorem State.feeding_iff : s.feeding h = true ↔ ∃ r, s.boundSlot h = some r ∧ s.reels[r].state ∈ [.mounted, .running] := by
  unfold State.feeding
  cases hb : s.boundSlot h with
  | none => simp
  | some r => simp

theorem exec_headLinkUp_down (hd : s.links.ports[headPort h].link = .down) :
    exec (.headLinkUp h) s = .next (s.gainHeadLink h).handOver :=
  if_neg (by rw [State.isUp_iff, hd]; decide)

/-- The link of a head port UP again and reported. -/
def State.gained (s : State) (h : Head) : State :=
  (s.modPort (headPort h) fun q => { q with link := .up, seqOut := 0 }).raise .portUp h.val none 0

theorem State.gained_isUp (s : State) (h : Head) : (s.gained h).isUp (headPort h) = true := by
  rw [State.isUp_iff]
  exact congrArg PortState.link ((modEntry_get s.links.ports (headPort h) (headPort h) _).trans (if_pos rfl))

theorem State.gainHeadLink_eq (s : State) (h : Head) :
    s.gainHeadLink h = if s.feeding h = true then (s.gained h).tellPaced h else s.gained h := rfl

end

/-- The port as its link comes UP, with what is due on it. -/
def portUp (more : List FlowCell) (q : PortState) : PortState := { q with link := .up, seqOut := 0, flow := q.flow ++ more }

theorem State.gainHeadLink_fed {s : State} {h : Head} (hp : s.pool.pacing = .paced) (hf : s.feeding h = true) :
    s.gainHeadLink h = (s.modPort (headPort h) (portUp [.paceHold])).raise .portUp h.val none 0 := by
  rw [State.gainHeadLink_eq, if_pos hf, State.tellPaced_paced (s := s.gained h) hp (State.gained_isUp s h)]
  unfold State.gained
  have raised : ∀ (u : State) (f : PortState → PortState), (u.raise .portUp h.val none 0).modPort (headPort h) f =
      (u.modPort (headPort h) f).raise .portUp h.val none 0 := fun _ _ => rfl
  rw [raised, modPort_modPort]
  rfl

theorem State.gainHeadLink_unfed {s : State} {h : Head} (hf : ¬ (s.pool.pacing = .paced ∧ s.feeding h = true)) :
    s.gainHeadLink h = (s.modPort (headPort h) (portUp [])).raise .portUp h.val none 0 := by
  have same : s.gained h = (s.modPort (headPort h) (portUp [])).raise .portUp h.val none 0 := by
    have port : (fun q : PortState => { q with link := .up, seqOut := 0 }) = portUp [] := by
      funext q
      simp [portUp]
    unfold State.gained
    rw [port]
  rw [State.gainHeadLink_eq]
  split
  · rename_i hh
    rw [State.tellPaced_open (s := s.gained h) fun hp => hf ⟨hp.1, hh⟩, same]
  · exact same

/-! ### The frame in hand at the loss (R13, R31, R43) -/

section

variable {s : State} {h : Head} {b : Buf} {d : FrameDesc}

theorem State.closeFrame_latest (h : Head) (hd : s.pool.buffers[b].delivery ≠ .resolved) (hb : s.pool.buffers[b].slot = d.slot) :
    (s.closeFrame h b d).HasLatest d.slot b := by
  have latest := State.pathEnded_latest h hd hb
  refine latest.gap (State.closeFrame_turns s h b d).gap ?_
  rw [State.closeFrame_reel h hd hb, Reel.afterGap_latest, latest.latest, State.reelEnded_eq]

/-- A frame that is not heavy is its reel's only PENDING frame at the gap, when the frame before it is the only one that could be
PENDING. -/
theorem State.atGap_pendingFrame (h : Head) (hb : s.pool.buffers[b].slot = d.slot)
    (hh : s.endsHeavy b = false)
    (hp : ∀ k : Buf, s.pool.buffers[k].state = .pending → s.pool.buffers[k].slot = d.slot →
      s.reels[d.slot].latest = some k ∧ s.pool.buffers[k].frame + 1 = s.pool.buffers[b].frame) :
    (s.atGap h b d).pendingFrame d.slot = some b := by
  have eases := State.pathEnded_eases s h b d
  have pending : (s.pathEnded h b d).pool.buffers[b].state = .pending := by
    have path : s.pool.buffers[b].completed.Paths (s.endsHeavy b) (s.pathEnded h b d).pool.buffers[b] := State.endPath_self s b d
    have state := path.state
    rwa [if_neg (by simp [hh])] at state
  refine firstEntry_eq_some (decide_eq_true ⟨(State.atGap_self s h b d).1.trans pending, ?_⟩) fun k hk => ?_
  · exact (eases.buffers b).slot.trans ((State.pathEnded_record s h b d).fixed.1.trans hb)
  · refine decide_eq_false fun ⟨hstate, hslot⟩ => ?_
    have hne : b ≠ k := fun h => absurd hk (h ▸ lt_irrefl _)
    have before : (s.endPath b d).pool.buffers[k].state = .pending ∧ s.predecessor d.slot b ≠ some k := by
      have state : (s.endFrame b d).pool.buffers[k].state = .pending := hstate
      unfold State.endFrame at state
      split at state
      · rename_i p hpre
        have earlier := State.predecessorAtEnd_pending _ state
        exact ⟨earlier.1, fun h => earlier.2 (by rw [hpre] at h; exact Option.some.inj h)⟩
      · rename_i hpre
        exact ⟨state, by rw [hpre]; simp⟩
    have same : (s.endPath b d).pool.buffers[k] = s.pool.buffers[k] := by
      refine (s.endPath_other b d hne).resolve_right fun hs => ?_
      rw [hs.1] at before
      cases before.1
    rw [same] at before
    have slot : s.pool.buffers[k].slot = d.slot := by
      rw [← same]
      exact (eases.buffers k).slot.symm.trans hslot
    exact before.2 (State.predecessor_eq_some.2 (hp k before.1 slot))

theorem State.Waits.takeHold_other {i : Slot} {c : Option RecordNo} {n cause : Nat} {k : Slot} (hw : s.Waits .reelHeld i.val c n)
    (hu : s.notices.InRange) (hk : k ≠ i) : (s.takeHold k cause).Waits .reelHeld i.val c n := by
  by_cases hx : s.reels[k].Active
  · rw [State.takeHold_eq s k hx]
    have range := (s.raise_keeps (raised := [.reelHeld]) (List.mem_singleton_self _) k.isLt (some s.reels[k].record) cause hu).1
    have notices : (s.halted k cause).notices = (s.raise .reelHeld k.val (some s.reels[k].record) cause).notices :=
      State.raise_notices_congr (State.formFlow_notices _ _ _) _ _ _ _
    obtain ⟨m, hm, hkind, hinst, hrest⟩ := hw
    have waits : (s.halted k cause).Waits .reelHeld i.val c n := by
      refine ⟨m, ?_, hkind, hinst, hrest⟩
      rw [notices]
      exact mem_placeNotice_of_ne hm fun hkey =>
        hk (Fin.ext (hinst.symm.trans (Notice.eq_of_key (hu.instances m hm) k.isLt hkey).2).symm)
    exact waits.keeps (by rw [notices]; exact range) (State.Eases.discardedNext _ k).notices (by decide)
  · rw [State.takeHold_none s k hx]
    exact hw

/-- What the hold at the loss does to the reel of the frame that was closed. -/
theorem State.lossHold_running {u : State} {r : Slot} (hl : u.HasLatest r b) (hb : u.boundSlot h = some r)
    (hx : u.reels[r].state = .running) (hu : u.notices.InRange) :
    (u.holdAtLoss h).reels[r] = { u.reels[r] with state := .held } ∧ u.Quieted r (u.holdAtLoss h) ∧
      (u.holdAtLoss h).Waits .reelHeld r.val (some u.reels[r].record) 3 := by
  rw [State.holdAtLoss_running hb hx]
  refine ⟨?_, State.takeHold_quieted (.inr hx) 3, State.takeHold_waits hu (.inr hx) 3⟩
  rw [(State.Turns.takeHold u r 3).exact_ b hl]
  exact if_pos (.inr hx)

/-- On a reel that is not RUNNING it changes nothing, and its report stays. -/
theorem State.lossHold_stopped {u : State} {r : Slot} (hl : u.HasLatest r b) (hx : u.reels[r].state ≠ .running)
    (hu : u.notices.InRange) : (u.holdAtLoss h).reels[r] = u.reels[r] ∧
      ∀ c n, u.Waits .reelHeld r.val c n → (u.holdAtLoss h).Waits .reelHeld r.val c n := by
  obtain hs | ⟨k, hk, hrun, hs⟩ := u.holdAtLoss_cases h <;> rw [hs]
  · exact ⟨rfl, fun _ _ => id⟩
  · have hne : k ≠ r := fun h => hx (h ▸ hrun)
    exact ⟨(State.Turns.takeHold u k 3).gap.owned r hne b hl, fun c n hw => hw.takeHold_other hu hne⟩

end

section

variable {s : State} {h : Head} {b : Buf} {d : FrameDesc}

theorem State.closeFrame_stillBound (hs : s.boundSlot h = some d.slot) (ha : s.intake.heads[h].assembly = .assembling b d)
    (hr : (s.closeFrame h b d).reels[d.slot].state = .running) :
    (s.closeFrame h b d).boundSlot h = some d.slot := by
  have bound := State.endAssembly_boundSlot hs (by rw [State.endAssembly_frame ha, hr]; rfl)
  rwa [State.endAssembly_frame ha] at bound

variable (hd : s.pool.buffers[b].delivery ≠ .resolved)
  (hb : s.pool.buffers[b].slot = d.slot) (hx : s.reels[d.slot].state = .running)

include hd hb hx

theorem State.closeFrame_stops (hs : (s.closeFrame h b d).reels[d.slot].state ≠ .running) :
    (s.atGap h b d).Quieted d.slot (s.closeFrame h b d) :=
  State.closeFrame_quieted h hd hb (.inr hx) (not_not.1 (mt (State.closeFrame_running h hd hb hx).2 hs))

variable (hs : s.boundSlot h = some d.slot) (ha : s.intake.heads[h].assembly = .assembling b d)

include hs ha

/-- After the loss the frame carries no successor hold. -/
theorem State.lossHold_successorHold (hu : s.notices.InRange) :
    ((s.closeFrame h b d).holdAtLoss h).pool.buffers[b].successorHold = false := by
  have latest := State.closeFrame_latest (d := d) h hd hb
  have range := (State.closeFrame_keeps h b d hu hu).1
  by_cases hr : (s.closeFrame h b d).reels[d.slot].state = .running
  · exact (State.lossHold_running latest (State.closeFrame_stillBound hs ha hr) hr range).2.1.latest b latest.latest
  · obtain ⟨k, gap⟩ := (s.closeFrame h b d).holdAtLoss_gap h
    refine (gap.buffers b).hold_false ((State.closeFrame_stops hd hb hx hr).latest b ?_)
    rw [State.atGap_reel h hd hb, State.reelEnded_eq]

/-- After the loss a frame that is not heavy is in REPAIR, when it was its reel's only PENDING frame. -/
theorem State.lossHold_repair (hu : s.notices.InRange) (hh : s.endsHeavy b = false)
    (hp : ∀ k : Buf, s.pool.buffers[k].state = .pending → s.pool.buffers[k].slot = d.slot →
      s.reels[d.slot].latest = some k ∧ s.pool.buffers[k].frame + 1 = s.pool.buffers[b].frame) :
    ((s.closeFrame h b d).holdAtLoss h).pool.buffers[b].state = .repair := by
  have latest := State.closeFrame_latest (d := d) h hd hb
  have range := (State.closeFrame_keeps h b d hu hu).1
  have pending := State.atGap_pendingFrame h hb hh hp
  by_cases hr : (s.closeFrame h b d).reels[d.slot].state = .running
  · have same := State.closeFrame_goes h hd hb ((State.closeFrame_running h hd hb hx).1 hr)
    have quieted := (State.lossHold_running latest (State.closeFrame_stillBound hs ha hr) hr range).2.1
    exact (quieted.pending b ((State.pendingFrame_congr same).trans pending) latest.delivery).1
  · obtain ⟨k, gap⟩ := (s.closeFrame h b d).holdAtLoss_gap h
    have gone : (s.atGap h b d).pool.buffers[b].delivery ≠ .resolved := by
      rw [((State.pathEnded_eases s h b d).buffers b).delivery_eq (State.pathEnded_latest h hd hb).delivery]
      exact (State.pathEnded_latest h hd hb).delivery
    obtain ⟨state, delivery, -⟩ := (State.closeFrame_stops hd hb hx hr).pending b pending gone
    exact ((gap.buffers b).state_eq delivery (by rw [state]; decide)).trans state

omit hx in
/-- After the loss the reel is as the gap left it, but HELD when that was RUNNING. -/
theorem State.lossHold_exact (hu : s.notices.InRange) :
    ((s.closeFrame h b d).holdAtLoss h).reels[d.slot] = { (s.closeFrame h b d).reels[d.slot] with
      state := if (s.closeFrame h b d).reels[d.slot].state = .running then .held
        else (s.closeFrame h b d).reels[d.slot].state } := by
  have latest := State.closeFrame_latest (d := d) h hd hb
  have range := (State.closeFrame_keeps h b d hu hu).1
  split
  · rename_i hr
    exact (State.lossHold_running latest (State.closeFrame_stillBound hs ha hr) hr range).1
  · rename_i hr
    exact (State.lossHold_stopped latest hr range).1

omit hx in
theorem State.lossHold_fields (hu : s.notices.InRange) :
    ((s.closeFrame h b d).holdAtLoss h).reels[d.slot].latest = (s.closeFrame h b d).reels[d.slot].latest ∧
    ((s.closeFrame h b d).holdAtLoss h).reels[d.slot].counters = (s.closeFrame h b d).reels[d.slot].counters ∧
    ((s.closeFrame h b d).holdAtLoss h).reels[d.slot].deferred = (s.closeFrame h b d).reels[d.slot].deferred ∧
    ((s.closeFrame h b d).holdAtLoss h).reels[d.slot].policy = (s.closeFrame h b d).reels[d.slot].policy ∧
    ((s.closeFrame h b d).holdAtLoss h).reels[d.slot].closeReason = (s.closeFrame h b d).reels[d.slot].closeReason ∧
    ((s.closeFrame h b d).holdAtLoss h).reels[d.slot].cues = (s.closeFrame h b d).reels[d.slot].cues ∧
    ((s.closeFrame h b d).holdAtLoss h).reels[d.slot].state = if (s.closeFrame h b d).reels[d.slot].state = .running then .held
      else (s.closeFrame h b d).reels[d.slot].state := by
  rw [State.lossHold_exact hd hb hs ha hu]
  exact ⟨rfl, rfl, rfl, rfl, rfl, rfl, rfl⟩

/-- After the loss the reel is HELD, unless a deferred UNMOUNT-REEL END drained it. -/
theorem State.lossHold_state (hu : s.notices.InRange) :
    (s.OrderEnd d → ((s.closeFrame h b d).holdAtLoss h).reels[d.slot].state = .draining) ∧
    (¬ s.OrderEnd d → ((s.closeFrame h b d).holdAtLoss h).reels[d.slot].state = .held) := by
  have outcome := State.closeFrame_outcome hd hb hx h
  obtain ⟨-, -, -, -, -, -, state⟩ := State.lossHold_fields hd hb hs ha hu
  rw [state]
  refine ⟨fun he => ?_, fun he => ?_⟩
  · rw [(outcome.ended he).1]
    decide
  · by_cases hh : s.HeavyHold b d ∨ s.PerfHold d ∨ s.OrderHold d
    · rw [outcome.held he hh]
      decide
    · rw [outcome.running he hh]
      decide

/-- After the loss the hold that was made is reported with its cause, the loss itself last (R10, R11, R13). -/
theorem State.lossHold_causes (hu : s.notices.InRange) :
    (s.HeavyHold b d → ((s.closeFrame h b d).holdAtLoss h).Waits .reelHeld d.slot.val (some s.reels[d.slot].record) 1) ∧
    (¬ s.HeavyHold b d → s.PerfHold d →
      ((s.closeFrame h b d).holdAtLoss h).Waits .reelHeld d.slot.val (some s.reels[d.slot].record) 2) ∧
    (¬ s.HeavyHold b d → ¬ s.PerfHold d → s.OrderHold d →
      ((s.closeFrame h b d).holdAtLoss h).Waits .reelHeld d.slot.val (some s.reels[d.slot].record) 0) ∧
    (¬ (s.HeavyHold b d ∨ s.PerfHold d ∨ s.OrderHold d) → ¬ s.OrderEnd d →
      ((s.closeFrame h b d).holdAtLoss h).Waits .reelHeld d.slot.val (some s.reels[d.slot].record) 3) := by
  have latest := State.closeFrame_latest (d := d) h hd hb
  have range := (State.closeFrame_keeps h b d hu hu).1
  have outcome := State.closeFrame_outcome hd hb hx h
  obtain ⟨one, two, zero⟩ := State.closeFrame_causes hd hb hx h hu
  have stops (hh : s.HeavyHold b d ∨ s.PerfHold d ∨ s.OrderHold d) : (s.closeFrame h b d).reels[d.slot].state ≠ .running := by
    by_cases he : s.OrderEnd d
    · rw [(outcome.ended he).1]
      decide
    · rw [outcome.held he hh]
      decide
  refine ⟨fun hh => (State.lossHold_stopped latest (stops (.inl hh)) range).2 _ _ (one hh),
    fun hh hp => (State.lossHold_stopped latest (stops (.inr (.inl hp))) range).2 _ _ (two hh hp),
    fun hh hp ho => (State.lossHold_stopped latest (stops (.inr (.inr ho))) range).2 _ _ (zero hh hp ho), fun hn he => ?_⟩
  have state := outcome.running he hn
  have waits := (State.lossHold_running latest (State.closeFrame_stillBound hs ha state) state range).2.2
  have record : (s.closeFrame h b d).reels[d.slot].record = s.reels[d.slot].record := by
    rw [State.closeFrame_reel h hd hb, Reel.afterGap_record, State.reelEnded_eq]
  rwa [record] at waits

end

@[simp] theorem State.lost_reels (s : State) (h : Head) : (s.lost h).reels = s.reels := rfl
@[simp] theorem State.lost_pool (s : State) (h : Head) : (s.lost h).pool = s.pool := rfl

/-- Settles O34: the loss of a head port's link, on a port that is DOWN, and its coming UP. -/
theorem headLinkEvents : Obligations.HeadLinkEvents := by
  refine ⟨fun s h hu hl => ⟨?general, ?gap, ?frame, ?detail⟩, fun s h hd => if_neg (by rw [State.isUp_iff, hd]; decide),
    fun s h => ?up⟩
  case general =>
    obtain ⟨q, hq⟩ := State.loseHeadLink_port s h
    refine ⟨_, exec_headLinkLoss_up hl, by rw [hq], by rw [hq], by rw [hq], by rw [hq], State.loseHeadLink_idle s h,
      State.loseHeadLink_noticed hu h, (State.handOver_standing _).trans (State.loseHeadLink_standing s h), fun r hb => ?_,
      fun k hk => State.loseHeadLink_otherPort s h hk⟩
    rw [State.loseHeadLink_reels]
    obtain ⟨stops, held⟩ := State.lossHold_reel (s := s.lost h) (h := h) hb
    exact ⟨stops, fun hx hd => held (State.endAssembly_running (s := s.lost h) hx hd)⟩
  case gap =>
    intro hn hr
    have none_ : ∀ r, ((s.lost h).modHead h fun x => { x with assembly := .idle }).boundSlot h = some r →
        ((s.lost h).modHead h fun x => { x with assembly := .idle }).reels[r].state ≠ .running :=
      fun r hb => hr r (State.boundSlot_some (s := s) hb).1
    rw [exec_headLinkLoss_up hl, State.loseHeadLink_eq, State.loseHeadLink_noFrame hn, State.holdAtLoss_none none_,
      State.emptyPort_lost]
    rfl
  case frame =>
    intro lost idle held gone
    have hold : ∀ (u : State) (r : Slot), u.boundSlot h = some r → u.reels[r].state = .running → u.holdAtLoss h = held u r := by
      intro u r hb hx
      rw [State.holdAtLoss_running hb hx, State.takeHold_eq u r (.inr hx), State.halted, (State.boundSlot_some hb).1]
      rfl
    refine ⟨fun hn r hb hx => ?_, fun b d ha => ?_⟩
    · rw [exec_headLinkLoss_up hl, State.loseHeadLink_eq, State.loseHeadLink_noFrame hn,
        hold ((s.lost h).modHead h fun x => { x with assembly := .idle }) r hb hx]
      rfl
    · intro u
      have closed : (s.lost h).endAssembly h = u := State.endAssembly_frame (s := s.lost h) ha
      refine ⟨fun r hb hx => ?_, fun hn => ?_⟩
      · rw [exec_headLinkLoss_up hl, State.loseHeadLink_eq, closed, hold u r hb hx]
        rfl
      · rw [exec_headLinkLoss_up hl, State.loseHeadLink_eq, closed, State.holdAtLoss_none hn]
        rfl
  case detail =>
    intro b d ha hb hx hs hd r x z missing due
    have unresolved : (s.lost h).pool.buffers[b].delivery ≠ .resolved := by
      rw [State.lost_pool, hd]
      decide
    have range := State.lost_inRange hu h
    have closed : (s.lost h).endAssembly h = (s.lost h).closeFrame h b d := State.endAssembly_frame ha
    obtain ⟨k, gap⟩ := ((s.lost h).closeFrame h b d).holdAtLoss_gap h
    have record := (State.closeFrame_record (h := h) (d := d) unresolved).eases (gap.buffers b) unresolved
    have outcome := State.closeFrame_outcome unresolved hs hx h
    obtain ⟨assembled, shorts, scanned, -, -⟩ := State.closeFrame_counts (s.lost h) h b d
    obtain ⟨vlatest, vcounters, vdeferred, vpolicy, vreason, vcues, -⟩ := State.lossHold_fields unresolved hs hb ha range
    obtain ⟨ends, goes⟩ := State.lossHold_state unresolved hs hx hb ha range
    obtain ⟨one, two, zero, loss⟩ := State.lossHold_causes unresolved hs hx hb ha range
    have reports : ∀ {c n}, (((s.lost h).closeFrame h b d).holdAtLoss h).Waits .reelHeld r.val c n →
        (s.loseHeadLink h).handOver.Reports .reelHeld r.val c n := by
      intro c n hw
      rw [State.loseHeadLink_eq, closed]
      exact hw.emptyPort (gap.notices (State.closeFrame_keeps h b d range range).1).1 _
    refine ⟨_, exec_headLinkLoss_up hl, ?_⟩
    rw [State.work_buffers (State.loseHeadLink_work s h), State.loseHeadLink_reels, closed]
    intro y isHeavy heavyHold perfHold ended
    have decision : isHeavy ↔ (s.lost h).endsHeavy b = true := by rw [← record.decision]; exact heavyDecision_iff.symm
    have hheavy : heavyHold ↔ (s.lost h).HeavyHold b d := and_congr_left' decision
    refine ⟨record.received, record.badLines, fun hh => ?heavy, fun hh => ?flag, fun hh hp => ?repair,
      State.lossHold_successorHold unresolved hs hx hb ha range, vlatest.trans outcome.latest, ?assembled, ?shorts, ?scanned,
      vdeferred.trans outcome.deferred, vpolicy.trans outcome.policy, fun he => ?ended, fun he => ?goes,
      fun hh => reports (one (hheavy.1 hh)), fun hh hp => reports (two (mt hheavy.2 hh) hp),
      fun hh hp ho => reports (zero (mt hheavy.2 hh) hp ho), fun hh hp ho he => reports (loss ?_ he)⟩
    case heavy =>
      have state := record.state
      rw [if_pos (decision.1 hh)] at state
      exact ⟨record.flag.trans (by rw [decision.1 hh]; rfl), state⟩
    case flag => exact record.flag.trans (by rw [Bool.eq_false_iff.2 (mt decision.2 hh)]; rfl)
    case repair => exact State.lossHold_repair unresolved hs hx hb ha range (Bool.eq_false_iff.2 (mt decision.2 hh)) hp
    case assembled => rw [vcounters, assembled, State.lost_reels]
    case shorts =>
      rw [vcounters, shorts, State.lost_reels, State.lost_pool]
      simp only [List.isEmpty_iff]
      rfl
    case scanned => rw [vcounters, scanned, State.lost_reels, State.lost_pool]
    case ended =>
      obtain ⟨-, reason, cues⟩ := outcome.ended he
      exact ⟨ends he, vreason.trans reason, vcues.trans cues⟩
    case goes =>
      obtain ⟨reason, cues⟩ := outcome.kept he
      exact ⟨goes he, vreason.trans reason, vcues.trans cues⟩
    refine not_or.2 ⟨mt hheavy.2 hh, not_or.2 ⟨hp, fun ⟨e, hm, ht⟩ => ?_⟩⟩
    rw [ho e hm] at ht
    cases ht
  case up =>
    intro fed t
    refine ⟨fun hd hf => ?_, fun hd hf => ?_, fun hu => if_pos (State.isUp_iff.2 hu)⟩
    · rw [exec_headLinkUp_down hd, State.gainHeadLink_fed hf.1 (State.feeding_iff.2 hf.2)]
      rfl
    · rw [exec_headLinkUp_down hd, State.gainHeadLink_unfed fun h => hf ⟨h.1, State.feeding_iff.1 h.2⟩]
      rfl

end Sys2Proof.Machine
end

section
/-! PROOFS. The withdrawal of repair requests and the discard of a buffer (R50, R53, R93). -/

namespace Sys2Proof.Machine

/-! ### Neighbour holds released one by one (R53) -/

/-- A buffer record after `n` neighbour holds are released. -/
def Buffer.lessHeldBy (n : Nat) (x : Buffer) : Buffer := Buffer.lessHeld^[n] x

theorem Buffer.lessHeldBy_add (m n : Nat) (x : Buffer) : x.lessHeldBy (m + n) = (x.lessHeldBy n).lessHeldBy m :=
  Function.iterate_add_apply _ _ _ _

theorem Buffer.lessHeldBy_eases (n : Nat) (x : Buffer) : x.Eases (x.lessHeldBy n) := by
  induction n generalizing x with
  | zero => exact .refl x
  | succ n ih => exact x.lessHeld_eases.trans (ih _)

theorem Buffer.tested_unresolved {x : Buffer} (hd : x.delivery ≠ .resolved) : x.tested = x := if_pos hd

theorem Buffer.lessHeld_unresolved {x : Buffer} (hd : x.delivery ≠ .resolved) :
    x.lessHeld = { x with neighbourHolds := x.neighbourHolds - 1 } := by
  unfold Buffer.lessHeld
  dsimp only
  split <;> [exact tested_unresolved hd; rfl]

/-- A frame whose delivery is not resolved only counts the holds that go. -/
theorem Buffer.lessHeldBy_unresolved (n : Nat) {x : Buffer} (hd : x.delivery ≠ .resolved) :
    x.lessHeldBy n = { x with neighbourHolds := x.neighbourHolds - n } := by
  induction n generalizing x with
  | zero => rfl
  | succ n ih =>
    refine (congrArg (Buffer.lessHeldBy n) (lessHeld_unresolved hd)).trans ((ih (by exact hd)).trans ?_)
    simp only [Nat.sub_sub, Nat.add_comm]

/-- A frame that no hold keeps takes none. -/
theorem Buffer.lessHeldBy_unheld (n : Nat) {x : Buffer} (hs : x.successorHold = false) (hn : x.neighbourHolds = 0) :
    (x.lessHeldBy n).successorHold = false ∧ (x.lessHeldBy n).neighbourHolds = 0 := by
  induction n generalizing x with
  | zero => exact ⟨hs, hn⟩
  | succ n ih =>
    have less : x.lessHeld.successorHold = false ∧ x.lessHeld.neighbourHolds = 0 := by
      refine ⟨x.lessHeld_eases.hold_false hs, ?_⟩
      simp only [Buffer.lessHeld, hn, Nat.zero_sub, ↓reduceIte, Buffer.tested]
      split
      · rfl
      · split <;> rfl
    exact ih less.1 less.2

/-- How often a list of requests names a buffer as prev or next. -/
def namings (qs : List RepairRequest) (k : Buf) : Nat :=
  (qs.countP fun q => decide (q.prev = some k)) + qs.countP fun q => decide (q.next = some k)

section

variable (s : State)

theorem State.releaseNeighbour_get (b k : Buf) : (s.releaseNeighbour b).pool.buffers[k] =
    s.pool.buffers[k].lessHeldBy (if some b = some k then 1 else 0) := by
  rw [State.work_buffers (s.releaseNeighbour_work b), modBuffer_get]
  simp only [Option.some.injEq]
  split <;> rfl

theorem State.releaseNeighbours_get (q : RepairRequest) (k : Buf) : (s.releaseNeighbours q).pool.buffers[k] =
    s.pool.buffers[k].lessHeldBy ((if q.next = some k then 1 else 0) + if q.prev = some k then 1 else 0) := by
  rw [Buffer.lessHeldBy_add]
  unfold State.releaseNeighbours
  cases q.prev <;> cases q.next <;> simp only [State.releaseNeighbour_get] <;> rfl

theorem State.releaseNeighbours_work (q : RepairRequest) : (s.releaseNeighbours q).intake = s.intake ∧
    (s.releaseNeighbours q).repair = s.repair ∧ (s.releaseNeighbours q).delivery = s.delivery ∧
    (s.releaseNeighbours q).wire = s.wire := by
  have one : ∀ (u : State) (b : Buf), (u.releaseNeighbour b).repair = u.repair := fun u b =>
    (State.work_eq_iff.1 (u.releaseNeighbour_work b)).2.2.1
  have eases := State.Eases.releaseNeighbours s q
  refine ⟨eases.intake, ?_, eases.delivery, eases.wire⟩
  unfold State.releaseNeighbours
  cases q.prev <;> cases q.next <;> simp only [one]

theorem foldl_releaseNeighbours_get (qs : List RepairRequest) (s : State) (k : Buf) :
    (qs.foldl State.releaseNeighbours s).pool.buffers[k] = s.pool.buffers[k].lessHeldBy (namings qs k) := by
  induction qs generalizing s with
  | nil => rfl
  | cons q qs ih =>
    refine (ih _).trans ?_
    rw [State.releaseNeighbours_get, ← Buffer.lessHeldBy_add]
    congr 1
    simp only [namings, List.countP_cons, decide_eq_true_eq]
    omega

theorem foldl_releaseNeighbours_repair (qs : List RepairRequest) (s : State) :
    (qs.foldl State.releaseNeighbours s).repair = s.repair := by
  induction qs generalizing s with
  | nil => rfl
  | cons q qs ih => exact (ih _).trans (s.releaseNeighbours_work q).2.1

end

/-! ### The discard of a buffer (R50) -/

/-- The requests for a buffer that wait in the queue. -/
def State.requestsFor (s : State) (b : Buf) : List RepairRequest := s.repair.queue.filter fun q => decide (q.buf = b)

/-- The queue without the requests for a buffer. -/
def State.unqueue (s : State) (b : Buf) : State :=
  { s with repair := { s.repair with queue := s.repair.queue.filter fun q => decide (q.buf ≠ b) } }

/-- The record of a discarded buffer, before its release test. -/
def Buffer.discarded (x : Buffer) : Buffer :=
  { x with delivery := .resolved, resolution := some .discarded, repairTimer := none }

/-- A buffer's request withdrawn and the buffer out of its lane queue, no longer its reel's latest frame. -/
def State.withdrawn (s : State) (b : Buf) : State :=
  (((s.requestsFor b).foldl State.releaseNeighbours (s.unqueue b)).leaveLanes b).forgetLatest b

section

variable (s : State) (b : Buf)

theorem State.discard_eq : s.discard b = ((s.withdrawn b).modBuffer b Buffer.discarded).releaseTest b := rfl

theorem State.withdrawn_get (k : Buf) : (s.withdrawn b).pool.buffers[k] =
    s.pool.buffers[k].lessHeldBy (namings (s.requestsFor b) k) := by
  have forgotten : (s.withdrawn b).pool.buffers =
      (((s.requestsFor b).foldl State.releaseNeighbours (s.unqueue b)).leaveLanes b).pool.buffers :=
    State.work_buffers (State.forgetLatest_work _ b)
  rw [forgotten]
  exact foldl_releaseNeighbours_get _ _ _

/-- The records after a discard. -/
theorem State.discard_get (k : Buf) : (s.discard b).pool.buffers[k] =
    if b = k then (s.pool.buffers[k].lessHeldBy (namings (s.requestsFor b) k)).discarded.tested
    else s.pool.buffers[k].lessHeldBy (namings (s.requestsFor b) k) := by
  rw [State.discard_eq, State.work_buffers (State.releaseTest_work _ b), modBuffer_get, modBuffer_get, State.withdrawn_get]
  split <;> rfl

theorem State.discard_work : (s.discard b).intake = s.intake ∧ (s.discard b).repair = (s.unqueue b).repair ∧
    (s.discard b).delivery = { s.delivery with
      queues := mapEntries (fun _ q => q.filter fun x => decide (x ≠ b)) s.delivery.queues } ∧
    (s.discard b).wire = s.wire := by
  obtain ⟨ti, -, tr, td, tw⟩ := State.work_eq_iff.1
    (State.releaseTest_work ((s.withdrawn b).modBuffer b Buffer.discarded) b)
  obtain ⟨fi, -, fr, fd, fw⟩ := State.work_eq_iff.1
    (State.forgetLatest_work (((s.requestsFor b).foldl State.releaseNeighbours (s.unqueue b)).leaveLanes b) b)
  have eases := State.Eases.foldl State.Eases.releaseNeighbours (s.requestsFor b) (s.unqueue b)
  rw [← State.discard_eq] at ti tr td tw
  refine ⟨ti.trans (fi.trans eases.intake), tr.trans (fr.trans (foldl_releaseNeighbours_repair _ _)), td.trans (fd.trans ?_),
    tw.trans (fw.trans eases.wire)⟩
  have delivery := eases.delivery
  unfold State.leaveLanes
  dsimp only
  rw [delivery]
  rfl

end

end Sys2Proof.Machine
end

section
/-! PROOFS. The lines of a frame that are stored, dropped or counted (R29, R33, R62 to R67). -/

namespace Sys2Proof.Machine

/-! ### The run list (R63, R66, R67) -/

theorem Buffer.addRuns_eq (x : Buffer) (runs : List Run) (n : Nat) : x.addRuns runs n =
    { x with runs := (x.addRuns runs n).runs, overflow := (x.addRuns runs n).overflow, defective := x.defective + n } := rfl

/-- Once the overflow flag is set no run is recorded. -/
theorem Buffer.addRuns_overflown {x : Buffer} (hx : x.overflow = true) (runs : List Run) (n : Nat) :
    (x.addRuns runs n).runs = x.runs ∧ (x.addRuns runs n).overflow = true := by
  simp [Buffer.addRuns, hx]

theorem Buffer.addRuns_fit {x : Buffer} (hx : x.overflow = false) {runs : List Run} (hf : x.runs.length + runs.length ≤ 8192)
    (n : Nat) : (x.addRuns runs n).runs = x.runs ++ runs ∧ (x.addRuns runs n).overflow = false := by
  have all : runs.take (8192 - x.runs.length) = runs := List.take_of_length_le (by omega)
  simp [Buffer.addRuns, Config.maxRuns, hx, all, Nat.not_lt.2 hf]

/-- The runs that fit are recorded, and those past the 8192nd set the flag. -/
theorem Buffer.addRuns_full {x : Buffer} (hx : x.overflow = false) {runs : List Run} (hl : x.runs.length ≤ 8192)
    (hf : 8192 < x.runs.length + runs.length) (n : Nat) :
    (x.addRuns runs n).overflow = true ∧ (x.addRuns runs n).runs.length = 8192 ∧
      ∃ left, (x.addRuns runs n).runs ++ left = x.runs ++ runs := by
  have recorded : (x.addRuns runs n).runs = x.runs ++ runs.take (8192 - x.runs.length) := by
    simp [Buffer.addRuns, Config.maxRuns, hx]
  refine ⟨by simp [Buffer.addRuns, Config.maxRuns, hf], ?_, runs.drop (8192 - x.runs.length), ?_⟩
  · rw [recorded, List.length_append, List.length_take]
    omega
  · rw [recorded, List.append_assoc, List.take_append_drop]

/-! ### A LINE cell on a head port (R29, R33) -/

section

variable {s : State} {h : Head} {c : RxCell} {b : Buf} {d : FrameDesc}

theorem exec_line_up (hu : s.links.ports[headPort h].link = .up) :
    exec (.line h c) s = .next (s.onLine h c).handOver := State.arrival_up hu _

theorem State.onLine_assembling (ha : s.intake.heads[h].assembly = .assembling b d) :
    s.onLine h c = s.takeLine h b d (passesCheck kindLine c) c.payload := by
  unfold State.onLine
  rw [ha]

theorem State.onLine_noFrame (hn : s.NoFrame h) : s.onLine h c = s.strayLine h (passesCheck kindLine c) := by
  unfold State.onLine
  split
  · exact absurd ‹_› (hn _ _)
  · rfl

theorem readLineIndex_long {p : List Byte} (hp : 2 ≤ p.length) : readLineIndex p = fieldAt p 0 2 :=
  if_neg (by omega)

variable {p : List Byte}

theorem State.takeLine_beyond (hl : d.lines ≤ readLineIndex p) (passed : Bool) :
    s.takeLine h b d passed p = if passed then s.oversizeDiscard h b d else s.headCheckFailure h 0 := if_pos hl

theorem State.takeLine_duplicate (hl : readLineIndex p < d.lines) (hr : readLineIndex p ∈ s.pool.buffers[b].received)
    (passed : Bool) : s.takeLine h b d passed p =
      if passed then s.modHead h fun x => { x with duplicateLines := x.duplicateLines + 1 }
      else (s.modHead h fun x => { x with duplicateLines := x.duplicateLines + 1 }).headCheckFailure h 0 :=
  (if_neg (Nat.not_le.2 hl)).trans (if_pos hr)

theorem State.takeLine_fresh (hl : readLineIndex p < d.lines) (hr : readLineIndex p ∉ s.pool.buffers[b].received)
    (passed : Bool) : s.takeLine h b d passed p =
      if passed = false then (s.takeBadLine b (readLineIndex p)).headCheckFailure h 1
      else if fieldAt p 2 2 ≠ d.width then s.takeBadLine b (readLineIndex p)
      else s.takeGoodLine b d.irThreshold (readLineIndex p) (readSamples (p.drop 4)) :=
  (if_neg (Nat.not_le.2 hl)).trans (if_neg hr)

theorem State.strayLine_failed : s.strayLine h false = (s.modHead h fun x => { x with
    sunkCells := x.sunkCells + 1, checkFailures := x.checkFailures + 1 }).raise .cellCheck h.val none 0 :=
  congrArg (fun t : State => t.raise .cellCheck h.val none 0) (modHead_modHead s h _ _)

end

/-- A LINE cell that is not oversize: taken or dropped by the first test that applies (R29, R64). -/
theorem exec_line_taken (s : State) (h : Head) (c : RxCell) (b : Buf) (d : FrameDesc)
    (hu : s.links.ports[headPort h].link = .up) (ha : s.intake.heads[h].assembly = .assembling b d)
    (hp : 2 ≤ c.payload.length) (l : Nat) (hl : fieldAt c.payload 0 2 = l) :
    (d.lines ≤ l → passesCheck kindLine c = false → exec (.line h c) s = .next (s.headCheckFailure h 0).handOver) ∧
    (l < d.lines → l ∈ s.pool.buffers[b].received → exec (.line h c) s = .next
      (if passesCheck kindLine c then s.modHead h fun x => { x with duplicateLines := x.duplicateLines + 1 }
       else (s.modHead h fun x => { x with duplicateLines := x.duplicateLines + 1 }).headCheckFailure h 0).handOver) ∧
    (l < d.lines → l ∉ s.pool.buffers[b].received → passesCheck kindLine c = false →
      exec (.line h c) s = .next ((s.takeBadLine b l).headCheckFailure h 1).handOver) ∧
    (l < d.lines → l ∉ s.pool.buffers[b].received → passesCheck kindLine c = true → fieldAt c.payload 2 2 ≠ d.width →
      exec (.line h c) s = .next (s.takeBadLine b l).handOver) ∧
    (l < d.lines → l ∉ s.pool.buffers[b].received → passesCheck kindLine c = true → fieldAt c.payload 2 2 = d.width →
      exec (.line h c) s = .next (s.takeGoodLine b d.irThreshold l (readSamples (c.payload.drop 4))).handOver) := by
  have index : readLineIndex c.payload = l := (readLineIndex_long hp).trans hl
  have arrives : exec (.line h c) s = .next (s.takeLine h b d (passesCheck kindLine c) c.payload).handOver := by
    rw [exec_line_up hu, State.onLine_assembling ha]
  rw [arrives]
  subst index
  refine ⟨fun hl hc => ?beyond, fun hl hr => ?duplicate, fun hl hr hc => ?bad, fun hl hr hc hw => ?wide,
    fun hl hr hc hw => ?good⟩
  case beyond => rw [State.takeLine_beyond hl, hc]; rfl
  case duplicate => rw [State.takeLine_duplicate hl hr]
  case bad => rw [State.takeLine_fresh hl hr, if_pos hc]
  case wide => rw [State.takeLine_fresh hl hr, if_neg (by rw [hc]; decide), if_pos hw]
  case good => rw [State.takeLine_fresh hl hr, if_neg (by rw [hc]; decide), if_neg (not_not_intro hw)]

end Sys2Proof.Machine
end

section
/-! PROOFS. An oversize line discards the frame in hand (R27, R30, R50), and the statement about LINE cells (O39). -/

namespace Sys2Proof.Machine

/-! ### The latest frame of a reel through releases and discards (R50, R54, R55) -/

/-- A latest frame that stands or is no more. -/
def KeptOrLost (x y : Option Buf) : Prop := y = x ∨ y = none

theorem KeptOrLost.trans {x y z : Option Buf} (h : KeptOrLost x y) (h' : KeptOrLost y z) : KeptOrLost x z := by
  obtain rfl | rfl := h
  · exact h'
  · exact .inr (h'.elim id id)

/-- Reel `r` comes out with no change but its close and the loss of its latest frame, which then carries no successor hold; and no
frame comes by a successor hold. -/
structure State.Lets (r : Slot) (s t : State) : Prop where
  settles : s.reels[r].Settles t.reels[r]
  latest : ∀ k : Buf, s.reels[r].latest = some k →
    t.reels[r].latest = some k ∨ t.reels[r].latest = none ∧ t.pool.buffers[k].successorHold = false
  unset : s.reels[r].latest = none → t.reels[r].latest = none
  holds : ∀ k : Buf, s.pool.buffers[k].successorHold = false → t.pool.buffers[k].successorHold = false

section

variable {r : Slot} {s t u : State}

theorem State.Lets.trans (h : s.Lets r t) (h' : t.Lets r u) : s.Lets r u where
  settles := h.settles.trans h'.settles
  latest k hk := by
    obtain hl | ⟨hl, hh⟩ := h.latest k hk
    · exact h'.latest k hl
    · exact .inr ⟨h'.unset hl, h'.holds k hh⟩
  unset hn := h'.unset (h.unset hn)
  holds k hk := h'.holds k (h.holds k hk)

theorem State.Eases.lets (h : s.Eases t) (r : Slot) : s.Lets r t where
  settles := ⟨h.kept r, h.state r⟩
  latest k hk := by
    obtain hl | ⟨hl, i, hi, -, hh⟩ := h.latest r
    · exact .inl (hl.trans hk)
    · rw [hk, Option.some.injEq] at hi
      exact .inr ⟨hl, hi ▸ hh⟩
  unset hn := by
    obtain hl | ⟨hl, -⟩ := h.latest r
    · exact hl.trans hn
    · exact hl
  holds k hk := (h.buffers k).hold_false hk

/-- A step that leaves the reels and the records' holds alone. -/
theorem State.Lets.of_same (hr : t.reels[r] = s.reels[r])
    (hb : ∀ k : Buf, t.pool.buffers[k].successorHold = s.pool.buffers[k].successorHold) : s.Lets r t where
  settles := by rw [hr]; exact ⟨rfl, .inl rfl⟩
  latest k hk := .inl (by rw [hr, hk])
  unset hn := by rw [hr, hn]
  holds k hk := (hb k).trans hk

theorem State.Lets.latest_kept (h : s.Lets r t) : KeptOrLost s.reels[r].latest t.reels[r].latest := by
  cases hl : s.reels[r].latest with
  | none => exact .inr (h.unset hl)
  | some k => exact (h.latest k hl).imp_right (·.1)

/-- A frame without a successor hold is no longer its reel's latest frame. -/
theorem State.Lets.forgetLatest {b : Buf} (hb : s.pool.buffers[b].successorHold = false) : s.Lets r (s.forgetLatest b) := by
  have buffers : (s.forgetLatest b).pool.buffers = s.pool.buffers := State.work_buffers (s.forgetLatest_work b)
  by_cases hf : s.reels[s.pool.buffers[b].slot].latest = some b ∧ s.pool.buffers[b].slot = r
  · obtain ⟨hl, hr⟩ := hf
    have entry : (s.forgetLatest b).reels[r] = { s.reels[r] with latest := none } := by
      unfold State.forgetLatest
      dsimp only
      rw [if_pos hl, hr]
      exact State.modReel_get_self s r _
    subst hr
    refine ⟨by rw [entry]; exact ⟨rfl, .inl rfl⟩, fun k hk => .inr ⟨by rw [entry], ?_⟩, fun _ => by rw [entry],
      fun k hk => by rwa [buffers]⟩
    obtain rfl := Option.some.inj (hl.symm.trans hk)
    rwa [buffers]
  · refine .of_same ?_ fun k => by rw [buffers]
    unfold State.forgetLatest
    dsimp only
    split
    · rename_i hl
      exact (State.modReel_get s _ r _).trans (if_neg fun hr => hf ⟨hl, hr⟩)
    · rfl

theorem State.Lets.modBuffer {b : Buf} {f : Buffer → Buffer} (hf : ∀ x, (f x).successorHold = x.successorHold) :
    s.Lets r (s.modBuffer b f) := .of_same rfl fun k => by
  rw [modBuffer_get]
  split <;> [exact hf _; rfl]

theorem State.Lets.leaveLanes (s : State) (r : Slot) (b : Buf) : s.Lets r (s.leaveLanes b) := .of_same rfl fun _ => rfl

/-- A frame without a successor hold is discarded (R50). -/
theorem State.Lets.discard {b : Buf} (hb : s.pool.buffers[b].successorHold = false) : s.Lets r (s.discard b) := by
  have released := (State.Eases.foldl State.Eases.releaseNeighbours (s.requestsFor b) (s.unqueue b)).lets r
  have out : s.Lets r (((s.requestsFor b).foldl State.releaseNeighbours (s.unqueue b)).leaveLanes b) :=
    (State.Lets.of_same rfl fun _ => rfl : s.Lets r (s.unqueue b)).trans (released.trans (.leaveLanes _ r b))
  have withdrawn : s.Lets r (s.withdrawn b) := by
    unfold State.withdrawn
    exact out.trans (.forgetLatest (out.holds b hb))
  rw [State.discard_eq]
  exact withdrawn.trans ((State.Lets.modBuffer (f := Buffer.discarded) fun _ => rfl).trans ((State.Eases.releaseTest _ b).lets r))

end

/-! ### The latest frame through the orders of a gap (R16) -/

section

variable {r : Slot} (s : State)

theorem State.modReel_latest (s : State) (r : Slot) {f : Reel → Reel} (hf : ∀ x, (f x).latest = x.latest) :
    (s.modReel r f).reels[r].latest = s.reels[r].latest := by
  rw [State.modReel_get_self, hf]

theorem State.takeHold_latest (cause : Nat) : KeptOrLost s.reels[r].latest (s.takeHold r cause).reels[r].latest := by
  by_cases hx : s.reels[r].state = .mounted ∨ s.reels[r].state = .running
  · rw [State.takeHold_eq s r hx, ← State.halted_latest s r cause]
    exact ((State.Eases.discardedNext (s.halted r cause) r).lets r).latest_kept
  · rw [State.takeHold_none s r hx]
    exact .inl rfl

theorem State.enterDraining_latest (why : CloseReason) : KeptOrLost s.reels[r].latest (s.enterDraining r why).reels[r].latest := by
  have eases := ((State.Eases.discardedNext (s.modReel r (Reel.drained why)) r).trans (.closeIfEmpty _ r)).lets r
  have entry : (s.modReel r (Reel.drained why)).reels[r].latest = s.reels[r].latest :=
    State.modReel_latest s r fun _ => rfl
  rw [← entry]
  exact eases.latest_kept

theorem applyDeferred_latest (l : List Deferred) (s : State) :
    KeptOrLost s.reels[r].latest (applyDeferred r l s).reels[r].latest := by
  induction l generalizing s with
  | nil => exact .inl rfl
  | cons e l ih =>
    cases e with
    | holdReel g => exact (State.takeHold_latest s 0).trans (ih _)
    | setPolicy g p =>
      have entry : (s.applyPolicy r p).reels[r].latest = s.reels[r].latest :=
        State.modReel_latest s r fun _ => rfl
      exact KeptOrLost.trans (.inl entry) (ih _)
    | unmountEnd g => exact State.enterDraining_latest s .unmount

theorem State.applyDeferredOrders_latest : KeptOrLost s.reels[r].latest (s.applyDeferredOrders r).reels[r].latest := by
  have entry : (s.modReel r fun x => { x with deferred := [] }).reels[r].latest = s.reels[r].latest :=
    State.modReel_latest s r fun _ => rfl
  rw [← entry]
  exact applyDeferred_latest _ _

end

end Sys2Proof.Machine
end

section
/-! PROOFS. The frame gap of an oversize line, and the statement about LINE cells (O39). -/

namespace Sys2Proof.Machine

/-! ### The records after a discard (R50) -/

section

variable {s : State} {b : Buf}

/-- A frame that no hold keeps is FREE once it is discarded. -/
theorem State.discard_free (hs : s.pool.buffers[b].successorHold = false) (hn : s.pool.buffers[b].neighbourHolds = 0) :
    (s.discard b).pool.buffers[b].state = .free ∧ (s.discard b).pool.buffers[b].delivery = .neverSent := by
  obtain ⟨hold, holds⟩ := Buffer.lessHeldBy_unheld (namings (s.requestsFor b) b) hs hn
  rw [State.discard_get, if_pos rfl]
  generalize s.pool.buffers[b].lessHeldBy (namings (s.requestsFor b) b) = x at hold holds
  have released : x.discarded.tested = x.discarded.released := by
    simp [Buffer.tested, Buffer.discarded, Buffer.held, hold, holds]
  rw [released]
  exact ⟨rfl, rfl⟩

theorem State.discard_other (s : State) {b k : Buf} (hk : b ≠ k) : s.pool.buffers[k].Eases (s.discard b).pool.buffers[k] := by
  rw [State.discard_get, if_neg hk]
  exact Buffer.lessHeldBy_eases _ _

/-- Another frame whose delivery is not resolved keeps its state. -/
theorem State.discard_unresolved {k : Buf} (hk : b ≠ k) (hd : s.pool.buffers[k].delivery ≠ .resolved) :
    (s.discard b).pool.buffers[k].state = s.pool.buffers[k].state ∧
      (s.discard b).pool.buffers[k].delivery = s.pool.buffers[k].delivery := by
  rw [State.discard_get, if_neg hk, Buffer.lessHeldBy_unresolved _ hd]
  exact ⟨rfl, rfl⟩

/-- A frame is PENDING after a discard only if it was. -/
theorem Buffer.Eases.pending {x y : Buffer} (h : x.Eases y) (hy : y.state = .pending) : x.state = .pending := by
  obtain hs | ⟨-, hs⟩ | ⟨-, hs⟩ := h.state
  · rw [← hs, hy]
  · rw [hy] at hs
    cases hs
  · rw [hy] at hs
    exact absurd hs (by decide)

/-- The PENDING frame of a reel is its PENDING frame still when another is discarded. -/
theorem State.discard_pendingFrame {r : Slot} {k : Buf} (hf : (s.discard b).pool.buffers[b].state = .free) (hk : b ≠ k)
    (hs : s.pool.buffers[k].state = .pending) (hr : s.pool.buffers[k].slot = r)
    (hl : ∀ i : Buf, i < k → ¬ (s.pool.buffers[i].state = .pending ∧ s.pool.buffers[i].slot = r))
    (hd : s.pool.buffers[k].delivery ≠ .resolved) : (s.discard b).pendingFrame r = some k := by
  refine firstEntry_eq_some (decide_eq_true ⟨(discard_unresolved hk hd).1.trans hs, (s.discard_other hk).slot.trans hr⟩)
    fun i hi => decide_eq_false ?_
  rintro ⟨his, hir⟩
  by_cases hib : b = i
  · subst hib
    rw [hf] at his
    cases his
  · have eases := s.discard_other hib
    exact hl i hi ⟨eases.pending his, eases.slot.symm.trans hir⟩

end

/-! ### The gap of an oversize line (R16, R27, R30) -/

section

variable (s : State) (h : Head) (b : Buf) (r : Slot)

/-- One more frame of reel `r` discarded as oversize. -/
def State.countOversize : State := s.countReel r fun c => { c with discardedOversize := c.discardedOversize + 1 }

/-- The frame in hand counted as oversize and discarded, and the head SINKING: the discard up to its gap. -/
def State.oversized : State :=
  ((s.countOversize r).discard b).sinkFrame h

theorem State.oversizeDiscard_eq (d : FrameDesc) :
    s.oversizeDiscard h b d = ((s.oversized h b d.slot).discardedNext d.slot).applyDeferredOrders d.slot := rfl

theorem State.countOversize_get : (s.countOversize r).reels[r] = { s.reels[r] with
    counters := { s.reels[r].counters with discardedOversize := s.reels[r].counters.discardedOversize + 1 } } :=
  State.modReel_get_self s r _

theorem State.oversized_buffers : (s.oversized h b r).pool.buffers =
    ((s.countOversize r).discard b).pool.buffers := rfl

theorem State.oversized_intake : (s.oversized h b r).intake =
    { s.intake with heads := modEntry s.intake.heads h fun x => { x with assembly := .sinking } } := by
  have intake := (State.discard_work (s.countOversize r) b).1
  exact congrArg (fun i : Intake => { i with heads := modEntry i.heads h fun x => { x with assembly := .sinking } }) intake

theorem State.oversized_wire : (s.oversized h b r).wire = s.wire := (State.discard_work _ b).2.2.2

theorem State.sinkFrame_lets (s : State) (r : Slot) (h : Head) : s.Lets r (s.sinkFrame h) := .of_same rfl fun _ => rfl

variable {s b}

theorem State.oversized_lets (hb : s.pool.buffers[b].successorHold = false) :
    (s.countOversize r).Lets r (s.oversized h b r) :=
  (State.Lets.discard (s := s.countOversize r) hb).trans (State.sinkFrame_lets _ r h)

/-- What the oversize discard does to the reel, to the frames and to the rest. -/
structure State.OversizeGap (s : State) (r : Slot) (b : Buf) (t : State) : Prop where
  free : t.pool.buffers[b].state = .free
  reel : (Reel.afterOrders { s.reels[r] with
    counters := { s.reels[r].counters with discardedOversize := s.reels[r].counters.discardedOversize + 1 } }).Settles t.reels[r]
  latest : KeptOrLost s.reels[r].latest t.reels[r].latest
  pending : ∀ k : Buf, b ≠ k → s.pool.buffers[k].state = .pending → s.pool.buffers[k].slot = r →
    (∀ i : Buf, i < k → ¬ (s.pool.buffers[i].state = .pending ∧ s.pool.buffers[i].slot = r)) →
    s.pool.buffers[k].delivery ≠ .resolved →
    t.pool.buffers[k].state = .repair ∧ ∃ q, t.Requested q ∧ q.buf = k ∧ q.next = none
  unheld : ∀ k : Buf, s.reels[r].latest = some k → t.pool.buffers[k].successorHold = false

theorem State.oversizeDiscard_gap (h : Head) {d : FrameDesc} (hs : s.pool.buffers[b].successorHold = false)
    (hn : s.pool.buffers[b].neighbourHolds = 0) : s.OversizeGap d.slot b (s.oversizeDiscard h b d) := by
  obtain ⟨free, unsent⟩ := State.discard_free
    (s := s.countOversize d.slot) hs hn
  have lets := State.oversized_lets h d.slot hs
  have counted : (s.countOversize d.slot).reels[d.slot].latest =
      s.reels[d.slot].latest := State.modReel_latest s d.slot fun _ => rfl
  have eases := State.Eases.discardedNext (s.oversized h b d.slot) d.slot
  have quieted := State.discardedNext_quieted (s.oversized h b d.slot) d.slot
  have orders := State.Turns.applyDeferredOrders ((s.oversized h b d.slot).discardedNext d.slot) d.slot
  rw [State.oversizeDiscard_eq]
  have all (k : Buf) := (eases.buffers k).trans (orders.gap.buffers k)
  refine ⟨?free, ?reel, ?latest, fun k hk hp hr hl hd => ?pending, fun k hk => ?unheld⟩
  case free =>
    rw [← State.oversized_buffers s h] at free unsent
    exact ((all b).state_eq (by rw [unsent]; decide) (by rw [free]; decide)).trans free
  case reel =>
    have settles := (lets.trans (eases.lets d.slot)).settles
    rw [State.countOversize_get] at settles
    exact (Reel.afterOrders_settles _ _ settles).trans orders.settles
  case latest =>
    have before := (lets.trans (eases.lets d.slot)).latest_kept
    rw [counted] at before
    exact before.trans (State.applyDeferredOrders_latest _)
  case pending =>
    have first : (s.oversized h b d.slot).pendingFrame d.slot = some k :=
      (State.pendingFrame_congr (State.oversized_buffers s h b d.slot)).trans
        (State.discard_pendingFrame free hk hp hr hl hd)
    have stands := (State.discard_unresolved
      (s := s.countOversize d.slot) hk hd).2
    rw [← State.oversized_buffers s h] at stands
    obtain ⟨state, -, q, hq⟩ := (quieted.gap orders.gap).pending k first (by rw [stands]; exact hd)
    exact ⟨state, q, hq⟩
  case unheld =>
    obtain hl | ⟨-, hl⟩ := lets.latest k (counted.trans hk)
    · exact (quieted.gap orders.gap).latest k hl
    · exact (all k).hold_false hl

theorem State.oversizeDiscard_intake (s : State) (h : Head) (b : Buf) (d : FrameDesc) : (s.oversizeDiscard h b d).intake =
    { s.intake with heads := modEntry s.intake.heads h fun x => { x with assembly := .sinking } } := by
  rw [State.oversizeDiscard_eq]
  exact (State.Turns.applyDeferredOrders _ d.slot).gap.intake.trans
    ((State.Eases.discardedNext _ d.slot).intake.trans (s.oversized_intake h b d.slot))

theorem State.oversizeDiscard_wire (s : State) (h : Head) (b : Buf) (d : FrameDesc) : (s.oversizeDiscard h b d).wire = s.wire := by
  rw [State.oversizeDiscard_eq]
  exact (State.Turns.applyDeferredOrders _ d.slot).gap.wire.trans
    ((State.Eases.discardedNext _ d.slot).wire.trans (s.oversized_wire h b d.slot))

end

/-! ### The reel after its deferred orders, in the words of the statements (R16) -/

/-- What the deferred orders leave of the fields that a gap does not touch. -/
theorem Reel.afterOrders_fields (x : Reel) : x.afterOrders.counters = x.counters ∧ x.afterOrders.lastOpened = x.lastOpened ∧
    x.afterOrders.lastOffset = x.lastOffset ∧ x.afterOrders.shrinkEstimate = x.shrinkEstimate ∧
    x.afterOrders.perfRun = x.perfRun := by
  have lasting : x.afterOrders.lasting = x.lasting := Reel.afterDeferred_lasting x.deferred { x with deferred := [] }
  exact ⟨(congrArg Reel.counters lasting : (Reel.lasting _).counters = _),
    (congrArg Reel.lastOpened lasting : (Reel.lasting _).lastOpened = _),
    (congrArg Reel.lastOffset lasting : (Reel.lasting _).lastOffset = _),
    (congrArg Reel.shrinkEstimate lasting : (Reel.lasting _).shrinkEstimate = _),
    (congrArg Reel.perfRun lasting : (Reel.lasting _).perfRun = _)⟩

theorem Reel.afterOrders_deferred (x : Reel) : x.afterOrders.deferred = [] := by
  by_cases hl : ∃ e ∈ x.deferred, e.ends = true
  · exact (Reel.afterDeferred_ends hl _).2.2.2
  · exact (Reel.afterDeferred_goes (by simpa using hl) { x with deferred := [] }).2.2.1

theorem Reel.Settles.kept_fields {x y : Reel} (h : x.Settles y) : y.counters = x.counters ∧ y.lastOpened = x.lastOpened ∧
    y.lastOffset = x.lastOffset ∧ y.shrinkEstimate = x.shrinkEstimate ∧ y.perfRun = x.perfRun ∧ y.deferred = x.deferred ∧
    y.closeReason = x.closeReason := by
  have kept := h.kept
  exact ⟨(congrArg Reel.counters kept : y.kept.counters = _), (congrArg Reel.lastOpened kept : y.kept.lastOpened = _),
    (congrArg Reel.lastOffset kept : y.kept.lastOffset = _), (congrArg Reel.shrinkEstimate kept : y.kept.shrinkEstimate = _),
    (congrArg Reel.perfRun kept : y.kept.perfRun = _), (congrArg Reel.deferred kept : y.kept.deferred = _),
    (congrArg Reel.closeReason kept : y.kept.closeReason = _)⟩

theorem Reel.Settles.state_eq {x y : Reel} (h : x.Settles y) (hx : x.state ≠ .draining) : y.state = x.state :=
  h.state.resolve_right fun hs => hx hs.1

theorem Reel.Settles.draining {x y : Reel} (h : x.Settles y) (hx : x.state = .draining) : y.state ∈ [.draining, .closed, .free] := by
  obtain hs | ⟨-, hs⟩ := h.state
  · rw [hs, hx]
    decide
  · exact List.mem_cons_of_mem _ hs

end Sys2Proof.Machine
end

section
/-! PROOFS. The statement about LINE cells (O39). -/

namespace Sys2Proof.Machine

/-- The reel after its deferred orders, one case per kind of order that stands among them (R16). -/
theorem Reel.afterOrders_state {x : Reel} (hx : x.state = .running) :
    ((∀ e ∈ x.deferred, e.ends = false) → (∀ e ∈ x.deferred, e.holds = false) → x.afterOrders.state = .running) ∧
    ((∀ e ∈ x.deferred, e.ends = false) → (∃ e ∈ x.deferred, e.holds = true) → x.afterOrders.state = .held) ∧
    ((∃ e ∈ x.deferred, e.ends = true) →
      x.afterOrders.state = .draining ∧ x.afterOrders.closeReason = some .unmount) := by
  refine ⟨fun he hh => ?goes, fun he hh => ?holds, fun he => ?ends⟩
  case goes => exact ((Reel.afterDeferred_goes he { x with deferred := [] }).2.2.2.2 (.inl hh)).trans hx
  case holds => exact (Reel.afterDeferred_goes he { x with deferred := [] }).2.2.2.1 hh (.inr hx)
  case ends =>
    obtain ⟨state, reason, -, -⟩ := Reel.afterDeferred_ends he { x with deferred := [] }
    exact ⟨state, reason⟩

/-- A LINE cell that passes its check holds the two fields before its samples (R176). -/
theorem four_le_of_passesLine {c : RxCell} (hc : passesCheck kindLine c = true) : 4 ≤ c.payload.length := by
  have layout : fitsLayout kindLine c.payload = true := by
    unfold passesCheck at hc
    exact (Bool.and_eq_true_iff.1 hc).2
  have line : fitsLayout kindLine c.payload =
      decide (4 ≤ c.payload.length ∧ c.payload.length = 4 + 8 * fieldAt c.payload 2 2) :=
    (if_neg (by decide)).trans (if_pos rfl)
  rw [line] at layout
  exact (of_decide_eq_true layout).1

/-- One more frame of a reel discarded as oversize. -/
def Reel.oversized (x : Reel) : Reel :=
  { x with counters := { x.counters with discardedOversize := x.counters.discardedOversize + 1 } }

/-- A RUNNING reel after the gap of an oversize line. -/
theorem Reel.oversized_settles {x y : Reel} (hx : x.state = .running) (h : x.oversized.afterOrders.Settles y) :
    (y.counters = { x.counters with discardedOversize := x.counters.discardedOversize + 1 } ∧ y.lastOpened = x.lastOpened ∧
      y.lastOffset = x.lastOffset ∧ y.shrinkEstimate = x.shrinkEstimate ∧ y.perfRun = x.perfRun ∧ y.deferred = []) ∧
    ((∀ e ∈ x.deferred, e.ends = false) → (∀ e ∈ x.deferred, e.holds = false) → y.state = .running) ∧
    ((∀ e ∈ x.deferred, e.ends = false) → (∃ e ∈ x.deferred, e.holds = true) → y.state = .held) ∧
    ((∃ e ∈ x.deferred, e.ends = true) → y.state ∈ [.draining, .closed, .free] ∧ y.closeReason = some .unmount) := by
  obtain ⟨counters, lastOpened, lastOffset, estimate, run, deferred, reason⟩ := h.kept_fields
  obtain ⟨counters', lastOpened', lastOffset', estimate', run'⟩ := x.oversized.afterOrders_fields
  obtain ⟨goes, holds, ends⟩ := Reel.afterOrders_state (x := x.oversized) hx
  refine ⟨⟨counters.trans counters', lastOpened.trans lastOpened', lastOffset.trans lastOffset', estimate.trans estimate',
    run.trans run', deferred.trans (Reel.afterOrders_deferred _)⟩, fun he hh => ?running, fun he hh => ?held,
    fun he => ?ended⟩
  case running =>
    have state := goes he hh
    exact (h.state_eq (by rw [state]; decide)).trans state
  case held =>
    have state := holds he hh
    exact (h.state_eq (by rw [state]; decide)).trans state
  case ended =>
    obtain ⟨state, why⟩ := ends he
    exact ⟨h.draining state, reason.trans why⟩

theorem State.settings_of_standing {s t : State} (h : t.standing = s.standing) : t.settings = s.settings :=
  congrArg Standing.settings h

theorem exec_line_oversize {s : State} {h : Head} {c : RxCell} {b : Buf} {d : FrameDesc}
    (hu : s.links.ports[headPort h].link = .up) (ha : s.intake.heads[h].assembly = .assembling b d)
    (hc : passesCheck kindLine c = true) (hl : d.lines ≤ fieldAt c.payload 0 2) :
    exec (.line h c) s = .next (s.oversizeDiscard h b d).handOver := by
  have four := four_le_of_passesLine hc
  rw [← readLineIndex_long (by omega)] at hl
  rw [exec_line_up hu, State.onLine_assembling ha, State.takeLine_beyond hl, if_pos hc]

/-- Settles O39, by the first test that applies and, for an oversize line, through the discard and its frame gap. -/
theorem lineIsTakenByTheFirstTest : Obligations.LineIsTakenByTheFirstTest := by
  unfold Obligations.LineIsTakenByTheFirstTest
  refine ⟨fun s h c b d hu ha hp => ?taken, fun s h c hu hn => ?stray, fun x runs n => ?runs,
    fun s h c b d hu ha hc hl hb hh hn hr => ?oversize⟩
  case taken =>
    obtain ⟨dropped, duplicate, bad, wide, good⟩ := exec_line_taken s h c b d hu ha hp _ rfl
    exact ⟨dropped, duplicate, bad, wide, good⟩
  case stray =>
    have arrives : exec (.line h c) s = .next (s.strayLine h (passesCheck kindLine c)).handOver := by
      rw [exec_line_up hu, State.onLine_noFrame hn]
    refine ⟨fun hc => ?_, fun hc => ?_⟩
    · rw [arrives, hc]
      rfl
    · rw [arrives, hc, State.strayLine_failed]
      rfl
  case runs =>
    exact ⟨x.addRuns_eq runs n, fun hx => Buffer.addRuns_overflown hx runs n, fun hx hf => Buffer.addRuns_fit hx hf n,
      fun hx hl hf => Buffer.addRuns_full hx hl hf n⟩
  case oversize =>
    obtain ⟨free, reel, latest, pending, unheld⟩ := State.oversizeDiscard_gap h (d := d) hh hn
    obtain ⟨⟨counters, lastOpened, lastOffset, estimate, run, deferred⟩, running, held, ended⟩ := Reel.oversized_settles hr reel
    have heads (k : Head) : (s.oversizeDiscard h b d).intake.heads[k] =
        if h = k then { s.intake.heads[k] with assembly := .sinking } else s.intake.heads[k] := by
      rw [State.oversizeDiscard_intake]
      exact modEntry_get _ _ _ _
    refine ⟨_, exec_line_oversize hu ha hc hl, ?_⟩
    rw [State.handOver_buffers, State.handOver_intake, State.handOver_reels, State.handOver_wire, State.handOver_dram,
      State.handOver_settings, State.handOver_repair]
    refine ⟨free, (heads h).trans (if_pos rfl), fun k hk => (heads k).trans (if_neg hk.symm), counters, lastOpened, lastOffset,
      estimate, run, latest, fun k hp hk hf hd => ?pending, unheld, deferred, running, held, ended, s.oversizeDiscard_wire h b d,
      s.oversizeDiscard_dram h b d, State.settings_of_standing (s.oversizeDiscard_standing h b d)⟩
    case pending =>
      have other : b ≠ k := fun hbk => by
        subst hbk
        rw [hb] at hp
        cases hp
      obtain ⟨state, q, hq, hbuf, hnext⟩ := pending k other hp hk hf (by rw [hd]; decide)
      refine ⟨state, hq.imp (fun hq => ⟨q, hq, hbuf, hnext⟩) ?_⟩
      rintro ⟨job, hj, rfl⟩
      exact ⟨job, hj, hbuf, hnext⟩

end Sys2Proof.Machine
end

section
/-! PROOFS. Buffer records through the releases of holds (R52 to R55), and one buffer of an abort (R18, R93). -/

namespace Sys2Proof.Machine

/-! ### Records that only lose holds (R52 to R54) -/

/-- What the release of holds may do to a buffer record: its state changes only by a release test. -/
structure Buffer.Fades (x y : Buffer) : Prop where
  eases : x.Eases y
  state : y.state = x.state ∨ x.delivery = .resolved ∧ y.state ∈ [.free, .done]

theorem Buffer.Fades.refl (x : Buffer) : x.Fades x := ⟨.refl x, .inl rfl⟩

theorem Buffer.Fades.trans {x y z : Buffer} (h : x.Fades y) (h' : y.Fades z) : x.Fades z := by
  refine ⟨h.eases.trans h'.eases, ?_⟩
  by_cases hd : x.delivery = .resolved
  · obtain hz | ⟨-, hz⟩ := h'.state
    · rw [hz]
      exact h.state.imp_right fun hy => ⟨hd, hy.2⟩
    · exact .inr ⟨hd, hz⟩
  · have hy := h.state.resolve_right fun hy => hd hy.1
    have unresolved : y.delivery ≠ .resolved := by rwa [h.eases.delivery_eq hd]
    exact .inl ((h'.state.resolve_right fun hz => unresolved hz.1).trans hy)

/-- A frame whose delivery is not resolved keeps its state. -/
theorem Buffer.Fades.unresolved {x y : Buffer} (h : x.Fades y) (hd : x.delivery ≠ .resolved) :
    y.state = x.state ∧ y.delivery ≠ .resolved :=
  ⟨h.state.resolve_right fun hy => hd hy.1, by rwa [h.eases.delivery_eq hd]⟩

/-- A frame that is FREE or DONE is so still. -/
theorem Buffer.Eases.settled {x y : Buffer} (h : x.Eases y) (hx : x.state ∈ [.free, .done]) : y.state ∈ [.free, .done] := by
  obtain hs | ⟨hp, -⟩ | ⟨-, hs⟩ := h.state
  · rwa [hs]
  · rw [hp] at hx
    exact absurd hx (by decide)
  · exact hs

theorem Buffer.tested_fades (x : Buffer) : x.Fades x.tested := by
  refine ⟨x.tested_eases, ?_⟩
  unfold Buffer.tested
  split
  · exact .inl rfl
  · rename_i hd
    refine .inr ⟨not_not.1 hd, ?_⟩
    split
    · exact List.mem_cons_of_mem _ List.mem_cons_self
    · exact List.mem_cons_self

theorem Buffer.unheld_fades (x : Buffer) : x.Fades x.unheld := by
  refine ⟨x.unheld_eases, ?_⟩
  unfold Buffer.unheld
  split
  · exact (Buffer.tested_fades _).state
  · exact .inl rfl

theorem Buffer.lessHeld_fades (x : Buffer) : x.Fades x.lessHeld := by
  refine ⟨x.lessHeld_eases, ?_⟩
  unfold Buffer.lessHeld
  dsimp only
  split
  · exact (Buffer.tested_fades _).state
  · exact .inl rfl

theorem Buffer.lessHeldBy_fades (n : Nat) (x : Buffer) : x.Fades (x.lessHeldBy n) := by
  induction n generalizing x with
  | zero => exact .refl x
  | succ n ih => exact x.lessHeld_fades.trans (ih _)

theorem Buffer.tested_released {x : Buffer} (hd : x.delivery = .resolved) (hh : x.held = false) : x.tested = x.released := by
  simp [Buffer.tested, hd, hh]

/-- A resolved frame that a neighbour hold still keeps. -/
theorem Buffer.lessHeldBy_held {n : Nat} {x : Buffer} (hn : n < x.neighbourHolds) :
    x.lessHeldBy n = { x with neighbourHolds := x.neighbourHolds - n } := by
  induction n generalizing x with
  | zero => rfl
  | succ n ih =>
    have less : x.lessHeld = { x with neighbourHolds := x.neighbourHolds - 1 } :=
      if_neg (by dsimp only; omega)
    refine (congrArg (Buffer.lessHeldBy n) less).trans ((ih (by dsimp only; omega)).trans ?_)
    simp only [Nat.sub_sub, Nat.add_comm]

/-- A resolved frame whose last hold goes is FREE. -/
theorem Buffer.lessHeldBy_freed {n : Nat} {x : Buffer} (hd : x.delivery = .resolved) (hs : x.successorHold = false)
    (hx : 0 < x.neighbourHolds) (hn : x.neighbourHolds ≤ n) : (x.lessHeldBy n).state = .free := by
  obtain ⟨m, rfl⟩ : ∃ m, n = m + 1 + (x.neighbourHolds - 1) := ⟨n - x.neighbourHolds, by omega⟩
  have first : x.lessHeldBy (x.neighbourHolds - 1) = { x with neighbourHolds := x.neighbourHolds - (x.neighbourHolds - 1) } :=
    Buffer.lessHeldBy_held (by omega)
  have last : Buffer.lessHeld { x with neighbourHolds := x.neighbourHolds - (x.neighbourHolds - 1) } =
      Buffer.released { x with neighbourHolds := 0 } := by
    have zero : x.neighbourHolds - (x.neighbourHolds - 1) - 1 = 0 := by omega
    unfold Buffer.lessHeld
    simp only [zero, ↓reduceIte]
    exact Buffer.tested_released hd (by simp [Buffer.held, hs])
  rw [Buffer.lessHeldBy_add, first, Buffer.lessHeldBy_add]
  refine (congrArg (fun y => (Buffer.lessHeldBy m y).state) last).trans ?_
  rw [Buffer.lessHeldBy_unresolved m (show Delivery.neverSent ≠ .resolved by decide)]
  rfl

/-! ### How many neighbour holds are left (R53) -/

/-- A record after `n` of its neighbour holds are released: they are gone from the count, or the buffer is FREE. -/
def Buffer.Left (n : Nat) (x y : Buffer) : Prop :=
  y.neighbourHolds = x.neighbourHolds - n ∨ y.state = .free ∧ y.delivery ≠ .resolved

theorem Buffer.Left.trans {m n : Nat} {x y z : Buffer} (h : Buffer.Left m x y) (h' : Buffer.Left n y z)
    (hf : y.state = .free → y.Fades z) : Buffer.Left (m + n) x z := by
  obtain hy | ⟨hs, hd⟩ := h
  · exact h'.imp_left fun hz => by rw [hz, hy, Nat.sub_sub]
  · obtain ⟨state, unresolved⟩ := (hf hs).unresolved hd
    exact .inr ⟨state.trans hs, unresolved⟩

/-- A release test that is passed leaves the count, or the buffer is FREE. -/
theorem Buffer.tested_left (x : Buffer) : Buffer.Left 0 x x.tested := by
  unfold Buffer.tested
  split
  · exact .inl rfl
  · split
    · exact .inl rfl
    · exact .inr ⟨rfl, by simp [Buffer.released]⟩

theorem Buffer.lessHeld_left (x : Buffer) : Buffer.Left 1 x x.lessHeld := by
  unfold Buffer.lessHeld
  dsimp only
  split
  · exact (Buffer.tested_left { x with neighbourHolds := x.neighbourHolds - 1 })
  · exact .inl rfl

theorem Buffer.lessHeldBy_left (n : Nat) (x : Buffer) : Buffer.Left n x (x.lessHeldBy n) := by
  induction n generalizing x with
  | zero => exact .inl rfl
  | succ n ih =>
    have next : Buffer.Left (1 + n) x (x.lessHeld.lessHeldBy n) :=
      x.lessHeld_left.trans (ih x.lessHeld) fun _ => Buffer.lessHeldBy_fades n _
    rwa [Nat.add_comm] at next

theorem Buffer.unheld_left (x : Buffer) : Buffer.Left 0 x x.unheld := by
  unfold Buffer.unheld
  split
  · exact Buffer.tested_left { x with successorHold := false }
  · exact .inl rfl

/-! ### One buffer of an abort (R18, R93) -/

section

variable (s : State) (r : Slot) (b : Buf)

/-- Whether a buffer's repair is in the engine. -/
def State.inEngine : Bool :=
  decide (s.pool.buffers[b].state = .repair) && decide (s.repair.engine.map (fun job => job.request.buf) = some b)

/-- Whether an abort of reel `r` discards a buffer: it is in FILLING, PENDING, QUEUED or the repair queue (R18). -/
def State.drops : Bool :=
  decide (s.pool.buffers[b].slot = r) && decide (s.pool.buffers[b].state ∈ [.filling, .pending, .repair, .queued]) &&
    !s.inEngine b

/-- The request in the engine marked aborted (R93). -/
def State.markAborted : State :=
  { s with repair := { s.repair with engine := s.repair.engine.map fun job => { job with aborted := true } } }

/-- One buffer of an abort, by whether it is discarded or in the engine (R18). -/
theorem State.abortBuffer_eq : s.abortBuffer r b =
    if s.drops r b then s.abortFrame r b
    else if s.pool.buffers[b].slot = r ∧ s.inEngine b then s.markAborted else s := by
  unfold State.abortBuffer State.drops State.inEngine State.markAborted
  dsimp only
  generalize s.pool.buffers[b] = x
  by_cases hr : x.slot = r
  · generalize he : s.repair.engine = e
    cases hs : x.state <;> cases e with
    | none => simp [hr]
    | some job =>
      by_cases hj : job.request.buf = b <;> simp [hr, hj]
  · simp [hr]

end

end Sys2Proof.Machine
end

section
/-! PROOFS. The abort of a reel's buffers, one by one (R18, R50, R93, R141). -/

namespace Sys2Proof.Machine

/-! ### One buffer of an abort (R18, R50) -/

/-- What an abort leaves of the intake, the delivery unit and the engine while it deals with the buffers. -/
structure State.Aborting (s t : State) : Prop where
  intake : t.intake = s.intake
  delivery : t.delivery = { s.delivery with queues := t.delivery.queues }
  wire : t.wire = s.wire
  engine : t.repair.engine.map (fun job => job.request.buf) = s.repair.engine.map fun job => job.request.buf

section

variable {r : Slot} {s t u : State} {b : Buf}

theorem State.Aborting.refl (s : State) : s.Aborting s := ⟨rfl, rfl, rfl, rfl⟩

theorem State.Aborting.trans (h : s.Aborting t) (h' : t.Aborting u) : s.Aborting u where
  intake := h'.intake.trans h.intake
  delivery := by rw [h'.delivery, h.delivery]
  wire := h'.wire.trans h.wire
  engine := h'.engine.trans h.engine

theorem State.abortFrame_get (s : State) (r : Slot) (b k : Buf) : (s.abortFrame r b).pool.buffers[k] =
    if b = k then (s.pool.buffers[k].lessHeldBy (namings (s.requestsFor b) k)).discarded.tested
    else s.pool.buffers[k].lessHeldBy (namings (s.requestsFor b) k) := State.discard_get (s.countReel r _) b k

theorem State.abortFrame_work (s : State) (r : Slot) (b : Buf) : (s.abortFrame r b).intake = s.intake ∧
    (s.abortFrame r b).repair = { s.repair with queue := s.repair.queue.filter fun q => decide (q.buf ≠ b) } ∧
    (s.abortFrame r b).delivery = { s.delivery with
      queues := mapEntries (fun _ q => q.filter fun x => decide (x ≠ b)) s.delivery.queues } ∧
    (s.abortFrame r b).wire = s.wire := by
  obtain ⟨intake, repair, delivery, wire⟩ := State.discard_work
    (s.countReel r fun c => { c with discardedAbort := c.discardedAbort + 1 }) b
  exact ⟨intake, repair, delivery, wire⟩

theorem State.Aborting.abortFrame (s : State) (r : Slot) (b : Buf) : s.Aborting (s.abortFrame r b) := by
  obtain ⟨intake, repair, delivery, wire⟩ := s.abortFrame_work r b
  exact ⟨intake, by rw [delivery], wire, by rw [repair]⟩

theorem State.Aborting.markAborted (s : State) : s.Aborting s.markAborted :=
  ⟨rfl, rfl, rfl, by simp [State.markAborted, Function.comp_def]⟩

theorem State.abortBuffer_dropped (hd : s.drops r b = true) : s.abortBuffer r b = s.abortFrame r b := by
  rw [State.abortBuffer_eq, if_pos hd]

theorem State.abortBuffer_undropped (hd : s.drops r b = false) : s.abortBuffer r b =
    if s.pool.buffers[b].slot = r ∧ s.inEngine b then s.markAborted else s := by
  rw [State.abortBuffer_eq, if_neg (by rw [hd]; decide)]

/-- A buffer that an abort does not discard leaves the records, the reels, the queues and the requests as they are. -/
theorem State.abortBuffer_spared (hd : s.drops r b = false) : (s.abortBuffer r b).pool = s.pool ∧
    (s.abortBuffer r b).reels = s.reels ∧ (s.abortBuffer r b).delivery = s.delivery ∧
    (s.abortBuffer r b).repair.queue = s.repair.queue := by
  rw [State.abortBuffer_undropped hd]
  split <;> exact ⟨rfl, rfl, rfl, rfl⟩

theorem State.Aborting.abortBuffer (s : State) (r : Slot) (b : Buf) : s.Aborting (s.abortBuffer r b) := by
  rw [State.abortBuffer_eq]
  split
  · exact .abortFrame s r b
  · split
    · exact .markAborted s
    · exact .refl s

theorem State.abortBuffer_fades (s : State) (r : Slot) {b k : Buf} (hk : b ≠ k) :
    s.pool.buffers[k].Fades (s.abortBuffer r b).pool.buffers[k] := by
  cases hd : s.drops r b with
  | true =>
    rw [State.abortBuffer_dropped hd, State.abortFrame_get, if_neg hk]
    exact Buffer.lessHeldBy_fades _ _
  | false =>
    rw [(State.abortBuffer_spared hd).1]
    exact .refl _

/-- A discarded frame is FREE, or DONE while a hold keeps it. -/
theorem Buffer.discarded_tested (x : Buffer) : x.discarded.tested.state ∈ [.free, .done] := by
  unfold Buffer.tested
  rw [if_neg (show ¬ x.discarded.delivery ≠ .resolved from not_not_intro rfl)]
  split
  · exact List.mem_cons_of_mem _ List.mem_cons_self
  · exact List.mem_cons_self

theorem State.abortBuffer_settles (hd : s.drops r b = true) : (s.abortBuffer r b).pool.buffers[b].state ∈ [.free, .done] := by
  rw [State.abortBuffer_dropped hd, State.abortFrame_get, if_pos rfl]
  exact Buffer.discarded_tested _

/-! ### Which buffers an abort discards, as it goes (R18) -/

/-- The delivery of a frame in FILLING, PENDING, REPAIR or QUEUED is not resolved. -/
def Buffer.Regular (x : Buffer) : Prop := x.state ∈ [.filling, .pending, .repair, .queued] → x.delivery ≠ .resolved

/-- The release of holds leaves the state of a regular record, but for the release of one that no abort discards. -/
theorem Buffer.Fades.regular {x y : Buffer} (h : x.Fades y) (hx : x.Regular) :
    y.state = x.state ∨ x.state ∉ [.filling, .pending, .repair, .queued] ∧ y.state ∈ [.free, .done] :=
  h.state.imp_right fun ⟨hd, hy⟩ => ⟨fun hl => hx hl hd, hy⟩

theorem Buffer.Fades.regular_mono {x y : Buffer} (h : x.Fades y) (hx : x.Regular) : y.Regular := by
  intro hy
  obtain hs | ⟨-, hs⟩ := h.regular hx
  · exact (h.unresolved (hx (hs ▸ hy))).2
  · generalize y.state = st at hy hs
    simp only [List.mem_cons, List.not_mem_nil, or_false] at hy hs
    grind

theorem State.drops_congr {k : Buf} (hf : s.pool.buffers[k].Fades t.pool.buffers[k])
    (he : t.repair.engine.map (fun job => job.request.buf) = s.repair.engine.map fun job => job.request.buf)
    (hk : s.pool.buffers[k].slot = r → s.pool.buffers[k].Regular) :
    t.drops r k = s.drops r k ∧ (t.pool.buffers[k].slot = r ∧ t.inEngine k = true ↔
      s.pool.buffers[k].slot = r ∧ s.inEngine k = true) := by
  have slot := hf.eases.slot
  unfold State.drops State.inEngine
  rw [he, slot]
  by_cases hr : s.pool.buffers[k].slot = r
  · obtain hs | ⟨hx, hy⟩ := hf.regular (hk hr)
    · rw [hs]
      exact ⟨rfl, .rfl⟩
    · generalize s.pool.buffers[k].state = a at hx
      generalize t.pool.buffers[k].state = c at hy
      simp only [List.mem_cons, List.not_mem_nil, or_false, not_or] at hx hy
      obtain ⟨h1, h2, h3, h4⟩ := hx
      rcases hy with rfl | rfl <;> simp [h1, h2, h3, h4]
  · rw [decide_eq_false hr]
    exact ⟨rfl, iff_of_false (fun h => hr h.1) fun h => hr h.1⟩

theorem Buffer.regular_of_unresolved {x : Buffer} (hd : x.delivery ≠ .resolved) : x.Regular := fun _ => hd

/-! ### The buffers of a reel, one by one (R18) -/

/-- The buffers of a list dealt with in order by an abort of reel `r`. -/
def State.abortAll (s : State) (r : Slot) (l : List Buf) : State := l.foldl (fun s b => s.abortBuffer r b) s

theorem State.Aborting.abortAll (l : List Buf) (s : State) : s.Aborting (s.abortAll r l) := by
  induction l generalizing s with
  | nil => exact .refl s
  | cons b l ih => exact (State.Aborting.abortBuffer s r b).trans (ih _)

theorem State.abortAll_fades {l : List Buf} {k : Buf} (hk : k ∉ l) (s : State) :
    s.pool.buffers[k].Fades (s.abortAll r l).pool.buffers[k] := by
  induction l generalizing s with
  | nil => exact .refl _
  | cons b l ih =>
    obtain ⟨hb, hl⟩ := not_or.1 (mt List.mem_cons.2 hk)
    exact (s.abortBuffer_fades r (Ne.symm hb)).trans (ih hl _)

/-- The part of an abort before one buffer, that buffer, and the part after it. -/
theorem State.abortAll_split {l : List Buf} (hl : l.Nodup) (hb : b ∈ l) (s : State) : ∃ l₁ l₂ : List Buf, b ∉ l₁ ∧ b ∉ l₂ ∧
    s.abortAll r l = ((s.abortAll r l₁).abortBuffer r b).abortAll r l₂ := by
  obtain ⟨l₁, l₂, rfl⟩ := List.append_of_mem hb
  have apart := List.nodup_append.1 hl
  refine ⟨l₁, l₂, fun h => apart.2.2 b h b List.mem_cons_self rfl, (List.nodup_cons.1 apart.2.1).1, ?_⟩
  simp [State.abortAll]

/-- A frame that is discarded ends in FREE or DONE. -/
theorem State.abortAll_dropped {l : List Buf} (hl : l.Nodup) (hb : b ∈ l) (hr : s.pool.buffers[b].Regular)
    (hd : s.drops r b = true) : (s.abortAll r l).pool.buffers[b].state ∈ [.free, .done] := by
  obtain ⟨l₁, l₂, h₁, h₂, split⟩ := State.abortAll_split (r := r) hl hb s
  rw [split]
  refine (State.abortAll_fades h₂ _).eases.settled (State.abortBuffer_settles ?_)
  rw [(State.drops_congr (State.abortAll_fades h₁ s) (State.Aborting.abortAll l₁ s).engine fun _ => hr).1, hd]

/-- A frame that is not discarded only loses holds. -/
theorem State.abortAll_spared {l : List Buf} (hl : l.Nodup) (hr : s.pool.buffers[b].Regular) (hd : s.drops r b = false) :
    s.pool.buffers[b].Fades (s.abortAll r l).pool.buffers[b] := by
  by_cases hb : b ∈ l
  · obtain ⟨l₁, l₂, h₁, h₂, split⟩ := State.abortAll_split (r := r) hl hb s
    have before := State.abortAll_fades (r := r) h₁ s
    have spared : (s.abortAll r l₁).drops r b = false := by
      rw [(State.drops_congr before (State.Aborting.abortAll l₁ s).engine fun _ => hr).1, hd]
    have after := State.abortAll_fades (r := r) h₂ ((s.abortAll r l₁).abortBuffer r b)
    rw [split]
    rw [(State.abortBuffer_spared spared).1] at after
    exact before.trans after
  · exact State.abortAll_fades hb s

/-! ### The engine (R93) -/

/-- An abort leaves the engine alone while it deals with other buffers than the engine's. -/
theorem State.abortAll_engine {l : List Buf} (s : State) (hl : ∀ job, s.repair.engine = some job → job.request.buf ∉ l) :
    (s.abortAll r l).repair.engine = s.repair.engine := by
  induction l generalizing s with
  | nil => rfl
  | cons b l ih =>
    have step : (s.abortBuffer r b).repair.engine = s.repair.engine := by
      rw [State.abortBuffer_eq]
      split
      · rw [(s.abortFrame_work r b).2.1]
      · split
        · rename_i hm
          have named := of_decide_eq_true (Bool.and_eq_true_iff.1 hm.2).2
          obtain ⟨job, hj, hb⟩ := Option.map_eq_some_iff.1 named
          exact absurd (hb ▸ List.mem_cons_self) (hl job hj)
        · rfl
    refine (ih _ fun job hj hm => ?_).trans step
    rw [step] at hj
    exact hl job hj (List.mem_cons_of_mem _ hm)

/-- The engine's own buffer marks it when it belongs to the reel, and leaves it else. -/
theorem State.abortAll_marks {l : List Buf} (hl : l.Nodup) {job : RepairJob} (he : s.repair.engine = some job)
    (hb : job.request.buf ∈ l) (hr : s.pool.buffers[job.request.buf].slot = r → s.pool.buffers[job.request.buf].Regular) :
    (s.abortAll r l).repair.engine =
      if s.pool.buffers[job.request.buf].slot = r ∧ s.pool.buffers[job.request.buf].state = .repair then
        some { job with aborted := true } else some job := by
  obtain ⟨l₁, l₂, h₁, h₂, split⟩ := State.abortAll_split (r := r) hl hb s
  obtain ⟨drops, marks⟩ := State.drops_congr (State.abortAll_fades (r := r) h₁ s) (State.Aborting.abortAll l₁ s).engine hr
  have engine : (s.abortAll r l₁).repair.engine = some job := by
    rw [State.abortAll_engine s fun j hj => ?_, he]
    rw [Option.some.inj (hj.symm.trans he)]
    exact h₁
  have mine : s.inEngine job.request.buf = decide (s.pool.buffers[job.request.buf].state = .repair) := by
    simp [State.inEngine, he]
  have step : ((s.abortAll r l₁).abortBuffer r job.request.buf).repair.engine =
      if s.pool.buffers[job.request.buf].slot = r ∧ s.pool.buffers[job.request.buf].state = .repair then
        some { job with aborted := true } else some job := by
    rw [State.abortBuffer_eq, drops]
    by_cases hm : s.pool.buffers[job.request.buf].slot = r ∧ s.inEngine job.request.buf = true
    · have spared : s.drops r job.request.buf = false := by
        unfold State.drops
        rw [hm.2]
        simp
      rw [if_neg (by rw [spared]; decide), if_pos (marks.2 hm), if_pos (by simpa [mine] using hm)]
      simp only [State.markAborted, engine, Option.map_some]
    · rw [if_neg (c := _ ∧ _ = BufferState.repair) (by simpa [mine] using hm), if_neg (c := _ ∧ _) (mt marks.1 hm)]
      split
      · rw [(State.abortFrame_work _ r _).2.1]
        exact engine
      · exact engine
  rw [split, State.abortAll_engine, step]
  intro j hj
  rw [step] at hj
  split at hj <;> (obtain rfl := Option.some.inj hj; exact h₂)

end

end Sys2Proof.Machine
end

section
/-! PROOFS. What an abort takes out of the queues, the counters and the holds (R18, R50, R53, R93, R141). -/

namespace Sys2Proof.Machine

/-! ### The requests withdrawn (R93) -/

/-- The requests of a queue whose buffer is discarded. -/
def withdrawals (p : Buf → Bool) (qs : List RepairRequest) : List RepairRequest := qs.filter fun q => p q.buf

theorem namings_split (p : RepairRequest → Bool) (qs : List RepairRequest) (k : Buf) :
    namings qs k = namings (qs.filter p) k + namings (qs.filter fun q => !p q) k := by
  unfold namings
  rw [List.countP_eq_countP_filter_add qs _ p, List.countP_eq_countP_filter_add qs (fun q => decide (q.next = some k)) p]
  omega

/-- What two parts of an abort withdraw is what they withdraw one after the other. -/
theorem namings_withdrawals {p q : Buf → Bool} (hpq : ∀ b, p b = true → q b = false) (qs : List RepairRequest) (k : Buf) :
    namings (withdrawals (fun b => p b || q b) qs) k =
      namings (withdrawals p qs) k + namings (withdrawals q (qs.filter fun r => !p r.buf)) k := by
  rw [namings_split (fun r => p r.buf)]
  unfold withdrawals
  simp only [List.filter_filter]
  congr 2
  · exact List.filter_congr fun r _ => by cases p r.buf <;> simp
  · exact List.filter_congr fun r _ => by
      have apart := hpq r.buf
      cases hp : p r.buf <;> simp [hp] at apart ⊢

/-! ### The records, the queues and the counters (R18, R50, R141) -/

/-- The buffers for which `p` holds were discarded from reel `r`, `n` in number. -/
structure State.Aborted (r : Slot) (p : Buf → Bool) (n : Nat) (s t : State) : Prop where
  queue : t.repair.queue = s.repair.queue.filter fun q => !p q.buf
  lanes : ∀ l : Lane, t.delivery.queues[l] = s.delivery.queues[l].filter fun b => !p b
  counters : t.reels[r].counters =
    { s.reels[r].counters with discardedAbort := s.reels[r].counters.discardedAbort + BitVec.ofNat 32 n }
  spared : ∀ k : Buf, p k = false →
    t.pool.buffers[k] = s.pool.buffers[k].lessHeldBy (namings (withdrawals p s.repair.queue) k)
  left : ∀ k : Buf, Buffer.Left (namings (withdrawals p s.repair.queue) k) s.pool.buffers[k] t.pool.buffers[k]

section

variable {r : Slot} {s t u : State} {b : Buf} {p q : Buf → Bool} {m n : Nat}

theorem State.Aborted.trans (h : s.Aborted r p m t) (h' : t.Aborted r q n u) (hpq : ∀ k, p k = true → q k = false)
    (hf : ∀ k : Buf, t.pool.buffers[k].state = .free → q k = false) : s.Aborted r (fun k => p k || q k) (m + n) u where
  queue := by
    rw [h'.queue, h.queue, List.filter_filter]
    exact List.filter_congr fun q _ => by rw [Bool.not_or, Bool.and_comm]
  lanes l := by
    rw [h'.lanes, h.lanes, List.filter_filter]
    exact List.filter_congr fun b _ => by rw [Bool.not_or, Bool.and_comm]
  counters := by
    rw [h'.counters, h.counters]
    simp only [BitVec.ofNat_add, BitVec.add_assoc]
  spared k hk := by
    obtain ⟨hp, hq⟩ := Bool.or_eq_false_iff.1 hk
    rw [h'.spared k hq, h.spared k hp, h.queue, namings_withdrawals hpq, Nat.add_comm, Buffer.lessHeldBy_add]
  left k := by
    rw [namings_withdrawals hpq]
    have after := h'.left k
    rw [h.queue] at after
    refine (h.left k).trans after fun hs => ?_
    rw [h'.spared k (hf k hs)]
    exact Buffer.lessHeldBy_fades _ _

theorem State.Aborted.congr (h : s.Aborted r p m t) (hp : ∀ k, p k = q k) (hn : m = n) : s.Aborted r q n t := by
  obtain rfl : p = q := funext hp
  exact hn ▸ h

/-- Nothing discarded. -/
theorem State.Aborted.none (hb : t.pool.buffers = s.pool.buffers) (hr : t.reels = s.reels)
    (hq : t.repair.queue = s.repair.queue) (hd : t.delivery = s.delivery) : s.Aborted r (fun _ => false) 0 t where
  queue := by simp [hq]
  lanes l := by simp [hd]
  counters := by simp [hr]
  spared k _ := by
    rw [hb]
    simp [withdrawals, namings, Buffer.lessHeldBy]
  left k := by
    rw [hb]
    exact .inl (by simp [withdrawals, namings])

/-- One buffer discarded by an abort (R18, R50). -/
theorem State.Aborted.abortFrame (hd : s.pool.buffers[b].delivery ≠ .resolved) (hs : s.pool.buffers[b].successorHold = false) :
    s.Aborted r (fun k => decide (k = b)) 1 (s.abortFrame r b) where
  queue := by
    rw [(s.abortFrame_work r b).2.1]
    exact List.filter_congr fun q _ => decide_not
  lanes l := by
    rw [(s.abortFrame_work r b).2.2.1]
    exact (mapEntries_get _ _ _ _).trans (List.filter_congr fun q _ => decide_not)
  counters := by
    have lets := State.Lets.discard (r := r)
      (s := s.countReel r fun c => { c with discardedAbort := c.discardedAbort + 1 }) (b := b) hs
    have counted : (s.countReel r fun c => { c with discardedAbort := c.discardedAbort + 1 }).reels[r].counters =
        { s.reels[r].counters with discardedAbort := s.reels[r].counters.discardedAbort + 1 } :=
      congrArg Reel.counters (State.modReel_get_self s r _)
    exact lets.settles.kept_fields.1.trans counted
  spared k hk := by
    rw [State.abortFrame_get, if_neg (Ne.symm (of_decide_eq_false hk))]
    rfl
  left k := by
    rw [State.abortFrame_get]
    split
    · rename_i hk
      subst hk
      rw [Buffer.lessHeldBy_unresolved _ hd]
      exact Buffer.tested_left
        (Buffer.discarded { s.pool.buffers[b] with neighbourHolds := s.pool.buffers[b].neighbourHolds - _ })
    · exact Buffer.lessHeldBy_left _ _

/-- A reel's frames carry no successor hold, and those an abort may discard are not resolved. -/
def State.Abortable (s : State) (r : Slot) : Prop := ∀ k : Buf, s.pool.buffers[k].slot = r →
  s.pool.buffers[k].successorHold = false ∧ s.pool.buffers[k].Regular

theorem State.drops_iff : s.drops r b = true ↔ s.pool.buffers[b].slot = r ∧
    s.pool.buffers[b].state ∈ [.filling, .pending, .repair, .queued] ∧ s.inEngine b = false := by
  simp only [State.drops, Bool.and_eq_true, decide_eq_true_eq, Bool.not_eq_true', and_assoc]

/-- An abort keeps the reel of every frame, and gives no frame a successor hold. -/
theorem State.abortBuffer_keeps (s : State) (r : Slot) (b k : Buf) :
    (s.abortBuffer r b).pool.buffers[k].slot = s.pool.buffers[k].slot ∧ (s.pool.buffers[k].successorHold = false →
      (s.abortBuffer r b).pool.buffers[k].successorHold = false) := by
  by_cases hbk : b = k
  · subst hbk
    cases hd : s.drops r b with
    | true =>
      rw [State.abortBuffer_dropped hd, State.abortFrame_get, if_pos rfl]
      have eases := Buffer.lessHeldBy_eases (namings (s.requestsFor b) b) s.pool.buffers[b]
      exact ⟨(Buffer.tested_eases (Buffer.discarded _)).slot.trans eases.slot,
        fun hs => Buffer.tested_successorHold (x := Buffer.discarded _) (eases.hold_false hs)⟩
    | false =>
      rw [(State.abortBuffer_spared hd).1]
      exact ⟨rfl, id⟩
  · have fades := s.abortBuffer_fades r hbk
    exact ⟨fades.eases.slot, fades.eases.hold_false⟩

theorem State.abortAll_keeps (l : List Buf) (s : State) (k : Buf) :
    (s.abortAll r l).pool.buffers[k].slot = s.pool.buffers[k].slot ∧ (s.pool.buffers[k].successorHold = false →
      (s.abortAll r l).pool.buffers[k].successorHold = false) := by
  induction l generalizing s with
  | nil => exact ⟨rfl, id⟩
  | cons b l ih =>
    obtain ⟨slot, hold⟩ := s.abortBuffer_keeps r b k
    obtain ⟨slot', hold'⟩ := ih (s.abortBuffer r b)
    exact ⟨slot'.trans slot, fun hs => hold' (hold hs)⟩

theorem State.Abortable.abortBuffer (h : s.Abortable r) (b : Buf) : (s.abortBuffer r b).Abortable r := by
  intro k hk
  obtain ⟨slot, hold⟩ := s.abortBuffer_keeps r b k
  rw [slot] at hk
  refine ⟨hold (h k hk).1, ?_⟩
  by_cases hd : s.drops r k = true ∧ b = k
  · obtain ⟨hd, rfl⟩ := hd
    have settled := State.abortBuffer_settles hd
    generalize (s.abortBuffer r b).pool.buffers[b] = x at settled
    intro live
    generalize x.state = st at live settled
    simp only [List.mem_cons, List.not_mem_nil, or_false] at live settled
    grind
  · by_cases hbk : b = k
    · subst hbk
      rw [(State.abortBuffer_spared (Bool.eq_false_iff.2 fun hb => hd ⟨hb, rfl⟩)).1]
      exact (h b hk).2
    · exact (s.abortBuffer_fades r hbk).regular_mono (h k hk).2

/-- An abort of a list of buffers discards those that it would discard at its start. -/
theorem State.Aborted.abortAll {l : List Buf} (hl : l.Nodup) {d : Buf → Bool} (s : State) (ha : s.Abortable r)
    (hd : ∀ k ∈ l, s.drops r k = d k) :
    s.Aborted r (fun k => d k && decide (k ∈ l)) (l.countP d) (s.abortAll r l) := by
  induction l generalizing s with
  | nil => exact (State.Aborted.none rfl rfl rfl rfl).congr (fun k => by simp) rfl
  | cons b l ih =>
    obtain ⟨hb, hl⟩ := List.nodup_cons.1 hl
    have same (k : Buf) (hk : k ∈ l) : (s.abortBuffer r b).drops r k = d k := by
      have other : b ≠ k := fun h => hb (h ▸ hk)
      rw [(State.drops_congr (s.abortBuffer_fades r other) (State.Aborting.abortBuffer s r b).engine fun hr => (ha k hr).2).1,
        hd k (List.mem_cons_of_mem _ hk)]
    have rest := ih hl (s.abortBuffer r b) (ha.abortBuffer b) same
    have unfree (k : Buf) (hk : (s.abortBuffer r b).pool.buffers[k].state = .free) : (d k && decide (k ∈ l)) = false := by
      by_contra hc
      obtain ⟨hdk, hkl⟩ := Bool.and_eq_true_iff.1 (Bool.eq_true_of_not_eq_false hc)
      have live := (State.drops_iff.1 ((same k (of_decide_eq_true hkl)).trans hdk)).2.1
      rw [hk] at live
      exact absurd live (by decide)
    have first := hd b List.mem_cons_self
    cases hdb : d b with
    | true =>
      rw [hdb] at first
      obtain ⟨hr, live, -⟩ := State.drops_iff.1 first
      have step := State.Aborted.abortFrame (r := r) ((ha b hr).2 live) (ha b hr).1
      rw [← State.abortBuffer_dropped first] at step
      refine (step.trans rest (fun k hk => ?_) unfree).congr (fun k => ?_) ?_
      · rw [of_decide_eq_true hk, decide_eq_false hb, Bool.and_false]
      · by_cases hk : k = b
        · simp [hk, hdb]
        · simp [hk]
      · rw [List.countP_cons_of_pos hdb, Nat.add_comm]
    | false =>
      rw [hdb] at first
      obtain ⟨pool, reels, delivery, queue⟩ := State.abortBuffer_spared first
      have step : s.Aborted r (fun _ => false) 0 (s.abortBuffer r b) := .none (by rw [pool]) reels queue delivery
      refine (step.trans rest (fun k hk => by cases hk) unfree).congr (fun k => ?_) ?_
      · by_cases hk : k = b
        · simp [hk, hdb]
        · simp [hk]
      · rw [List.countP_cons_of_neg (by rw [hdb]; decide), Nat.zero_add]

end

end Sys2Proof.Machine
end

section
/-! PROOFS. UNMOUNT-REEL ABORT on a bound reel (R18, R20, R21). -/

namespace Sys2Proof.Machine

/-! ### The successor holds of a reel cleared (R52) -/

theorem Buffer.unheld_of_not {x : Buffer} (h : x.successorHold = false) : x.unheld = x := if_neg (by rw [h]; decide)

/-- A record when the successor holds of reel `r` are cleared. -/
def Buffer.clearedFor (r : Slot) (x : Buffer) : Buffer := if x.slot = r then x.unheld else x

theorem Buffer.clearedFor_fades (r : Slot) (x : Buffer) : x.Fades (x.clearedFor r) := by
  unfold Buffer.clearedFor
  split <;> [exact x.unheld_fades; exact .refl x]

theorem Buffer.clearedFor_left (r : Slot) (x : Buffer) : Buffer.Left 0 x (x.clearedFor r) := by
  unfold Buffer.clearedFor
  split <;> [exact x.unheld_left; exact .inl rfl]

theorem Buffer.clearedFor_hold {r : Slot} {x : Buffer} (hx : x.slot = r) : (x.clearedFor r).successorHold = false := by
  unfold Buffer.clearedFor
  rw [if_pos hx]
  exact x.unheld_successorHold

theorem Buffer.clearedFor_idem (r : Slot) (x : Buffer) : (x.clearedFor r).clearedFor r = x.clearedFor r := by
  have slot := (x.clearedFor_fades r).eases.slot
  by_cases hx : x.slot = r
  · have again : ((x.clearedFor r).clearedFor r) = (x.clearedFor r).unheld := if_pos (slot.trans hx)
    exact again.trans (Buffer.unheld_of_not (Buffer.clearedFor_hold hx))
  · exact if_neg (by rwa [slot])

section

variable (s : State) (r : Slot)

/-- The successor hold of one buffer cleared, when it is of reel `r`. -/
def State.clearHold (b : Buf) : State := if s.pool.buffers[b].slot = r then s.clearSuccessor b else s

/-- The successor holds of the frames of reel `r` cleared in the buffers of a list. -/
def State.clearHolds (l : List Buf) : State := l.foldl (fun s b => s.clearHold r b) s

theorem State.Eases.clearHold (b : Buf) : s.Eases (s.clearHold r b) := by
  unfold State.clearHold
  split <;> [exact .clearSuccessor s b; exact .refl s]

theorem State.Eases.clearHolds (l : List Buf) : s.Eases (s.clearHolds r l) :=
  State.Eases.foldl (fun s b => .clearHold s r b) l s

theorem State.clearHold_get (b k : Buf) : (s.clearHold r b).pool.buffers[k] =
    if b = k then s.pool.buffers[k].clearedFor r else s.pool.buffers[k] := by
  unfold State.clearHold Buffer.clearedFor
  by_cases hb : b = k
  · subst hb
    rw [if_pos rfl]
    split
    · rw [State.clearSuccessor_get, if_pos rfl]
    · rfl
  · rw [if_neg hb]
    split
    · rw [State.clearSuccessor_get, if_neg hb]
    · rfl

theorem State.clearHolds_get (l : List Buf) (s : State) (k : Buf) : (s.clearHolds r l).pool.buffers[k] =
    if k ∈ l then s.pool.buffers[k].clearedFor r else s.pool.buffers[k] := by
  induction l generalizing s with
  | nil => exact (if_neg List.not_mem_nil).symm
  | cons b l ih =>
    refine (ih _).trans ?_
    rw [State.clearHold_get]
    by_cases hb : b = k
    · rw [if_pos hb, Buffer.clearedFor_idem, ite_self, if_pos (List.mem_cons.2 (.inl hb.symm))]
    · rw [if_neg hb]
      simp only [List.mem_cons, Ne.symm hb, false_or]

theorem State.clearHold_repair (b : Buf) : (s.clearHold r b).repair = s.repair := by
  unfold State.clearHold
  split
  · exact (State.work_eq_iff.1 (s.clearSuccessor_work b)).2.2.1
  · rfl

theorem State.clearHolds_repair (l : List Buf) (s : State) : (s.clearHolds r l).repair = s.repair := by
  induction l generalizing s with
  | nil => rfl
  | cons b l ih => exact (ih _).trans (s.clearHold_repair r b)

end

/-! ### The abort of a reel (R18, R20) -/

section

variable (s : State) (r : Slot)

/-- The head of reel `r` sinking the rest of the reel's frame in hand. -/
def State.sunk : State := if s.assemblingFor r then s.sinkFrame s.reels[r].head else s

/-- The successor holds of reel `r` cleared with that. -/
@[irreducible] def State.cleared : State := (s.sunk r).clearHolds r allBuffers

/-- The buffers of reel `r` dealt with: an abort up to the reel's entry to DRAINING. -/
@[irreducible] def State.aborted : State := (s.cleared r).abortAll r allBuffers

theorem State.cleared_eq : s.cleared r = (s.sunk r).clearHolds r allBuffers := by
  unfold State.cleared
  rfl

theorem State.aborted_eq : s.aborted r = (s.cleared r).abortAll r allBuffers := by
  unfold State.aborted
  rfl

theorem State.abortReel_eq : s.abortReel r = ((s.aborted r).modReel r (Reel.drained .abort)).closeIfEmpty r := by
  rw [State.aborted_eq, State.cleared_eq]
  rfl

theorem State.sunk_same : (s.sunk r).pool = s.pool ∧ (s.sunk r).repair = s.repair ∧ (s.sunk r).delivery = s.delivery ∧
    (s.sunk r).reels = s.reels ∧ (s.sunk r).wire = s.wire := by
  unfold State.sunk
  split <;> exact ⟨rfl, rfl, rfl, rfl, rfl⟩

/-- The head that was assembling for the reel sinks, and nothing else of the intake changes. -/
theorem State.sunk_heads (h : Head) : (s.sunk r).intake.heads[h] =
    if s.assemblingFor r = true ∧ s.reels[r].head = h then { s.intake.heads[h] with assembly := .sinking }
    else s.intake.heads[h] := by
  unfold State.sunk
  by_cases ha : s.assemblingFor r = true
  · simp only [ha, true_and, ↓reduceIte]
    exact modEntry_get _ _ _ _
  · simp only [ha, false_and, ↓reduceIte, Bool.false_eq_true]

theorem mem_allBuffers (b : Buf) : b ∈ allBuffers := List.mem_finRange b

theorem State.cleared_get (k : Buf) : (s.cleared r).pool.buffers[k] = s.pool.buffers[k].clearedFor r := by
  rw [State.cleared_eq, State.clearHolds_get, (s.sunk_same r).1, if_pos (mem_allBuffers k)]

theorem State.cleared_repair : (s.cleared r).repair = s.repair := by
  rw [State.cleared_eq, State.clearHolds_repair, (s.sunk_same r).2.1]

theorem State.cleared_delivery : (s.cleared r).delivery = s.delivery := by
  rw [State.cleared_eq, (State.Eases.clearHolds _ r _).delivery, (s.sunk_same r).2.2.1]

theorem State.cleared_intake : (s.cleared r).intake = (s.sunk r).intake := by
  rw [State.cleared_eq, (State.Eases.clearHolds _ r _).intake]

theorem State.cleared_wire : (s.cleared r).wire = s.wire := by
  rw [State.cleared_eq, (State.Eases.clearHolds _ r _).wire, (s.sunk_same r).2.2.2.2]

theorem State.cleared_kept : (s.cleared r).reels[r].kept = s.reels[r].kept := by
  rw [State.cleared_eq, (State.Eases.clearHolds _ r _).kept, (s.sunk_same r).2.2.2.1]

theorem State.cleared_fades (k : Buf) : s.pool.buffers[k].Fades (s.cleared r).pool.buffers[k] := by
  rw [State.cleared_get]
  exact Buffer.clearedFor_fades r _

variable {s r} in
theorem State.cleared_drops {k : Buf} (hk : s.pool.buffers[k].slot = r → s.pool.buffers[k].Regular) :
    (s.cleared r).drops r k = s.drops r k :=
  (State.drops_congr (s.cleared_fades r k) (by rw [s.cleared_repair]) hk).1

variable {s r} in
/-- The buffers of an abort, when no frame that it may discard is resolved. -/
theorem State.cleared_abortable (hk : ∀ k : Buf, s.pool.buffers[k].slot = r → s.pool.buffers[k].Regular) :
    (s.cleared r).Abortable r := by
  intro k hr
  have fades := s.cleared_fades r k
  have mine : s.pool.buffers[k].slot = r := fades.eases.slot.symm.trans hr
  refine ⟨?_, fades.regular_mono (hk k mine)⟩
  rw [State.cleared_get]
  exact Buffer.clearedFor_hold mine

theorem State.modReel_work (f : Reel → Reel) : (s.modReel r f).work = s.work := rfl

theorem State.abortReel_work : (s.abortReel r).work = (s.aborted r).work := by
  rw [State.abortReel_eq, State.closeIfEmpty_work, State.modReel_work]

theorem State.abortReel_buffers : (s.abortReel r).pool.buffers = (s.aborted r).pool.buffers :=
  State.work_buffers (s.abortReel_work r)

theorem State.abortReel_repair : (s.abortReel r).repair = (s.aborted r).repair :=
  (State.work_eq_iff.1 (s.abortReel_work r)).2.2.1

theorem State.abortReel_delivery : (s.abortReel r).delivery = (s.aborted r).delivery :=
  (State.work_eq_iff.1 (s.abortReel_work r)).2.2.2.1

theorem State.aborted_aborting : (s.cleared r).Aborting (s.aborted r) := by
  rw [State.aborted_eq]
  exact State.Aborting.abortAll _ _

theorem State.abortReel_intake : (s.abortReel r).intake = (s.sunk r).intake := by
  rw [(State.work_eq_iff.1 (s.abortReel_work r)).1, (s.aborted_aborting r).intake, State.cleared_intake]

theorem State.abortReel_wire : (s.abortReel r).wire = s.wire := by
  rw [(State.work_eq_iff.1 (s.abortReel_work r)).2.2.2.2, (s.aborted_aborting r).wire, State.cleared_wire]

end

end Sys2Proof.Machine
end

section
/-! PROOFS. What UNMOUNT-REEL ABORT makes of the reel, its frames, the engine and the queues (R18, R20, R21, R93, R141). -/

namespace Sys2Proof.Machine

/-! ### The close of an emptied reel (R21) -/

section

variable {s : State} {r : Slot}

theorem State.ownsBuffer_iff : s.ownsBuffer r = true ↔ ∃ b : Buf, s.pool.buffers[b].slot = r ∧ s.pool.buffers[b].state ≠ .free := by
  unfold State.ownsBuffer
  rw [List.any_eq_true]
  constructor
  · rintro ⟨x, hx, hp⟩
    obtain ⟨i, hi, rfl⟩ := Vector.mem_iff_getElem.1 (Vector.mem_toList_iff.1 hx)
    exact ⟨⟨i, hi⟩, (of_decide_eq_true hp).2, (of_decide_eq_true hp).1⟩
  · rintro ⟨b, hr, hs⟩
    exact ⟨s.pool.buffers[b], by simp, decide_eq_true ⟨hs, hr⟩⟩

theorem State.closeIfEmpty_owning (h : s.ownsBuffer r = true) : s.closeIfEmpty r = s :=
  if_neg fun hc => by rw [h] at hc; cases hc.2

theorem State.closeIfEmpty_emptied (hx : s.reels[r].state = .draining) (h : s.ownsBuffer r = false) :
    (s.closeIfEmpty r).reels[r].state ∈ [.closed, .free] := by
  unfold State.closeIfEmpty
  rw [if_pos ⟨hx, h⟩, (State.Aside.closeReel s r).reels, State.modReel_get_self]
  exact s.stateAtClose_mem

end

/-! ### The reel (R18, R20) -/

/-- A reel that has entered DRAINING, and perhaps closed. -/
theorem Reel.Settles.of_drained {why : CloseReason} {x y : Reel} (h : (x.drained why).Settles y) :
    y.closeReason = some why ∧ y.cues = [] ∧ y.deferred = [] ∧ y.state ∉ [.mounted, .running, .held] ∧
      y.counters = x.counters := by
  obtain ⟨counters, -, -, -, -, deferred, reason⟩ := h.kept_fields
  refine ⟨reason, (congrArg Reel.cues h.kept : y.kept.cues = _), deferred, ?_, counters⟩
  have state := h.draining rfl
  generalize y.state = st at state
  simp only [List.mem_cons, List.not_mem_nil, or_false] at state ⊢
  rcases state with rfl | rfl | rfl <;> decide

section

variable (s : State) (r : Slot)

theorem State.abortReel_settles : ((s.aborted r).reels[r].drained .abort).Settles (s.abortReel r).reels[r] := by
  have eases := State.Eases.closeIfEmpty ((s.aborted r).modReel r (Reel.drained .abort)) r
  rw [State.abortReel_eq]
  have settles := (eases.lets r).settles
  rwa [State.modReel_get_self] at settles

theorem State.abortReel_reel : (s.abortReel r).reels[r].closeReason = some .abort ∧ (s.abortReel r).reels[r].cues = [] ∧
    (s.abortReel r).reels[r].deferred = [] ∧ (s.abortReel r).reels[r].state ∉ [.mounted, .running, .held] ∧
    (s.abortReel r).reels[r].counters = (s.aborted r).reels[r].counters := Reel.Settles.of_drained (s.abortReel_settles r)

theorem State.abortReel_slot (k : Buf) : (s.abortReel r).pool.buffers[k].slot = s.pool.buffers[k].slot := by
  rw [State.abortReel_buffers, State.aborted_eq]
  exact (State.abortAll_keeps _ (s.cleared r) k).1.trans (s.cleared_fades r k).eases.slot

theorem State.abortReel_unheld {k : Buf} (hk : s.pool.buffers[k].slot = r) :
    (s.abortReel r).pool.buffers[k].successorHold = false := by
  rw [State.abortReel_buffers, State.aborted_eq]
  refine (State.abortAll_keeps _ (s.cleared r) k).2 ?_
  rw [State.cleared_get]
  exact Buffer.clearedFor_hold hk

/-- While a buffer of the reel is not FREE the reel is DRAINING, and it closes when none is (R21). -/
theorem State.abortReel_drains (h : ∃ b : Buf, s.pool.buffers[b].slot = r ∧ (s.abortReel r).pool.buffers[b].state ≠ .free) :
    (s.abortReel r).reels[r].state = .draining := by
  have owns : ((s.aborted r).modReel r (Reel.drained .abort)).ownsBuffer r = true := by
    obtain ⟨b, hr, hs⟩ := h
    rw [← s.abortReel_slot r] at hr
    rw [State.abortReel_buffers] at hr hs
    exact State.ownsBuffer_iff.2 ⟨b, hr, hs⟩
  rw [State.abortReel_eq, State.closeIfEmpty_owning owns, State.modReel_get_self]
  rfl

theorem State.abortReel_closes (h : ∀ b : Buf, s.pool.buffers[b].slot = r → (s.abortReel r).pool.buffers[b].state = .free) :
    (s.abortReel r).reels[r].state ∈ [.closed, .free] := by
  have empty : ((s.aborted r).modReel r (Reel.drained .abort)).ownsBuffer r = false := by
    refine Bool.eq_false_iff.2 fun owns => ?_
    obtain ⟨b, hr, hs⟩ := State.ownsBuffer_iff.1 owns
    have slot := s.abortReel_slot r b
    rw [State.abortReel_buffers] at slot
    refine hs ?_
    have free := h b (slot.symm.trans hr)
    rwa [State.abortReel_buffers] at free
  rw [State.abortReel_eq]
  refine State.closeIfEmpty_emptied ?_ empty
  rw [State.modReel_get_self]
  rfl

end

/-! ### The frames (R18) -/

section

variable {s : State} {r : Slot} {b : Buf}

theorem allBuffers_nodup : allBuffers.Nodup := List.nodup_finRange 32

theorem State.abortReel_dropped (hd : s.pool.buffers[b].delivery ≠ .resolved) (hb : s.drops r b = true) :
    (s.abortReel r).pool.buffers[b].state ∈ [.free, .done] := by
  have regular := Buffer.regular_of_unresolved hd
  rw [State.abortReel_buffers, State.aborted_eq]
  exact State.abortAll_dropped allBuffers_nodup (mem_allBuffers b) ((s.cleared_fades r b).regular_mono regular)
    ((State.cleared_drops fun _ => regular).trans hb)

theorem State.abortReel_spared (hr : s.pool.buffers[b].Regular) (hb : s.drops r b = false) :
    s.pool.buffers[b].Fades (s.abortReel r).pool.buffers[b] := by
  have cleared := s.cleared_fades r b
  rw [State.abortReel_buffers, State.aborted_eq]
  exact cleared.trans (State.abortAll_spared allBuffers_nodup (cleared.regular_mono hr)
    ((State.cleared_drops fun _ => hr).trans hb))

theorem State.drops_eq_false (h : s.pool.buffers[b].state ∉ [.filling, .pending, .repair, .queued] ∨ s.inEngine b = true) :
    s.drops r b = false :=
  Bool.eq_false_iff.2 fun hd => by
    obtain ⟨-, live, out⟩ := State.drops_iff.1 hd
    exact h.elim (fun h => h live) fun h => by rw [h] at out; cases out

/-- A buffer in the engine stays in REPAIR, and one at the store stays where it is. -/
theorem State.abortReel_stays (hd : s.pool.buffers[b].delivery ≠ .resolved) :
    (s.inEngine b = true → (s.abortReel r).pool.buffers[b].state = .repair) ∧
    (s.pool.buffers[b].state ∈ [.sending, .awaitAck] →
      (s.abortReel r).pool.buffers[b].state = s.pool.buffers[b].state) := by
  have stays (h : s.drops r b = false) : (s.abortReel r).pool.buffers[b].state = s.pool.buffers[b].state :=
    ((State.abortReel_spared (Buffer.regular_of_unresolved hd) h).unresolved hd).1
  refine ⟨fun he => ?_, fun hs => stays (State.drops_eq_false (.inl fun live => ?_))⟩
  · exact (stays (State.drops_eq_false (.inr he))).trans (of_decide_eq_true (Bool.and_eq_true_iff.1 he).1)
  · generalize s.pool.buffers[b].state = st at hs live
    simp only [List.mem_cons, List.not_mem_nil, or_false] at hs live
    rcases hs with rfl | rfl <;> simp at live

end

/-! ### The queues, the engine, the counters and the holds (R53, R54, R93, R141) -/

section

variable {s : State} {r : Slot}

/-- The abort of reel `r` when no frame that it may discard is resolved. -/
theorem State.aborted_exact (hA : ∀ k : Buf, s.pool.buffers[k].slot = r → s.pool.buffers[k].Regular) :
    (s.cleared r).Aborted r (s.drops r) (allBuffers.countP (s.drops r)) (s.aborted r) := by
  have exact_ := State.Aborted.abortAll allBuffers_nodup (s.cleared r) (State.cleared_abortable hA)
    fun k _ => State.cleared_drops (hA k)
  rw [State.aborted_eq]
  exact exact_.congr (fun k => by simp only [mem_allBuffers, decide_true, Bool.and_true]) rfl

theorem State.abortReel_engine_idle (he : s.repair.engine = none) : (s.abortReel r).repair.engine = none := by
  have same := (s.aborted_aborting r).engine
  rw [s.cleared_repair, he] at same
  rw [State.abortReel_repair]
  exact Option.map_eq_none_iff.1 same

theorem State.abortReel_engine (hA : ∀ k : Buf, s.pool.buffers[k].slot = r → s.pool.buffers[k].Regular) {job : RepairJob}
    (he : s.repair.engine = some job) : (s.abortReel r).repair.engine =
      if s.pool.buffers[job.request.buf].slot = r ∧ s.pool.buffers[job.request.buf].state = .repair then
        some { job with aborted := true } else some job := by
  have fades := s.cleared_fades r job.request.buf
  have marks := State.abortAll_marks (r := r) (s := s.cleared r) allBuffers_nodup (by rwa [s.cleared_repair])
    (mem_allBuffers job.request.buf) fun hr => fades.regular_mono (hA _ (fades.eases.slot.symm.trans hr))
  rw [State.abortReel_repair, State.aborted_eq]
  refine marks.trans ?_
  rw [fades.eases.slot]
  by_cases hr : s.pool.buffers[job.request.buf].slot = r
  · obtain hs | ⟨hx, hy⟩ := fades.regular (hA _ hr)
    · rw [hs]
    · rw [if_neg fun h => ?_, if_neg fun h => ?_]
      · rw [h.2] at hx
        exact hx (by decide)
      · rw [h.2] at hy
        exact absurd hy (by decide)
  · rw [if_neg fun h => hr h.1, if_neg fun h => hr h.1]

theorem State.abortReel_queues (hA : ∀ k : Buf, s.pool.buffers[k].slot = r → s.pool.buffers[k].Regular) :
    (s.abortReel r).repair.queue = s.repair.queue.filter (fun q => !s.drops r q.buf) ∧
    (∀ l : Lane, (s.abortReel r).delivery.queues[l] = s.delivery.queues[l].filter fun b => !s.drops r b) ∧
    (s.abortReel r).delivery = { s.delivery with queues := (s.abortReel r).delivery.queues } ∧
    (s.abortReel r).reels[r].counters = { s.reels[r].counters with
      discardedAbort := s.reels[r].counters.discardedAbort + BitVec.ofNat 32 (allBuffers.countP (s.drops r)) } := by
  obtain ⟨queue, lanes, counters, -, -⟩ := State.aborted_exact hA
  have delivery := (s.aborted_aborting r).delivery
  have kept : (s.cleared r).reels[r].counters = s.reels[r].counters :=
    (congrArg Reel.counters (s.cleared_kept r) : (Reel.kept _).counters = _)
  rw [State.abortReel_repair, State.abortReel_delivery, (s.abortReel_reel r).2.2.2.2]
  rw [s.cleared_repair] at queue
  rw [s.cleared_delivery] at lanes delivery
  rw [kept] at counters
  exact ⟨queue, lanes, delivery, counters⟩

/-- The neighbour holds that the withdrawn requests leave on a frame that is not released. -/
theorem State.abortReel_holdsLeft (hA : ∀ k : Buf, s.pool.buffers[k].slot = r → s.pool.buffers[k].Regular) (k : Buf)
    (hk : (s.abortReel r).pool.buffers[k].state ≠ .free) : (s.abortReel r).pool.buffers[k].neighbourHolds =
      s.pool.buffers[k].neighbourHolds - namings (withdrawals (s.drops r) s.repair.queue) k := by
  have exact_ := State.aborted_exact hA
  have left := exact_.left k
  rw [s.cleared_repair, State.cleared_get] at left
  have both : Buffer.Left (0 + namings (withdrawals (s.drops r) s.repair.queue) k) s.pool.buffers[k]
      (s.aborted r).pool.buffers[k] := by
    refine (Buffer.clearedFor_left r s.pool.buffers[k]).trans left fun free => ?_
    have unfree : s.drops r k = false := by
      rw [← State.cleared_drops (hA k)]
      refine State.drops_eq_false (.inl ?_)
      rw [State.cleared_get, free]
      decide
    have spared := exact_.spared k unfree
    rw [State.cleared_get] at spared
    rw [spared]
    exact Buffer.lessHeldBy_fades _ _
  rw [State.abortReel_buffers] at hk ⊢
  rw [Nat.zero_add] at both
  exact both.resolve_right fun free => hk free.1

/-- A resolved frame in DONE: it stays while a neighbour hold is left, and is FREE when its last hold goes (R54). -/
theorem Buffer.done_unheld {x : Buffer} (hs : x.state = .done) (hd : x.delivery = .resolved) (n : Nat) :
    (0 < x.neighbourHolds - n → (x.unheld.lessHeldBy n).state = .done) ∧
    (x.neighbourHolds - n = 0 → x.successorHold = true ∨ 0 < x.neighbourHolds → (x.unheld.lessHeldBy n).state = .free) := by
  by_cases hn : 0 < x.neighbourHolds
  · have unheld : x.unheld = { x with successorHold := false } := by
      unfold Buffer.unheld
      by_cases hh : x.successorHold = true
      · rw [if_pos hh]
        unfold Buffer.tested
        rw [if_neg (not_not_intro hd), if_pos (by simp [Buffer.held, hn]), ← hs]
      · have none := Bool.eq_false_iff.2 hh
        rw [if_neg hh, ← none]
    rw [unheld]
    refine ⟨fun h => ?_, fun h _ => Buffer.lessHeldBy_freed hd rfl hn (by dsimp only; omega)⟩
    rw [Buffer.lessHeldBy_held (by dsimp only; omega)]
    exact hs
  · refine ⟨fun h => absurd h (by omega), fun _ h => ?_⟩
    have hold := h.resolve_right hn
    have unheld : x.unheld = Buffer.released { x with successorHold := false } := by
      unfold Buffer.unheld
      rw [if_pos hold]
      exact Buffer.tested_released hd (by simp [Buffer.held, hn])
    rw [unheld, Buffer.lessHeldBy_unresolved n (show Delivery.neverSent ≠ .resolved by decide)]
    rfl

theorem State.abortReel_done (hA : ∀ k : Buf, s.pool.buffers[k].slot = r → s.pool.buffers[k].Regular) {b : Buf}
    (hr : s.pool.buffers[b].slot = r) (hs : s.pool.buffers[b].state = .done) (hd : s.pool.buffers[b].delivery = .resolved) :
    let n := namings (withdrawals (s.drops r) s.repair.queue) b
    (0 < s.pool.buffers[b].neighbourHolds - n → (s.abortReel r).pool.buffers[b].state = .done) ∧
    (s.pool.buffers[b].neighbourHolds - n = 0 →
      s.pool.buffers[b].successorHold = true ∨ 0 < s.pool.buffers[b].neighbourHolds →
      (s.abortReel r).pool.buffers[b].state = .free) := by
  have spared := (State.aborted_exact hA).spared b (State.drops_eq_false (.inl (by rw [hs]; decide)))
  have cleared : s.pool.buffers[b].clearedFor r = s.pool.buffers[b].unheld := if_pos hr
  rw [s.cleared_repair, State.cleared_get, cleared] at spared
  rw [State.abortReel_buffers, spared]
  exact Buffer.done_unheld hs hd _

end

end Sys2Proof.Machine
end

section
/-! PROOFS. UNMOUNT-REEL ABORT (O31). -/

namespace Sys2Proof.Machine

section

variable {s : State} {r : Slot}

theorem State.unmountAbort_bound (h : s.reels[r].state ∈ [.mounted, .running, .held]) :
    s.unmountAbort r = (s.abortReel r, .done, []) := by
  unfold State.unmountAbort
  split
  case h_1 | h_2 | h_3 => rfl
  all_goals simp_all

theorem State.unmountAbort_unbound (h : s.reels[r].state ∈ [.free, .draining, .closed]) :
    s.unmountAbort r = (s, .wrongState, []) := by
  unfold State.unmountAbort
  split
  case h_4 | h_5 | h_6 => rfl
  all_goals simp_all

/-- The heads after an abort: the one that was assembling for the reel sinks (R18). -/
theorem State.abortReel_heads (s : State) (r : Slot) :
    (∀ b d, s.intake.heads[s.reels[r].head].assembly = .assembling b d → d.slot = r →
      (s.abortReel r).intake.heads[s.reels[r].head].assembly = .sinking) ∧
    ∀ h : Head, h ≠ s.reels[r].head → (s.abortReel r).intake.heads[h] = s.intake.heads[h] := by
  rw [State.abortReel_intake]
  refine ⟨fun b d ha hd => ?_, fun h hh => ?_⟩
  · rw [State.sunk_heads, if_pos ⟨State.assemblingFor_iff.2 ⟨b, d, ha, hd⟩, rfl⟩]
  · rw [State.sunk_heads, if_neg fun hs => hh hs.2.symm]

end

/-- Settles O31, through the buffers dealt with one by one (`State.Aborted`). -/
theorem unmountAbortDealsWithEveryBuffer : Obligations.UnmountAbortDealsWithEveryBuffer := by
  unfold Obligations.UnmountAbortDealsWithEveryBuffer
  intro s p o r h x mine inEngine dropped withdrawn
  have taken : exec .unmountReelAbort s = .next (replied p o ((s.popOrder p).unmountAbort r)) :=
    State.Takes.unmount (form := true) h
  refine ⟨fun hb => ?bound, fun hb => ?unbound⟩
  case unbound => rw [taken, State.unmountAbort_unbound (s := s.popOrder p) hb]
  case bound =>
    obtain ⟨reason, cues, deferred, state, -⟩ := (s.popOrder p).abortReel_reel r
    obtain ⟨sinks, others⟩ := (s.popOrder p).abortReel_heads r
    refine ⟨(s.popOrder p).abortReel r, ?_, state, reason, cues, deferred, sinks, others, fun b hm hd => ?frames,
      fun b hm => (s.popOrder p).abortReel_unheld r hm, (s.popOrder p).abortReel_drains r, (s.popOrder p).abortReel_closes r,
      fun hA => ?queues, ?wire, ?dram, ?settings⟩
    · rw [taken, State.unmountAbort_bound (s := s.popOrder p) hb]
    case frames =>
      obtain ⟨stays, stands⟩ := State.abortReel_stays (s := s.popOrder p) (r := r) hd
      exact ⟨State.abortReel_dropped (s := s.popOrder p) hd, stays, stands⟩
    case queues =>
      have regular : ∀ k : Buf, (s.popOrder p).pool.buffers[k].slot = r → (s.popOrder p).pool.buffers[k].Regular := hA
      obtain ⟨queue, lanes, delivery, counters⟩ := State.abortReel_queues regular
      refine ⟨fun job hj hm hs => ?_, fun job hj hm => ?_, State.abortReel_engine_idle (s := s.popOrder p), queue, lanes,
        delivery, counters, State.abortReel_holdsLeft regular, fun b hm hs hd => State.abortReel_done regular hm hs hd⟩
      · rw [State.abortReel_engine regular hj]
        exact if_pos ⟨hm, hs⟩
      · rw [State.abortReel_engine regular hj]
        exact if_neg fun hc => hm.elim (fun h => h hc.1) fun h => h hc.2
    case wire => exact (s.popOrder p).abortReel_wire r
    case dram => exact (s.popOrder p).abortReel_dram r
    case settings => exact (State.settings_of_standing ((s.popOrder p).abortReel_standing r)).trans rfl

end Sys2Proof.Machine
end

section
/-! PROOFS. A line of the stacked DRAM read back, SET-GAUGE, and the cells of any port (O21, O40, O56). -/

namespace Sys2Proof.Machine

/-! ### A stored line (R29) -/

theorem sampleAddress_eq (l j : Nat) : sampleAddress l j = sampleAddress l 0 + j := rfl

/-- Settles O40: a line is a run of samples written one behind another. -/
theorem storedLineReadsBack : Obligations.StoredLineReadsBack := by
  intro m l xs hm
  have reads (a : Nat) := Memory.read_writeFrom hm (sampleAddress l 0) a xs
  refine ⟨Memory.wf_writeLine hm l xs, fun j hj => ?line, fun a ha => ?others⟩
  case line =>
    rw [Memory.writeLine, reads, sampleAddress_eq l j, if_pos ⟨Nat.le_add_right _ _, Nat.add_lt_add_left hj _⟩,
      Nat.add_sub_cancel_left, List.getD_eq_getElem _ _ hj]
  case others =>
    rw [Memory.writeLine, reads, if_neg]
    rintro ⟨hl, hh⟩
    exact ha (a - sampleAddress l 0) (by omega) (by rw [sampleAddress_eq l]; omega)

/-! ### SET-GAUGE (R34, R35) -/

theorem ReelState.inUse_iff {x : ReelState} : x.inUse = true ↔ x ∈ [.mounted, .running, .held, .draining] := by
  cases x <;> simp [ReelState.inUse]

theorem State.gaugeInUse_iff {s : State} {g : GaugeCode} : s.gaugeInUse g = true ↔
    ∃ r : Slot, s.reels[r].state ∈ [.mounted, .running, .held, .draining] ∧ s.reels[r].gauge = g := by
  simp only [State.gaugeInUse, List.any_eq_true, Bool.and_eq_true, decide_eq_true_eq, ReelState.inUse_iff]
  constructor
  · rintro ⟨x, hx, hr⟩
    obtain ⟨i, hi, rfl⟩ := List.mem_iff_getElem.1 hx
    exact ⟨⟨i, by simpa using hi⟩, by simpa using hr⟩
  · rintro ⟨r, hr⟩
    exact ⟨s.reels[r], by simp, hr⟩

theorem argPitch_natWord {n : Nat} (h : n = 0 ∨ 256 ≤ n ∧ n ≤ 65535) : argPitch (natWord n) = some n := by
  obtain rfl | ⟨hl, hh⟩ := h
  · rfl
  · have nonzero : natWord n ≠ 0 := fun h0 => by
      have : (natWord n).toNat = 0 := by rw [h0]; rfl
      rw [natWord_toNat (by omega)] at this
      omega
    rw [argPitch, if_neg nonzero, argRange_natWord hl hh (by omega)]

theorem argGauge_words {g : Gauge} (h : g.InRange) :
    argGauge (natWord g.pitch) (natWord g.anchor) (natWord g.range) = some g := by
  obtain ⟨hp, ha, hr⟩ := h
  rw [argGauge, argPitch_natWord hp, argRange_natWord (Nat.zero_le _) ha (by omega),
    argRange_natWord (Nat.zero_le _) hr (by omega)]
  rfl

section

variable {s : State} {g : GaugeCode}

theorem State.gaugeOrder_used (hu : s.gaugeInUse g = true) (e : Gauge) :
    s.gaugeOrder (some g) (some e) = (s, .inUse, gaugeWords s.intake.gauges[g]) := if_pos hu

theorem State.gaugeOrder_unused (hu : s.gaugeInUse g = false) (e : Gauge) :
    s.gaugeOrder (some g) (some e) = (s.putGauge g e, .done, gaugeWords e) := if_neg (by simp [hu])

end

/-- Settles O21: the gauge's use decides, and the words read back as the entry. -/
theorem setGaugeReplacesAnUnusedEntry : Obligations.SetGaugeReplacesAnUnusedEntry := by
  intro s p o g pitch anchor range hp ha hr h
  have taken : exec .setGauge s = .next (replied p o ((s.popOrder p).gaugeOrder (some g) (some ⟨pitch, anchor, range⟩))) := by
    refine (h.takeOrder (by decide) (by decide) applySetGauge).trans ?_
    rw [applySetGauge, h.args]
    dsimp only
    rw [argFin_natWord (by decide), argGauge_words (g := ⟨pitch, anchor, range⟩) ⟨hp, ha, hr⟩]
  refine ⟨fun unused => ?unused, fun r hx hg => ?used⟩
  case unused =>
    have free : (s.popOrder p).gaugeInUse g = false := Bool.eq_false_iff.2 fun hu => by
      obtain ⟨r, hx, hg⟩ := State.gaugeInUse_iff.1 hu
      exact unused r hx hg
    rw [taken, State.gaugeOrder_unused free]
    rfl
  case used =>
    rw [taken, State.gaugeOrder_used (s := s.popOrder p) (State.gaugeInUse_iff.2 ⟨r, hx, hg⟩)]
    rfl

/-! ### Cells of any port (R25, R176, R179) -/

theorem exec_order_up {s : State} {p : Port} (hu : s.links.ports[p].link = .up) (c : RxCell) :
    exec (.order p c) s = .next (s.onOrder p c).handOver := State.arrival_up hu _

theorem State.onOrder_passed {s : State} {c : RxCell} (hc : passesCheck kindOrder c = true) (p : Port) :
    s.onOrder p c = s.queueOrder p (readOrder c.payload) := if_pos hc

theorem State.onOrder_failed {s : State} {c : RxCell} (hc : passesCheck kindOrder c = false) (p : Port) :
    s.onOrder p c = s.onCheckFailure p := if_neg (by simp [hc])

/-- A head port has its head, port S none. -/
theorem headOf_eq_none_iff {p : Port} : headOf p = none ↔ p = portS := by revert p; decide

/-- A kind that a port does not handle is dealt with as such (the table of R176). -/
theorem State.onCell_other {p : Port} {kind : Byte} (hk : kindHandled p kind = false) (s : State) (c : RxCell) :
    s.onCell p kind c = s.onOtherKind p kind c := by
  unfold kindHandled at hk
  unfold State.onCell
  split at hk
  · rename_i hp
    simp only [decide_eq_false_iff_not, not_or] at hk
    simp only [hk, headOf_eq_none_iff.2 hp, ↓reduceIte]
  · rename_i hp
    obtain ⟨h, hh⟩ := Option.ne_none_iff_exists'.1 fun hn => hp (headOf_eq_none_iff.1 hn)
    simp only [decide_eq_false_iff_not, not_or] at hk
    simp only [hk, hh, ↓reduceIte]

theorem exec_otherKindCell_up {s : State} {p : Port} (hu : s.links.ports[p].link = .up) {kind : Byte}
    (hk : kindHandled p kind = false) (c : RxCell) :
    exec (.otherKindCell p kind c) s = .next (s.onOtherKind p kind c).handOver := by
  rw [← State.onCell_other hk]
  exact State.arrival_up hu _

section

variable {s : State} {p : Port}

theorem State.queueOrder_room (hr : s.links.ports[p].orders.length < 4) (o : Order) :
    s.queueOrder p o = s.modPort p fun q => { q with orders := q.orders ++ [o] } := if_pos hr

/-- An order that finds the queue full is counted and reported, whether its reply finds room or not (R179). -/
theorem State.queueOrder_full (hf : 4 ≤ s.links.ports[p].orders.length) (o : Order) :
    s.queueOrder p o = ((s.formReply p o.tag o.code .overflow []).modPort p fun q =>
      { q with overflow := q.overflow + 1 }).raise .orderOverflow 0 none p.val := if_neg (Nat.not_lt.2 hf)

theorem State.formReply_room (hu : s.links.ports[p].link = .up) (hr : s.links.ports[p].transmit.length < 8) (tag : BitVec 16)
    (code : Byte) (status : Status) (ws : List Word) : s.formReply p tag code status ws =
      s.modPort p fun q => { q with transmit := q.transmit ++ [.reply tag code status ws] } :=
  if_pos (Bool.and_eq_true_iff.2 ⟨State.isUp_iff.2 hu, decide_eq_true hr⟩)

theorem State.formReply_full (hr : 8 ≤ s.links.ports[p].transmit.length) (tag : BitVec 16)
    (code : Byte) (status : Status) (ws : List Word) : s.formReply p tag code status ws =
      s.modPort p fun q => { q with dropped := q.dropped + 1 } :=
  if_neg fun h => Nat.not_lt.2 hr (of_decide_eq_true (Bool.and_eq_true_iff.1 h).2)

end

/-- Settles O56: the check and the kind decide, then the room in the order queue and in the transmit list. -/
theorem ordersAreQueuedAndOtherKindsSunk : Obligations.OrdersAreQueuedAndOtherKindsSunk := by
  intro s p c hu o onPort onHead dropped sunk
  have failed : s.onCheckFailure p = dropped := by
    unfold State.onCheckFailure
    dsimp only [dropped]
    cases headOf p <;> rfl
  have others : s.onSunk p = sunk := by
    unfold State.onSunk
    dsimp only [sunk]
    cases headOf p <;> rfl
  refine ⟨fun hc hroom => ?queued, fun hc hfull hroom => ?answered, fun hc hfull hlist => ?unanswered, fun hc => ?failed,
    fun kind hk => ⟨fun hc => ?sunk, fun hc => ?otherFailed⟩⟩
  case queued =>
    rw [exec_order_up hu, State.onOrder_passed hc, State.queueOrder_room hroom]
    rfl
  case answered =>
    rw [exec_order_up hu, State.onOrder_passed hc, State.queueOrder_full hfull, State.formReply_room hu hroom,
      modPort_modPort]
    rfl
  case unanswered =>
    rw [exec_order_up hu, State.onOrder_passed hc, State.queueOrder_full hfull, State.formReply_full hlist,
      modPort_modPort]
    rfl
  case failed => rw [exec_order_up hu, State.onOrder_failed hc, failed]
  case sunk => rw [exec_otherKindCell_up hu hk, State.onOtherKind, if_pos hc, others]
  case otherFailed => rw [exec_otherKindCell_up hu hk, State.onOtherKind, if_neg (by simp [hc]), failed]

end Sys2Proof.Machine
end

section
/-! PROOFS. The canonical form of the DRAM regions under the operations that store lines and repairs, and under the rest, which
leave the regions alone (section 3.1, R29, R31, R85, R94). -/

namespace Sys2Proof.Machine

section

variable {s t : State} (hs : s.MemoryWf)
include hs

/-- An operation that leaves the regions alone keeps their form. -/
theorem State.MemoryWf.of_dram (h : t.pool.dram = s.pool.dram) : t.MemoryWf := by
  unfold State.MemoryWf
  rwa [h]

theorem State.MemoryWf.modMemory (b : Buf) {f : Memory → Memory} (hf : ∀ m, m.wf = true → (f m).wf = true) :
    (s.modMemory b f).MemoryWf :=
  modEntry_forall (P := fun m : Memory => m.wf = true) hs b (hf _)

/-! ### Lines stored (R29, R31, R64) -/

theorem State.MemoryWf.takeGoodLine (b : Buf) (t l : Nat) (xs : List Sample) : (s.takeGoodLine b t l xs).MemoryWf :=
  (hs.modMemory b fun _ hm => Memory.wf_writeLine hm l xs).of_dram rfl

theorem State.MemoryWf.takeBadLine (b : Buf) (l : Nat) : (s.takeBadLine b l).MemoryWf :=
  (hs.modMemory b fun _ hm => Memory.wf_writeLine hm l _).of_dram rfl

theorem State.MemoryWf.takeMissing (b : Buf) : (s.takeMissing b).MemoryWf := by
  unfold State.takeMissing
  generalize s.pool.buffers[b].missing = ls
  induction ls generalizing s with
  | nil => exact hs
  | cons l ls ih => exact ih (hs.takeBadLine b l)

theorem State.MemoryWf.closeFrame (h : Head) (b : Buf) (d : FrameDesc) : (s.closeFrame h b d).MemoryWf := by
  have assembled : (s.assembleFrame b d.slot).MemoryWf := (hs.takeMissing b).of_dram rfl
  exact assembled.of_dram (by simp [State.closeFrame])

theorem State.MemoryWf.endAssembly (h : Head) : (s.endAssembly h).MemoryWf := by
  unfold State.endAssembly
  split <;> [exact hs.closeFrame h _ _; exact hs.of_dram rfl]

theorem State.MemoryWf.takeFrameHead (h : Head) (f : FrameHeadFields) : (s.takeFrameHead h f).MemoryWf := by
  unfold State.takeFrameHead
  dsimp only
  split <;> [exact (hs.closeFrame h _ _).of_dram (State.openingTests_dram _ _ _); exact hs.of_dram (State.openingTests_dram _ _ _)]

theorem State.MemoryWf.takeLine (h : Head) (b : Buf) (d : FrameDesc) (passed : Bool) (p : List Byte) :
    (s.takeLine h b d passed p).MemoryWf := by
  unfold State.takeLine
  dsimp only
  split
  · exact hs.of_dram (by split <;> simp)
  split
  · exact hs.of_dram (by split <;> simp)
  split
  · exact (hs.takeBadLine b _).of_dram (State.headCheckFailure_dram _ _ _)
  split
  · exact hs.takeBadLine b _
  · exact hs.takeGoodLine b _ _ _

theorem State.MemoryWf.takeFrameEnd (h : Head) : (s.takeFrameEnd h).MemoryWf := by
  unfold State.takeFrameEnd
  split <;> [exact hs.closeFrame h _ _; exact hs.of_dram (by simp)]

theorem State.MemoryWf.takeReelEnd (h : Head) : (s.takeReelEnd h).MemoryWf := by
  unfold State.takeReelEnd
  dsimp only
  exact (hs.endAssembly h).of_dram (by split <;> simp)

theorem State.MemoryWf.onFrameHead (h : Head) (c : RxCell) : (s.onFrameHead h c).MemoryWf := by
  unfold State.onFrameHead
  split <;> [exact hs.takeFrameHead h _; exact hs.of_dram (by simp)]

theorem State.MemoryWf.onLine (h : Head) (c : RxCell) : (s.onLine h c).MemoryWf := by
  unfold State.onLine
  split <;> [exact hs.takeLine h _ _ _ _; exact hs.of_dram (by simp)]

theorem State.MemoryWf.onFrameEnd (h : Head) (c : RxCell) : (s.onFrameEnd h c).MemoryWf := by
  unfold State.onFrameEnd
  split <;> [exact hs.takeFrameEnd h; exact hs.of_dram (by simp)]

theorem State.MemoryWf.onReelEnd (h : Head) (c : RxCell) : (s.onReelEnd h c).MemoryWf := by
  unfold State.onReelEnd
  split <;> [exact hs.takeReelEnd h; exact hs.of_dram (by simp)]

theorem State.MemoryWf.onCell (p : Port) (k : Byte) (c : RxCell) : (s.onCell p k c).MemoryWf := by
  unfold State.onCell
  split
  · exact hs.of_dram (by simp)
  split
  · split
    · exact hs.onFrameHead _ c
    split
    · exact hs.onLine _ c
    split
    · exact hs.onFrameEnd _ c
    split
    · exact hs.onReelEnd _ c
    · exact hs.of_dram (by simp)
  · exact hs.of_dram (by split <;> [simp; (split <;> simp)])

theorem State.MemoryWf.loseHeadLink (h : Head) : (s.loseHeadLink h).MemoryWf := by
  have lost : ((s.setLink (headPort h) .down).raise .portDown h.val none 0).MemoryWf := hs.of_dram rfl
  have ended := lost.endAssembly h
  unfold State.loseHeadLink
  dsimp only
  refine State.MemoryWf.of_dram ?_ (State.emptyPort_dram _ _)
  split <;> [(split <;> [exact ended.of_dram (State.takeHold_dram _ _ _); exact ended]); exact ended]

/-! ### Repairs (R85, R92, R94) -/

theorem State.MemoryWf.writeRepair (j : RepairJob) : (s.writeRepair j).MemoryWf :=
  (hs.modMemory j.request.buf fun _ hm => Memory.wf_fills hm (s.repairFills j)).of_dram rfl

theorem State.MemoryWf.completeRepair (j : RepairJob) : (s.completeRepair j).MemoryWf := by
  refine (hs.writeRepair j).of_dram ?_
  unfold State.completeRepair
  dsimp only
  rw [State.engineTake_dram, State.setEngine_dram]
  split <;> simp

theorem State.MemoryWf.abandonRepair : s.abandonRepair.MemoryWf := by
  unfold State.abandonRepair
  split <;> [exact hs; exact (hs.modMemory _ fun _ hm => Memory.wf_fills hm _).of_dram rfl]

theorem State.MemoryWf.powerOn : s.powerOn.MemoryWf := hs.abandonRepair.of_dram rfl

theorem State.MemoryWf.softReset : s.softReset.MemoryWf := hs.abandonRepair.of_dram rfl

end

end Sys2Proof.Machine
end

section
/-! PROOFS. What every command leaves alone: the settings, but for the one its own order sets, and the canonical form of the DRAM
regions (O7, O8). -/

namespace Sys2Proof.Machine

/-! ### The three relations -/

/-- Of the settings, a command has changed no more than those its own order sets. -/
structure Settings.OnlyBy (c : Instr) (a b : Settings) : Prop where
  gauges : b.gauges ≠ a.gauges → c = .setGauge
  marks : b.lowMark ≠ a.lowMark ∨ b.resumeMark ≠ a.resumeMark → c = .setPoolMarks
  defect : b.defect ≠ a.defect → c = .setDefectLimits
  repair : b.repairWait ≠ a.repairWait ∨ b.repairSpan ≠ a.repairSpan → c = .setRepairLimits
  profiles : b.profiles ≠ a.profiles → c = .loadProfileCurve ∨ c = .setProfileLevels
  laneMap : b.laneMap ≠ a.laneMap → c = .writeLaneMap
  ackWait : b.ackWait ≠ a.ackWait → c = .setAckWait
  levels : b.levels ≠ a.levels ∨ b.mask ≠ a.mask → c = .setNoticeLevels
  noticePort : b.noticePort ≠ a.noticePort → c = .setNoticePort

theorem Settings.OnlyBy.refl (c : Instr) (a : Settings) : OnlyBy c a a := by constructor <;> simp

/-- The standing part of the state is left alone, and the regions stay canonical. -/
structure State.Stands (s t : State) : Prop where
  standing : t.standing = s.standing
  memory : s.MemoryWf → t.MemoryWf

/-- The effects of an order: no settings but its own are changed, and the regions stay canonical. -/
structure State.Confined (c : Instr) (s t : State) : Prop where
  settings : s.settings.OnlyBy c t.settings
  memory : s.MemoryWf → t.MemoryWf

/-- A command that changes the last served port takes an order. -/
structure State.Follows (c : Instr) (s t : State) : Prop extends State.Confined c s t where
  lastPort : t.lastPort ≠ s.lastPort → ∃ n ∈ orderCodes, c ∈ orderCommands n

section

variable {s t u : State} {c : Instr}

theorem State.Stands.refl (s : State) : s.Stands s := ⟨rfl, id⟩

theorem State.Stands.trans (h : s.Stands t) (h' : t.Stands u) : s.Stands u :=
  ⟨h'.standing.trans h.standing, fun hs => h'.memory (h.memory hs)⟩

theorem State.Stands.of_dram (hs : t.standing = s.standing) (hd : t.pool.dram = s.pool.dram) : s.Stands t :=
  ⟨hs, fun h => h.of_dram hd⟩

theorem State.Stands.handOver (h : s.Stands t) : s.Stands t.handOver :=
  h.trans (.of_dram t.handOver_standing t.handOver_dram)

theorem State.Stands.confined (h : s.Stands t) : s.Confined c t where
  settings := State.settings_of_standing h.standing ▸ .refl c _
  memory := h.memory

theorem State.Stands.follows (h : s.Stands t) : s.Follows c t where
  toConfined := h.confined
  lastPort hp := absurd (congrArg Standing.lastPort h.standing) hp

/-- What an order leaves to after its reply and the hand-over. -/
theorem State.Stands.replied (p : Port) (o : Order) (e : OrderEffect) : State.Stands e.1 (replied p o e) :=
  .handOver (.of_dram (State.formReply_standing _ _ _ _ _ _) (State.formReply_dram _ _ _ _ _ _))

theorem State.Confined.stands (h : s.Confined c t) (h' : t.Stands u) : s.Confined c u where
  settings := State.settings_of_standing h'.standing ▸ h.settings
  memory hs := h'.memory (h.memory hs)

/-- What a command that takes an order may lead to: nothing taken, the refusal of an unknown code, or the order's effects. -/
theorem State.takeOrder_cases {mine : Order → Bool} {apply : State → Order → OrderEffect}
    (h : s.takeOrder mine apply = .next t) :
    t = s ∨ ∃ p o, t = replied p o ((s.popOrder p).refuse .badOrder) ∨ t = replied p o (apply (s.popOrder p) o) := by
  unfold State.takeOrder at h
  split at h
  · cases h
    exact .inl rfl
  · rename_i p o _
    split at h
    · cases h
      exact .inr ⟨p, o, .inl rfl⟩
    · split at h <;> cases h
      · exact .inr ⟨p, o, .inr rfl⟩
      · exact .inl rfl

/-- An order command whose order's effects are confined to it. -/
theorem State.Confined.takeOrder {mine : Order → Bool} {apply : State → Order → OrderEffect}
    (h : s.takeOrder mine apply = .next t) (n : Nat) (ha : ∀ (s : State) (o : Order), s.Confined c (apply s o).1)
    (hn : n ∈ orderCodes := by decide) (hc : c ∈ orderCommands n := by decide) : s.Follows c t where
  toConfined := by
    obtain rfl | ⟨p, o, rfl | rfl⟩ := State.takeOrder_cases h
    · exact (State.Stands.refl t).confined
    · have refused : s.Confined c ((s.popOrder p).refuse .badOrder).1 := ⟨.refl c _, fun hs => hs.of_dram rfl⟩
      exact refused.stands (.replied p o _)
    · have confined := ha (s.popOrder p) o
      have applied : s.Confined c (apply (s.popOrder p) o).1 :=
        ⟨confined.settings, fun hs => confined.memory (hs.of_dram rfl)⟩
      exact applied.stands (.replied p o _)
  lastPort _ := ⟨n, hn, hc⟩

end

/-! ### Orders that set nothing -/

section

variable (s : State)

theorem State.Stands.withArgs {α : Type} {a : Args α} {k : α → OrderEffect} (hk : ∀ x, s.Stands (k x).1) :
    s.Stands (s.withArgs a k).1 := by
  unfold State.withArgs
  split <;> [exact refl s; exact refl s; exact hk _]

theorem State.Stands.applyMountReel (o : Order) : s.Stands (applyMountReel s o).1 := by
  refine withArgs s fun a => ?_
  unfold State.mountOrder
  split <;> [exact refl s; skip]
  split <;> [exact refl s; skip]
  split <;> [exact refl s; skip]
  split <;> [exact refl s; exact of_dram (State.mount_standing _ _ _) (State.mount_dram _ _ _)]

theorem State.Stands.deferOrder (r : Slot) (d : Deferred) : s.Stands (s.deferOrder r d).1 := by
  unfold State.deferOrder
  split <;> [exact of_dram rfl rfl; exact refl s]

theorem State.Stands.applyUnmount (o : Order) : s.Stands (applyUnmount s o).1 := by
  refine withArgs s fun a => ?_
  unfold State.unmountOrder State.unmountAbort State.unmountEnd
  split
  · split
    case h_1 | h_2 | h_3 =>
      dsimp only
      exact of_dram (s.abortReel_standing a.1) (s.abortReel_dram a.1)
    all_goals exact refl s
  · split
    case h_1 | h_2 | h_3 =>
      split <;> [exact deferOrder s _ _; exact of_dram (s.enterDraining_standing _ _) (s.enterDraining_dram _ _)]
    all_goals exact refl s

theorem State.Stands.applyHoldReel (o : Order) : s.Stands (applyHoldReel s o).1 := by
  refine withArgs s fun r => ?_
  unfold State.holdOrder
  split
  case h_1 | h_2 => split <;> [exact deferOrder s _ _; exact of_dram (s.takeHold_standing _ _) (s.takeHold_dram _ _)]
  all_goals exact refl s

theorem State.Stands.applyResumeReel (o : Order) : s.Stands (applyResumeReel s o).1 := by
  refine withArgs s fun r => ?_
  unfold State.resumeOrder
  split <;> [exact of_dram (s.resume_standing r) (s.resume_dram r); exact refl s]

theorem State.Stands.applySetReelPolicy (o : Order) : s.Stands (applySetReelPolicy s o).1 := by
  refine withArgs s fun a => ?_
  unfold State.policyOrder
  split
  case h_1 | h_2 | h_3 =>
    split <;> [exact deferOrder s _ _; exact of_dram (s.applyPolicy_standing _ _) (s.applyPolicy_dram _ _)]
  all_goals exact refl s

theorem State.Stands.applySetReelGrade (o : Order) : s.Stands (applySetReelGrade s o).1 := by
  refine withArgs s fun a => ?_
  unfold State.gradeOrder
  split
  case h_1 | h_2 | h_3 => exact of_dram rfl rfl
  all_goals exact refl s

theorem State.Stands.placeCueOn (r : Slot) (x : Cue) : s.Stands (s.placeCueOn r x).1 := by
  unfold State.placeCueOn
  dsimp only
  split <;> [exact refl s; skip]
  split <;> [exact refl s; exact of_dram rfl rfl]

theorem State.Stands.applySetCue (o : Order) : s.Stands (applySetCue s o).1 := by
  refine withArgs s fun a => ?_
  unfold State.cueOrder
  split
  case h_1 | h_2 | h_3 => exact placeCueOn s _ _
  all_goals exact refl s

theorem State.Stands.applyClearCues (o : Order) : s.Stands (applyClearCues s o).1 := by
  refine withArgs s fun r => ?_
  unfold State.clearOrder
  split
  case h_1 | h_2 | h_3 => exact of_dram rfl rfl
  all_goals exact refl s

theorem State.Stands.writeOrder (i : Option RecordNo) (a : Option Account) (q : Option (Option PositionNo)) :
    s.Stands (s.writeOrder i a q).1 := by
  unfold State.writeOrder
  split
  · exact refl s
  · unfold State.writeRecord
    split
    case h_1 =>
      split <;> [exact of_dram (s.createRecord_standing _ _ _) (s.createRecord_dram _ _ _); exact refl s]
    case h_2 | h_3 => exact of_dram rfl rfl
    all_goals exact refl s
  · exact refl s

theorem State.Stands.applyWriteCatalogue (o : Order) : s.Stands (applyWriteCatalogue s o).1 := by
  unfold Machine.applyWriteCatalogue
  split <;> [exact writeOrder s _ _ _; exact writeOrder s _ _ _; exact refl s]

theorem State.Stands.applyEraseCatalogue (o : Order) : s.Stands (applyEraseCatalogue s o).1 := by
  refine withArgs s fun i => ?_
  unfold State.eraseOrder
  split
  case h_1 | h_2 => exact of_dram (s.eraseRecord_standing i) (s.eraseRecord_dram i)
  all_goals exact refl s

theorem State.Stands.retryPass (x : Option (BitVec 16 × PositionNo)) : s.Stands (s.retryPass x) :=
  of_dram (s.retryPass_standing x) (s.retryPass_dram x)

theorem State.Stands.applyDefineShelves (o : Order) : s.Stands (applyDefineShelves s o).1 := by
  refine withArgs s fun a => ?_
  have defined : s.Stands (s.definePositions a.1 a.2) := of_dram rfl rfl
  unfold State.defineOrder
  split
  · exact refl s
  · dsimp only
    split <;> [exact defined.trans (retryPass _ none); exact defined]

theorem State.Stands.setLock (q : PositionNo) (x : Bool) : s.Stands (s.setLock q x) := of_dram rfl rfl

theorem State.Stands.applyShelfLock (o : Order) : s.Stands (applyShelfLock s o).1 := withArgs s fun q => setLock s q true

theorem State.Stands.applyShelfUnlock (o : Order) : s.Stands (applyShelfUnlock s o).1 := by
  refine withArgs s fun q => ?_
  unfold State.unlockOrder
  dsimp only
  split <;> [exact (setLock s q false).trans (retryPass _ none); exact setLock s q false]

theorem State.Stands.applyNextTicket (o : Order) : s.Stands (applyNextTicket s o).1 := by
  unfold Machine.applyNextTicket
  split
  · split <;> [exact of_dram rfl rfl; exact refl s]
  · exact refl s

theorem State.Stands.applyConfirmTicket (o : Order) : s.Stands (applyConfirmTicket s o).1 := by
  refine withArgs s fun n => ?_
  unfold State.confirmOrder
  split
  · exact refl s
  · split <;> [exact of_dram (s.confirm_standing _) (s.confirm_dram _); exact refl s]

theorem State.Stands.applyRefuseTicket (o : Order) : s.Stands (applyRefuseTicket s o).1 := by
  refine withArgs s fun a => ?_
  unfold State.refuseOrder
  split
  · exact refl s
  · split
    · dsimp only
      split
      · exact of_dram (s.refusePosition_standing _ _ _) (s.refusePosition_dram _ _ _)
      · exact of_dram (s.allocateTicket_standing _ _) (s.allocateTicket_dram _ _)
    · exact refl s

theorem State.Stands.applyIdentify (o : Order) : s.Stands (applyIdentify s o).1 := by
  unfold Machine.applyIdentify
  split <;> exact refl s

end

/-! ### Orders that set something, and SOFT-RESET -/

section

variable (s : State)

theorem State.Confined.refl (c : Instr) : s.Confined c s := (State.Stands.refl s).confined

theorem State.Confined.withArgs {c : Instr} {α : Type} {a : Args α} {k : α → OrderEffect}
    (hk : ∀ x, s.Confined c (k x).1) : s.Confined c (s.withArgs a k).1 := by
  unfold State.withArgs
  split <;> [exact refl s c; exact refl s c; exact hk _]

/-- An order that only reads. -/
theorem State.Confined.reads {c : Instr} {α : Type} (a : Args α) (words : α → List Word) :
    s.Confined c (s.withArgs a fun x => (s, .done, words x)).1 := withArgs s fun _ => refl s c

theorem State.Confined.applySetGauge (o : Order) : s.Confined .setGauge (applySetGauge s o).1 := by
  unfold Machine.applySetGauge State.gaugeOrder
  split
  · split
    · exact refl s _
    · exact refl s _
    · split
      · exact refl s _
      · exact ⟨{ Settings.OnlyBy.refl _ _ with gauges := fun _ => rfl }, fun hs => hs.of_dram rfl⟩
  · exact refl s _

theorem State.Stands.evaluatePacing : s.Stands s.evaluatePacing := by
  unfold State.evaluatePacing
  split
  · split <;> [exact of_dram s.becomePaced_standing s.becomePaced_dram; exact refl s]
  · split <;> [exact of_dram s.becomeOpen_standing s.becomeOpen_dram; exact refl s]

theorem State.Confined.applySetPoolMarks (o : Order) : s.Confined .setPoolMarks (applySetPoolMarks s o).1 := by
  refine withArgs s fun a => ?_
  have set : s.Confined .setPoolMarks { s with pool := { s.pool with lowMark := a.1, resumeMark := a.2 } } :=
    ⟨{ Settings.OnlyBy.refl _ _ with marks := fun _ => rfl }, fun hs => hs.of_dram rfl⟩
  exact set.stands (.evaluatePacing _)

theorem State.Confined.applySetDefectLimits (o : Order) : s.Confined .setDefectLimits (applySetDefectLimits s o).1 := by
  unfold Machine.applySetDefectLimits
  split
  · split
    · exact ⟨{ Settings.OnlyBy.refl _ _ with defect := fun _ => rfl }, fun hs => hs.of_dram rfl⟩
    · exact refl s _
  · exact refl s _

theorem State.Confined.applySetRepairLimits (o : Order) : s.Confined .setRepairLimits (applySetRepairLimits s o).1 := by
  unfold Machine.applySetRepairLimits
  split
  · split
    · exact ⟨{ Settings.OnlyBy.refl _ _ with repair := fun _ => rfl }, fun hs => hs.of_dram rfl⟩
    · exact refl s _
  · exact refl s _

theorem State.Confined.applyLoadProfileCurve (o : Order) : s.Confined .loadProfileCurve (applyLoadProfileCurve s o).1 := by
  refine withArgs s fun a => ?_
  unfold State.loadOrder
  split
  · exact refl s _
  · exact ⟨{ Settings.OnlyBy.refl _ _ with profiles := fun _ => .inl rfl }, fun hs => hs.of_dram rfl⟩

theorem State.Confined.applySetProfileLevels (o : Order) :
    s.Confined .setProfileLevels (applySetProfileLevels s o).1 := by
  refine withArgs s fun a => ?_
  unfold State.levelsOrder
  split
  · exact refl s _
  · exact ⟨{ Settings.OnlyBy.refl _ _ with profiles := fun _ => .inr rfl }, fun hs => hs.of_dram rfl⟩

theorem State.Confined.applyWriteLaneMap (o : Order) : s.Confined .writeLaneMap (applyWriteLaneMap s o).1 :=
  withArgs s fun _ => ⟨{ Settings.OnlyBy.refl _ _ with laneMap := fun _ => rfl }, fun hs => hs.of_dram rfl⟩

theorem State.Confined.applySetAckWait (o : Order) : s.Confined .setAckWait (applySetAckWait s o).1 := by
  unfold Machine.applySetAckWait
  split
  · split
    · exact ⟨{ Settings.OnlyBy.refl _ _ with ackWait := fun _ => rfl }, fun hs => hs.of_dram rfl⟩
    · exact refl s _
  · exact refl s _

theorem State.Confined.applySetNoticeLevels (o : Order) : s.Confined .setNoticeLevels (applySetNoticeLevels s o).1 :=
  withArgs s fun _ => ⟨{ Settings.OnlyBy.refl _ _ with levels := fun _ => rfl }, fun hs => hs.of_dram rfl⟩

theorem State.Confined.applySetNoticePort (o : Order) : s.Confined .setNoticePort (applySetNoticePort s o).1 :=
  withArgs s fun _ => ⟨{ Settings.OnlyBy.refl _ _ with noticePort := fun _ => rfl }, fun hs => hs.of_dram rfl⟩

theorem State.Confined.applySoftReset (c : Instr) (o : Order) : s.Confined c (applySoftReset s o).1 := by
  unfold Machine.applySoftReset
  split
  · refine ⟨?_, fun hs => hs.softReset⟩
    have kept : s.softReset.settings = s.settings := by
      unfold State.softReset
      rw [State.abandonRepair_eq]
      rfl
    exact kept ▸ .refl c _
  · exact refl s c

end

/-! ### Events -/

/-- The next state of an outcome, if there is one, has the standing part of `s` and canonical regions. -/
def NextStands (s : State) (x : Host.Outcome State Fault Refusal) : Prop := ∀ t, x = .next t → s.Stands t

section

variable (s : State)

theorem NextStands.next : NextStands s (.next s) := by
  rintro t ⟨⟩
  exact .refl _

variable {s}

theorem State.Stands.finish {u : State} (h : s.Stands u) : NextStands s u.finish := by
  rintro t ⟨⟩
  exact h.handOver

theorem State.Stands.arrival {u : State} (p : Port) (h : s.Stands u) : NextStands s (s.arrival p u) := by
  unfold State.arrival
  split <;> [exact h.finish; exact .next s]

variable (s)

theorem NextStands.headLinkLoss (h : Head) : NextStands s (execHeadLinkLoss h s) := by
  unfold execHeadLinkLoss
  split <;> [exact State.Stands.finish ⟨s.loseHeadLink_standing h, fun hs => hs.loseHeadLink h⟩; exact next s]

theorem NextStands.headLinkUp (h : Head) : NextStands s (execHeadLinkUp h s) := by
  unfold execHeadLinkUp
  split <;> [exact next s; exact (State.Stands.of_dram (s.gainHeadLink_standing h) (s.gainHeadLink_dram h)).finish]

theorem NextStands.storeLinkLoss : NextStands s (execStoreLinkLoss s) := by
  unfold execStoreLinkLoss
  split <;> [exact (State.Stands.of_dram s.loseStoreLink_standing s.loseStoreLink_dram).finish; exact next s]

theorem NextStands.storeLinkUp : NextStands s (execStoreLinkUp s) := by
  unfold execStoreLinkUp
  split
  · exact next s
  · exact State.Stands.finish (.of_dram rfl rfl)

theorem NextStands.repairWaitTimerExpiry (b : Buf) : NextStands s (execRepairWaitTimerExpiry b s) := by
  unfold execRepairWaitTimerExpiry
  split <;>
    [exact (State.Stands.of_dram (s.requestRepair_standing b none) (s.requestRepair_dram b none)).finish; exact next s]

theorem NextStands.ackTimerExpiry (b : Buf) : NextStands s (execAckTimerExpiry b s) := by
  unfold execAckTimerExpiry
  split <;> [exact (State.Stands.of_dram (s.ackExpiry_standing b) (s.ackExpiry_dram b)).finish; exact next s]

theorem NextStands.repairCompletion : NextStands s (execRepairCompletion s) := by
  unfold execRepairCompletion
  split <;> [exact next s; exact State.Stands.finish ⟨s.completeRepair_standing _, fun hs => hs.completeRepair _⟩]

theorem NextStands.outLine : NextStands s (execOutLine s) := by
  unfold execOutLine
  split
  · exact next s
  · split <;> [exact (State.Stands.of_dram (s.sendLine_standing _ _) (s.sendLine_dram _ _)).finish; exact next s]

theorem NextStands.sendCompletion : NextStands s (execSendCompletion s) := by
  unfold execSendCompletion
  split
  · exact next s
  · split <;> [exact (State.Stands.of_dram (s.completeSend_standing _) (s.completeSend_dram _)).finish; exact next s]

theorem NextStands.replySent (p : Port) : NextStands s (execReplySent p s) := by
  unfold execReplySent
  split
  · split <;> [exact (State.Stands.of_dram (s.sendMgmt_standing p _) (s.sendMgmt_dram p _)).finish; exact next s]
  · exact next s

theorem NextStands.noticeSent : NextStands s (execNoticeSent s) := by
  unfold execNoticeSent
  split
  · exact next s
  · split
    · split <;> [exact (State.Stands.of_dram (s.sendNotice_standing _ _) (s.sendNotice_dram _ _)).finish; exact next s]
    · exact next s

theorem NextStands.flowCellSent (h : Head) : NextStands s (execFlowCellSent h s) := by
  unfold execFlowCellSent
  split
  · exact next s
  · split
    · exact State.Stands.finish (.of_dram rfl rfl)
    · exact next s

end

/-! ### Every command -/

/-- Every command but the release of the reset input follows the rule: an event leaves the standing part alone, and an order sets
its own setting alone. -/
theorem State.Follows.of_exec {c : Instr} {s t : State} (hc : c ≠ .powerOn) (h : exec c s = .next t) : s.Follows c t := by
  cases c with
  | powerOn => exact absurd rfl hc
  | resetInputLow =>
    cases h
    exact ⟨⟨.refl _ _, fun hs => hs.of_dram rfl⟩, fun hp => absurd rfl hp⟩
  | headLinkLoss h' => exact (NextStands.headLinkLoss s h' t h).follows
  | headLinkUp h' => exact (NextStands.headLinkUp s h' t h).follows
  | storeLinkLoss => exact (NextStands.storeLinkLoss s t h).follows
  | storeLinkUp => exact (NextStands.storeLinkUp s t h).follows
  | frameHead h' x =>
    exact (Stands.arrival _ ⟨s.onFrameHead_standing h' x, fun hs => hs.onFrameHead h' x⟩ t h).follows
  | line h' x => exact (Stands.arrival _ ⟨s.onLine_standing h' x, fun hs => hs.onLine h' x⟩ t h).follows
  | frameEnd h' x => exact (Stands.arrival _ ⟨s.onFrameEnd_standing h' x, fun hs => hs.onFrameEnd h' x⟩ t h).follows
  | reelEnd h' x => exact (Stands.arrival _ ⟨s.onReelEnd_standing h' x, fun hs => hs.onReelEnd h' x⟩ t h).follows
  | storeAck x => exact (Stands.arrival _ (.of_dram (s.onStoreAck_standing x) (s.onStoreAck_dram x)) t h).follows
  | credit x => exact (Stands.arrival _ (.of_dram (s.onCredit_standing x) (s.onCredit_dram x)) t h).follows
  | order p x => exact (Stands.arrival _ (.of_dram (s.onOrder_standing p x) (s.onOrder_dram p x)) t h).follows
  | otherKindCell p k x => exact (Stands.arrival _ ⟨s.onCell_standing p k x, fun hs => hs.onCell p k x⟩ t h).follows
  | repairWaitTimerExpiry b => exact (NextStands.repairWaitTimerExpiry s b t h).follows
  | ackTimerExpiry b => exact (NextStands.ackTimerExpiry s b t h).follows
  | repairCompletion => exact (NextStands.repairCompletion s t h).follows
  | outLine => exact (NextStands.outLine s t h).follows
  | sendCompletion => exact (NextStands.sendCompletion s t h).follows
  | replySent p => exact (NextStands.replySent s p t h).follows
  | noticeSent => exact (NextStands.noticeSent s t h).follows
  | flowCellSent h' => exact (NextStands.flowCellSent s h' t h).follows
  | mountReel => exact Confined.takeOrder h 1 fun s o => (Stands.applyMountReel s o).confined
  | unmountReelEnd => exact Confined.takeOrder h 2 fun s o => (Stands.applyUnmount s o).confined
  | unmountReelAbort => exact Confined.takeOrder h 2 fun s o => (Stands.applyUnmount s o).confined
  | holdReel => exact Confined.takeOrder h 3 fun s o => (Stands.applyHoldReel s o).confined
  | resumeReel => exact Confined.takeOrder h 4 fun s o => (Stands.applyResumeReel s o).confined
  | setReelPolicy => exact Confined.takeOrder h 5 fun s o => (Stands.applySetReelPolicy s o).confined
  | readReel => exact Confined.takeOrder h 6 fun s _ => .reads s _ _
  | setGauge => exact Confined.takeOrder h 7 Confined.applySetGauge
  | readHead => exact Confined.takeOrder h 8 fun s _ => .reads s _ _
  | setPoolMarks => exact Confined.takeOrder h 9 Confined.applySetPoolMarks
  | readPool => exact Confined.takeOrder h 10 fun s _ => .reads s _ _
  | setDefectLimits => exact Confined.takeOrder h 11 Confined.applySetDefectLimits
  | setRepairLimits => exact Confined.takeOrder h 12 Confined.applySetRepairLimits
  | loadProfileCurve => exact Confined.takeOrder h 13 Confined.applyLoadProfileCurve
  | setProfileLevels => exact Confined.takeOrder h 14 Confined.applySetProfileLevels
  | readProfile => exact Confined.takeOrder h 15 fun s _ => .reads s _ _
  | setReelGrade => exact Confined.takeOrder h 16 fun s o => (Stands.applySetReelGrade s o).confined
  | setCue => exact Confined.takeOrder h 17 fun s o => (Stands.applySetCue s o).confined
  | clearCues => exact Confined.takeOrder h 18 fun s o => (Stands.applyClearCues s o).confined
  | writeLaneMap => exact Confined.takeOrder h 19 Confined.applyWriteLaneMap
  | setAckWait => exact Confined.takeOrder h 20 Confined.applySetAckWait
  | readLanes => exact Confined.takeOrder h 21 fun s _ => .reads s _ _
  | writeCatalogue => exact Confined.takeOrder h 22 fun s o => (Stands.applyWriteCatalogue s o).confined
  | eraseCatalogue => exact Confined.takeOrder h 23 fun s o => (Stands.applyEraseCatalogue s o).confined
  | readCatalogue => exact Confined.takeOrder h 24 fun s _ => .reads s _ _
  | defineShelves => exact Confined.takeOrder h 25 fun s o => (Stands.applyDefineShelves s o).confined
  | shelfLock => exact Confined.takeOrder h 26 fun s o => (Stands.applyShelfLock s o).confined
  | shelfUnlock => exact Confined.takeOrder h 27 fun s o => (Stands.applyShelfUnlock s o).confined
  | readShelf => exact Confined.takeOrder h 28 fun s _ => .reads s _ _
  | nextTicket => exact Confined.takeOrder h 29 fun s o => (Stands.applyNextTicket s o).confined
  | confirmTicket => exact Confined.takeOrder h 30 fun s o => (Stands.applyConfirmTicket s o).confined
  | refuseTicket => exact Confined.takeOrder h 31 fun s o => (Stands.applyRefuseTicket s o).confined
  | identify => exact Confined.takeOrder h 32 fun s o => (Stands.applyIdentify s o).confined
  | softReset => exact Confined.takeOrder h 33 fun s o => Confined.applySoftReset s _ o
  | setNoticeLevels => exact Confined.takeOrder h 34 Confined.applySetNoticeLevels
  | setNoticePort => exact Confined.takeOrder h 35 Confined.applySetNoticePort

/-- Settles O8: the settings as the rule of every command leaves them, and the port it serves. -/
theorem settingsChangeOnlyByTheirOrders : Obligations.SettingsChangeOnlyByTheirOrders := by
  intro c s t hc h
  obtain ⟨⟨⟨gauges, marks, defect, repair, profiles, laneMap, ackWait, levels, port⟩, -⟩, lastPort⟩ := State.Follows.of_exec hc h
  exact ⟨gauges, marks, defect, repair, profiles, laneMap, ackWait, levels, port, lastPort⟩

theorem State.MemoryWf.exec {s : State} (hs : s.MemoryWf) {c : Instr} {t : State} (h : exec c s = .next t) : t.MemoryWf := by
  by_cases hc : c = .powerOn
  · subst hc
    cases h
    exact hs.powerOn
  · exact (State.Follows.of_exec hc h).memory hs

/-- Settles O7: the command at the front of the queue keeps the form, whichever it is. -/
theorem stepKeepsMemoryCanonical : Obligations.StepKeepsMemoryCanonical := by
  intro s t hs h
  unfold step at h
  split at h
  · cases h
    exact hs
  · rename_i rest _
    exact State.MemoryWf.exec (s := { s with pending := rest }) hs h

end Sys2Proof.Machine
end

section
/-! PROOFS. The measurement of a frame: its registration offset, its shrink, the estimate and the perf-fault causes (R36, R37,
R39 to R41). -/

namespace Sys2Proof.Machine

/-! ### The registration offset (R36, R37) -/

theorem clampOffset_within {g : Gauge} {o : Int} (hl : -(g.range : Int) ≤ o) (hh : o ≤ g.range) : clampOffset g o = o := by
  rw [clampOffset, if_neg (by omega), if_neg (by omega)]

theorem clampOffset_above {g : Gauge} {o : Int} (h : (g.range : Int) < o) : clampOffset g o = g.range := if_pos h

theorem clampOffset_below {g : Gauge} {o : Int} (h : o < -(g.range : Int)) : clampOffset g o = -(g.range : Int) := by
  rw [clampOffset, if_neg (by omega), if_pos h]

/-- An offset is clamped exactly when it lies outside the registration range. -/
theorem clampOffset_ne_iff {g : Gauge} {o : Int} : clampOffset g o ≠ o ↔ o < -(g.range : Int) ∨ (g.range : Int) < o := by
  by_cases hh : (g.range : Int) < o
  · rw [clampOffset_above hh]
    omega
  by_cases hl : o < -(g.range : Int)
  · rw [clampOffset_below hl]
    omega
  · rw [clampOffset_within (by omega) (by omega)]
    omega

/-! ### Shrink (R39) -/

theorem increasing_iff (edges : List Nat) : increasing edges = true ↔ edges.Pairwise fun a b => a < b := by
  rw [← List.isChain_iff_pairwise]
  induction edges with
  | nil => simp [increasing]
  | cons a l ih =>
    cases l with
    | nil => simp [increasing]
    | cons b l => simp only [increasing, Bool.and_eq_true, decide_eq_true_eq, ih, List.isChain_cons_cons]

theorem measuredShrink_some {g : Gauge} {edges : List Nat} (hl : 2 ≤ edges.length) (hr : edges.Pairwise fun a b => a < b) :
    measuredShrink g edges = some ((((g.pitch : Int) - measuredPitch edges) * 10000).tdiv g.pitch) :=
  if_pos ⟨hl, (increasing_iff edges).2 hr⟩

theorem measuredShrink_none {g : Gauge} {edges : List Nat} (h : edges.length < 2 ∨ ¬ edges.Pairwise fun a b => a < b) :
    measuredShrink g edges = none := if_neg fun ⟨hl, hi⟩ => h.elim (Nat.not_lt.2 hl) fun hn => hn ((increasing_iff edges).1 hi)

theorem shrinkInRange_iff {x : Int} : shrinkInRange x = true ↔ -500 ≤ x ∧ x ≤ 2000 := decide_eq_true_iff

/-! ### The perf-fault causes (R41) -/

/-- The cause of a measured shrink that is out of range. -/
def shrinkCauses (shrink : Option Int) : List Cause :=
  match shrink with
  | some x => if shrinkInRange x then [] else [.shrinkOutOfRange]
  | none => []

theorem mem_shrinkCauses {c : Cause} {shrink : Option Int} :
    c ∈ shrinkCauses shrink ↔ c = .shrinkOutOfRange ∧ ∃ x, shrink = some x ∧ (x < -500 ∨ 2000 < x) := by
  cases shrink with
  | none => simp [shrinkCauses]
  | some x =>
    have outside : ¬ shrinkInRange x = true ↔ x < -500 ∨ 2000 < x := by
      rw [shrinkInRange_iff]
      omega
    simp only [shrinkCauses, List.mem_ite_nil_left, outside, List.mem_singleton, Option.some.injEq, exists_eq_left', and_comm]

theorem perfCauses_eq (g : Gauge) (edges : List Nat) : perfCauses g edges =
    (if edges.isEmpty then [.noEdges] else []) ++ (if offsetIsClamped g edges then [.offsetClamped] else []) ++
      (if edges.length = 1 then [.tooFewEdges] else []) ++ (if increasing edges then [] else [.edgesOutOfOrder]) ++
      shrinkCauses (measuredShrink g edges) := by
  unfold perfCauses shrinkCauses
  cases measuredShrink g edges <;> rfl

/-- A perf-fault cause stands exactly where its rule says. -/
theorem mem_perfCauses {g : Gauge} {edges : List Nat} {c : Cause} : c ∈ perfCauses g edges ↔
    edges = [] ∧ c = .noEdges ∨ offsetIsClamped g edges = true ∧ c = .offsetClamped ∨
      edges.length = 1 ∧ c = .tooFewEdges ∨ (¬ edges.Pairwise fun a b => a < b) ∧ c = .edgesOutOfOrder ∨
      c = .shrinkOutOfRange ∧ ∃ x, measuredShrink g edges = some x ∧ (x < -500 ∨ 2000 < x) := by
  simp only [perfCauses_eq, List.mem_append, List.mem_ite_nil_right, List.mem_ite_nil_left, List.mem_singleton,
    List.isEmpty_iff, increasing_iff, mem_shrinkCauses, or_assoc]

/-- The five causes in ascending order of code. -/
def allCauses : List Cause := [.noEdges, .offsetClamped, .tooFewEdges, .edgesOutOfOrder, .shrinkOutOfRange]

theorem ite_sublist {α : Type} (p : Prop) [Decidable p] (l : List α) : (if p then l else []).Sublist l := by
  split <;> simp

theorem shrinkCauses_sublist (shrink : Option Int) : (shrinkCauses shrink).Sublist [.shrinkOutOfRange] := by
  unfold shrinkCauses
  split
  · split <;> simp
  · simp

theorem perfCauses_sublist (g : Gauge) (edges : List Nat) : (perfCauses g edges).Sublist allCauses := by
  have order : (if increasing edges then [] else [Cause.edgesOutOfOrder]).Sublist [.edgesOutOfOrder] := by split <;> simp
  rw [perfCauses_eq]
  exact ((((ite_sublist _ _).append (ite_sublist _ _)).append (ite_sublist _ _)).append order).append
    (shrinkCauses_sublist _)

theorem perfCauses_ascending (g : Gauge) (edges : List Nat) :
    ((perfCauses g edges).map Cause.code).Pairwise fun a b => a < b :=
  List.Pairwise.sublist ((perfCauses_sublist g edges).map Cause.code) (by decide)

/-! ### The estimate (R40) -/

theorem updateEstimate_outside {x : Int} (h : x < -500 ∨ 2000 < x) (estimate : Option Int) :
    updateEstimate estimate (some x) = estimate := if_neg (by rw [shrinkInRange_iff]; omega)

theorem updateEstimate_within {x : Int} (hl : -500 ≤ x) (hh : x ≤ 2000) (estimate : Option Int) :
    updateEstimate estimate (some x) = some (match estimate with | none => x | some e => e + (x - e).tdiv 8) := by
  have within : shrinkInRange x = true := shrinkInRange_iff.2 ⟨hl, hh⟩
  cases estimate <;> exact if_pos within

/-! ### The formulas, in the words of the statement -/

theorem frameOffset_formulas (g : Gauge) (last : Int) (e : Nat) (rest : List Nat) :
    let raw : Int := ((e : Int) - g.anchor + 8).fdiv 16
    frameOffset g last [] = last ∧
    (-(g.range : Int) ≤ raw → raw ≤ g.range → frameOffset g last (e :: rest) = raw) ∧
    ((g.range : Int) < raw → frameOffset g last (e :: rest) = g.range) ∧
    (raw < -(g.range : Int) → frameOffset g last (e :: rest) = -(g.range : Int)) ∧
    (Cause.offsetClamped ∈ perfCauses g (e :: rest) ↔ raw < -(g.range : Int) ∨ (g.range : Int) < raw) := by
  refine ⟨rfl, clampOffset_within, clampOffset_above, clampOffset_below, ?_⟩
  rw [mem_perfCauses]
  simp only [reduceCtorEq, and_false, false_and, false_or, or_false, and_true]
  exact decide_eq_true_iff.trans clampOffset_ne_iff

theorem shrink_formulas (g : Gauge) (edges : List Nat) :
    let rising := edges.Pairwise fun a b => a < b
    let pitch : Int := ((edges.getLastD 0 : Int) - edges.headD 0).tdiv ((edges.length : Int) - 1)
    (2 ≤ edges.length → rising → measuredShrink g edges = some ((((g.pitch : Int) - pitch) * 10000).tdiv g.pitch)) ∧
    (edges.length < 2 ∨ ¬ rising → measuredShrink g edges = none) ∧
    (Cause.noEdges ∈ perfCauses g edges ↔ edges = []) ∧ Cause.offsetClamped ∉ perfCauses g [] ∧
    (Cause.tooFewEdges ∈ perfCauses g edges ↔ edges.length = 1) ∧
    (Cause.edgesOutOfOrder ∈ perfCauses g edges ↔ ¬ rising) ∧
    (Cause.shrinkOutOfRange ∈ perfCauses g edges ↔ ∃ x, measuredShrink g edges = some x ∧ (x < -500 ∨ 2000 < x)) ∧
    ((perfCauses g edges).map Cause.code).Pairwise fun a b => a < b := by
  refine ⟨measuredShrink_some, measuredShrink_none, ?_, ?_, ?_, ?_, ?_, perfCauses_ascending g edges⟩
  all_goals
    rw [mem_perfCauses]
    simp [offsetIsClamped]

theorem estimate_formulas (estimate : Option Int) (x : Int) :
    updateEstimate estimate none = estimate ∧ (x < -500 ∨ 2000 < x → updateEstimate estimate (some x) = estimate) ∧
    (-500 ≤ x → x ≤ 2000 → updateEstimate none (some x) = some x ∧
      ∀ e, updateEstimate (some e) (some x) = some (e + (x - e).tdiv 8)) ∧
    (shrinkOk estimate → shrinkOk (updateEstimate estimate (some x))) :=
  ⟨rfl, fun h => updateEstimate_outside h estimate,
    fun hl hh => ⟨updateEstimate_within hl hh none, fun e => updateEstimate_within hl hh (some e)⟩,
    fun he => updateEstimate_ok he (some x)⟩

end Sys2Proof.Machine
end

section
/-! PROOFS. The free count and the pacing of the pool through an allocation, a release and a discarded next (R47, R55 to R57). -/

namespace Sys2Proof.Machine

/-! ### The free count (R47) -/

/-- The number of entries that pass, after one entry is changed. -/
theorem countEntries_modEntry {α : Type} {n : Nat} (p : α → Bool) (v : Vector α n) (i : Fin n) (f : α → α) :
    countEntries p (modEntry v i f) + (if p v[i] then 1 else 0) = countEntries p v + if p (f v[i]) then 1 else 0 := by
  have hi : i.val < v.toList.length := by simp
  have counted : (if p v[i] then 1 else 0) ≤ countEntries p v := by
    split
    · rename_i hp
      exact List.countP_pos_iff.2 ⟨v[i], by simp, hp⟩
    · exact Nat.zero_le _
  have set := List.countP_set (p := p) (a := f v[i]) hi
  rw [← Vector.toList_set, Vector.getElem_toList] at set
  change countEntries p (modEntry v i f) = countEntries p v - (if p v[i] then 1 else 0) + _ at set
  omega

/-- A table whose entries pass only where another's do has no more of them. -/
theorem countEntries_le_of_imp {α : Type} {n : Nat} {p : α → Bool} {v w : Vector α n}
    (h : ∀ i : Fin n, p v[i] = true → p w[i] = true) : countEntries p v ≤ countEntries p w := by
  have byNumber (v : Vector α n) : countEntries p v = (List.finRange n).countP fun i => p v[i] := by
    have entries : v.toList = (List.finRange n).map fun i => v[i] := by
      apply List.ext_getElem <;> simp
    rw [countEntries, entries, List.countP_map]
    rfl
  rw [byNumber, byNumber]
  exact List.countP_mono_left fun i _ => h i

section

variable {s t : State}

theorem State.freeCount_congr (h : t.pool.buffers = s.pool.buffers) : t.freeCount = s.freeCount := by
  rw [State.freeCount, State.freeCount, h]

theorem State.freeCount_le (h : ∀ k : Buf, t.pool.buffers[k].state = .free → s.pool.buffers[k].state = .free) :
    t.freeCount ≤ s.freeCount := countEntries_le_of_imp fun k hk => decide_eq_true (h k (of_decide_eq_true hk))

/-- A buffer taken out of FREE leaves one less. -/
theorem State.freeCount_taken {b : Buf} {f : Buffer → Buffer} (hb : s.pool.buffers[b].state = .free)
    (hf : (f s.pool.buffers[b]).state ≠ .free) : (s.modBuffer b f).freeCount + 1 = s.freeCount := by
  have := countEntries_modEntry (fun x : Buffer => decide (x.state = .free)) s.pool.buffers b f
  simp only [hb, hf, decide_true, decide_false, Bool.false_eq_true, ↓reduceIte, Nat.add_zero] at this
  exact this

/-- The change of one record makes at most one more buffer FREE. -/
theorem State.freeCount_modBuffer_le (s : State) (b : Buf) (f : Buffer → Buffer) :
    (s.modBuffer b f).freeCount ≤ s.freeCount + 1 := by
  have := countEntries_modEntry (fun x : Buffer => decide (x.state = .free)) s.pool.buffers b f
  change (s.modBuffer b f).freeCount + _ = s.freeCount + _ at this
  split at this <;> split at this <;> omega

end

/-! ### The pool and the ports under the close of a reel (R22, R165 to R168) -/

/-- The pool and the ports of a state. -/
def State.poolAndLinks (s : State) : Pool × LinkPorts := (s.pool, s.links)

section

variable (s : State)

theorem State.issueTicket_poolAndLinks (t : Ticket) (q : PositionNo) :
    (s.issueTicket t q).poolAndLinks = s.poolAndLinks := by
  unfold State.issueTicket
  split <;> [(split <;> rfl); rfl]

theorem retryPasses_poolAndLinks (x : Option (BitVec 16 × PositionNo)) (n : Nat) (s : State) :
    (retryPasses x n s).poolAndLinks = s.poolAndLinks := by
  induction n generalizing s with
  | zero => rfl
  | succ n ih =>
    unfold retryPasses
    split <;> [rfl; exact (ih _).trans (State.issueTicket_poolAndLinks s _ _)]

theorem State.allocateTicket_poolAndLinks (x : Option (BitVec 16 × PositionNo)) (t : Ticket) :
    (s.allocateTicket x t).poolAndLinks = s.poolAndLinks := by
  unfold State.allocateTicket
  split
  · rfl
  · split
    · exact (retryPasses_poolAndLinks _ _ _).trans (s.issueTicket_poolAndLinks _ _)
    · exact s.issueTicket_poolAndLinks _ _

theorem State.formTicket_poolAndLinks (r : Slot) : (s.formTicket r).poolAndLinks = s.poolAndLinks := by
  unfold State.formTicket
  exact (State.allocateTicket_poolAndLinks _ none _).trans rfl

theorem State.closeReel_poolAndLinks (r : Slot) : (s.closeReel r).poolAndLinks = s.poolAndLinks := by
  unfold State.closeReel
  dsimp only
  split <;> [exact (State.formTicket_poolAndLinks _ r).trans rfl; rfl]

theorem State.closeIfEmpty_poolAndLinks (r : Slot) : (s.closeIfEmpty r).poolAndLinks = s.poolAndLinks := by
  unfold State.closeIfEmpty
  split <;> [exact s.closeReel_poolAndLinks r; rfl]

theorem State.forgetLatest_poolAndLinks (b : Buf) : (s.forgetLatest b).poolAndLinks = s.poolAndLinks := by
  unfold State.forgetLatest
  dsimp only
  split <;> rfl

end

/-! ### Steps that leave the pacing alone (R56, R57) -/

/-- The pacing state and the flow cells due are as they were. -/
structure State.PaceKept (s t : State) : Prop where
  pacing : t.pool.pacing = s.pool.pacing
  flow : ∀ p : Port, t.links.ports[p].flow = s.links.ports[p].flow

/-- The pool is not PACED, or so far from its resume mark that one release does not reach it. -/
def State.FarFromResume (s : State) : Prop := s.pool.pacing = .paced → s.freeCount + 1 < s.pool.resumeMark

section

variable {s t u : State}

theorem State.PaceKept.refl (s : State) : s.PaceKept s := ⟨rfl, fun _ => rfl⟩

theorem State.PaceKept.trans (h : s.PaceKept t) (h' : t.PaceKept u) : s.PaceKept u :=
  ⟨h'.pacing.trans h.pacing, fun p => (h'.flow p).trans (h.flow p)⟩

theorem State.PaceKept.of_poolAndLinks (h : t.poolAndLinks = s.poolAndLinks) : s.PaceKept t := by
  obtain ⟨hp, hl⟩ := Prod.mk.inj h
  exact ⟨congrArg Pool.pacing hp, fun p => by rw [hl]⟩

theorem State.PaceKept.modBuffer (s : State) (b : Buf) (f : Buffer → Buffer) : s.PaceKept (s.modBuffer b f) :=
  ⟨rfl, fun _ => rfl⟩

theorem State.PaceKept.handOver (s : State) : s.PaceKept s.handOver := by
  unfold State.handOver
  split
  · split
    · exact refl s
    · refine ⟨rfl, fun p => (congrArg PortState.flow (modEntry_get _ _ p _)).trans ?_⟩
      split <;> rfl
  · exact refl s

/-- The release of a buffer far from the resume mark. -/
theorem State.PaceKept.release (h : s.FarFromResume) (b : Buf) : s.PaceKept (s.release b) := by
  set t := ((s.modBuffer b Buffer.released).forgetLatest b).closeIfEmpty s.pool.buffers[b].slot with ht
  have same : t.poolAndLinks = (s.modBuffer b Buffer.released).poolAndLinks :=
    (State.closeIfEmpty_poolAndLinks _ _).trans (State.forgetLatest_poolAndLinks _ _)
  have pool : t.pool = (s.modBuffer b Buffer.released).pool := congrArg Prod.fst same
  have count : t.freeCount ≤ s.freeCount + 1 :=
    (State.freeCount_congr (congrArg Pool.buffers pool)).trans_le (s.freeCount_modBuffer_le b _)
  have below : ¬ (t.pool.pacing = .paced ∧ t.freeCount = t.pool.resumeMark) := fun ⟨hp, hm⟩ => by
    rw [pool] at hp hm
    have : s.freeCount + 1 < s.pool.resumeMark := h hp
    change t.freeCount = s.pool.resumeMark at hm
    omega
  have stays : s.release b = t := if_neg below
  rw [stays]
  exact (modBuffer s b Buffer.released).trans (of_poolAndLinks same)

theorem State.PaceKept.releaseTest (h : s.FarFromResume) (b : Buf) : s.PaceKept (s.releaseTest b) := by
  unfold State.releaseTest
  split
  · exact refl s
  · split <;> [exact ⟨rfl, fun _ => rfl⟩; exact release h b]

theorem State.PaceKept.clearLatestHold (h : s.FarFromResume) (r : Slot) : s.PaceKept (s.clearLatestHold r) := by
  unfold State.clearLatestHold State.clearSuccessor
  split
  · rename_i b _
    split
    · have far : (s.modBuffer b fun x => { x with successorHold := false }).FarFromResume := fun hp => by
        have count : (s.modBuffer b fun x => { x with successorHold := false }).freeCount ≤ s.freeCount :=
          State.freeCount_le fun k hk => (modBuffer_field s Buffer.state b k (by intro _; rfl)).symm.trans hk
        exact (Nat.succ_le_succ count).trans_lt (h hp)
      exact (modBuffer s b _).trans (releaseTest far b)
    · exact refl s
  · exact refl s

theorem State.PaceKept.engineTake (s : State) : s.PaceKept s.engineTake := by
  unfold State.engineTake
  split <;> exact ⟨rfl, fun _ => rfl⟩

theorem State.PaceKept.requestRepair (s : State) (b : Buf) (next : Option Buf) : s.PaceKept (s.requestRepair b next) := by
  rw [State.requestRepair_eq]
  generalize s.prevOf s.pool.buffers[b].slot s.pool.buffers[b].frame = prev
  have holds : s.PaceKept (s.takeHolds prev next) := by cases prev <;> cases next <;> exact ⟨rfl, fun _ => rfl⟩
  have queued (t : State) (q : RepairRequest) : t.PaceKept (t.enqueue q) := ⟨rfl, fun _ => rfl⟩
  exact holds.trans ((modBuffer _ b _).trans ((queued _ _).trans (engineTake _)))

/-- A repair is requested of a PENDING frame, so no buffer becomes FREE by it. -/
theorem State.requestPending_freeCount_le (s : State) (r : Slot) : (s.requestPending r).freeCount ≤ s.freeCount := by
  unfold State.requestPending
  split
  · rename_i b _
    refine State.freeCount_le fun k hk => ?_
    rw [State.requestRepair_state] at hk
    split at hk <;> [cases hk; exact hk]
  · exact le_rfl

theorem State.PaceKept.requestPending (s : State) (r : Slot) : s.PaceKept (s.requestPending r) := by
  unfold State.requestPending
  split <;> [exact requestRepair s _ none; exact refl s]

/-- A discarded next far from the resume mark: the one release it may make does not open the pool. -/
theorem State.PaceKept.discardedNext (h : s.FarFromResume) (r : Slot) : s.PaceKept (s.discardedNext r) := by
  have asked := requestPending s r
  have mark : (s.requestPending r).pool.resumeMark = s.pool.resumeMark :=
    congrArg (fun x : Standing => x.settings.resumeMark) (s.requestPending_standing r)
  have far : (s.requestPending r).FarFromResume := fun hp => by
    rw [mark]
    exact (Nat.succ_le_succ (s.requestPending_freeCount_le r)).trans_lt (h (asked.pacing.symm.trans hp))
  exact asked.trans (clearLatestHold far r)

end

end Sys2Proof.Machine
end

section
/-! PROOFS. The pool that becomes PACED: the flow cells to the heads that feed it, and POOL_LOW (R56). -/

namespace Sys2Proof.Machine

section

variable {s : State}

/-- A flow cell for an UP head port is the last of its flow cells, and no other port is touched. -/
theorem State.formFlow_flow {h : Head} (hu : s.isUp (headPort h) = true) (c : FlowCell) (k : Head) :
    (s.formFlow h c).links.ports[headPort k].flow =
      s.links.ports[headPort k].flow ++ if k = h then [c] else [] := by
  have formed : s.formFlow h c = s.modPort (headPort h) fun q => { q with flow := q.flow ++ [c] } := if_pos hu
  rw [formed]
  refine (congrArg PortState.flow (modEntry_get _ _ (headPort k) _)).trans ?_
  by_cases hk : k = h
  · subst hk
    rw [if_pos rfl, if_pos rfl]
  · have ports : headPort h ≠ headPort k := fun e => hk (Fin.castSucc_inj.1 e).symm
    rw [if_neg ports, if_neg hk, List.append_nil]

/-- A flow cell for each head port of a list, all UP. -/
theorem foldl_formFlow_flow {l : List Head} (c : FlowCell) (hl : l.Nodup) (hu : ∀ h ∈ l, s.isUp (headPort h) = true) (k : Head) :
    (l.foldl (fun s h => s.formFlow h c) s).links.ports[headPort k].flow =
      s.links.ports[headPort k].flow ++ if k ∈ l then [c] else [] := by
  induction l generalizing s with
  | nil => simp
  | cons h l ih =>
    obtain ⟨hh, hl⟩ := List.nodup_cons.1 hl
    have up : ∀ i ∈ l, (s.formFlow h c).isUp (headPort i) = true := fun i hi => by
      rw [State.formFlow_isUp]
      exact hu i (List.mem_cons_of_mem h hi)
    rw [List.foldl_cons, ih hl up, State.formFlow_flow (hu h List.mem_cons_self)]
    by_cases hk : k = h
    · subst hk
      simp [hh]
    · simp [hk]

theorem State.flowToHeads_flow (s : State) (c : FlowCell) (p : Head → Bool) (k : Head) :
    (s.flowToHeads c p).links.ports[headPort k].flow =
      s.links.ports[headPort k].flow ++ if p k = true ∧ s.links.ports[headPort k].link = .up then [c] else [] := by
  have told : k ∈ (allHeads.filter fun h => p h && s.isUp (headPort h)) ↔ p k = true ∧ s.links.ports[headPort k].link = .up := by
    have every : k ∈ allHeads := by revert k; decide
    rw [List.mem_filter, Bool.and_eq_true, State.isUp_iff]
    exact and_iff_right every
  unfold State.flowToHeads
  rw [foldl_formFlow_flow c (.filter _ (by decide)) fun h hh => (Bool.and_eq_true_iff.1 (List.mem_filter.1 hh).2).2]
  simp only [told]

/-- The pool PACED and the heads told, before POOL_LOW is raised. -/
def State.paceHeads (s : State) : State :=
  ({ s with pool := { s.pool with pacing := .paced } } : State).flowToHeads .paceHold s.feeding

theorem State.becomePaced_eq (s : State) : s.becomePaced = s.paceHeads.raise .poolLow 0 none s.paceHeads.freeCount := rfl

theorem State.paceHeads_aside (s : State) : s.Aside s.paceHeads :=
  (State.Aside.setPacing s .paced).trans (.flowToHeads _ _ _)

theorem State.becomePaced_work (s : State) : s.becomePaced.work = s.work := s.paceHeads_aside.work

theorem State.becomePaced_reels (s : State) : s.becomePaced.reels = s.reels := s.paceHeads_aside.reels

theorem State.becomePaced_flow (s : State) (k : Head) : s.becomePaced.links.ports[headPort k].flow =
    s.links.ports[headPort k].flow ++
      if s.feeding k = true ∧ s.links.ports[headPort k].link = .up then [.paceHold] else [] :=
  State.flowToHeads_flow _ .paceHold s.feeding k

theorem State.becomePaced_pacing (s : State) : s.becomePaced.pool.pacing = .paced := by
  have kept (t : State) (h : Head) : (t.formFlow h .paceHold).pool.pacing = t.pool.pacing := by rw [State.formFlow_pool]
  have all (l : List Head) (t : State) :
      (l.foldl (fun s h => s.formFlow h .paceHold) t).pool.pacing = t.pool.pacing := by
    induction l generalizing t with
    | nil => rfl
    | cons h l ih => rw [List.foldl_cons, ih, kept]
  exact all _ { s with pool := { s.pool with pacing := .paced } }

/-- POOL_LOW waits with the free count. -/
theorem State.becomePaced_waits (hu : s.notices.InRange) : s.becomePaced.Waits .poolLow 0 none s.freeCount := by
  rw [State.becomePaced_eq, State.freeCount_congr (State.work_buffers s.paceHeads_aside.work)]
  exact State.raise_waits (s.paceHeads_aside.notices hu).1 (by decide)

theorem State.becomePaced_inRange (hu : s.notices.InRange) : s.becomePaced.notices.InRange :=
  State.raise_inRange (s.paceHeads_aside.notices hu).1 (by decide)

end

end Sys2Proof.Machine
end

section
/-! PROOFS. A buffered frame (R27, R28, R36 to R41, R56), and the statement about it (O37). -/

namespace Sys2Proof.Machine

/-! ### The allocation (R28, R48) -/

/-- The intake of the head that assembles a buffered frame. -/
def HeadIntake.buffering (y : HeadIntake) (x : Reel) (g : Gauge) (r : Slot) (b : Buf) (f : FrameHeadFields) : HeadIntake :=
  { y with
    assembly := .assembling b ⟨f.frame, f.lines, f.width, r, x.policy.irThreshold, perfCauses g f.edges⟩
    lastMeasurement := some ⟨f.frame, r, frameOffset g x.lastOffset f.edges, recordedShrink (measuredShrink g f.edges),
      perfCauses g f.edges⟩ }

/-- The gauge entry a reel names. -/
def State.gaugeOf (s : State) (r : Slot) : Gauge := s.intake.gauges[s.reels[r].gauge]

/-- A frame of reel `x` and gauge `g` measured and given its buffer. -/
def State.takeBuffer (s : State) (h : Head) (r : Slot) (b : Buf) (f : FrameHeadFields) (x : Reel) (g : Gauge) : State :=
  ((s.modBuffer b fun y => y.taken r x f (frameOffset g x.lastOffset f.edges)).modReel r fun y =>
    { y with
      lastOffset := frameOffset g x.lastOffset f.edges
      shrinkEstimate := updateEstimate y.shrinkEstimate (measuredShrink g f.edges) }).modHead h fun y => y.buffering x g r b f

/-- A frame opened, measured and given its buffer, before the pool compares its free count. -/
def State.allocated (s : State) (h : Head) (r : Slot) (b : Buf) (f : FrameHeadFields) : State :=
  (s.modReel r fun x => x.opened f.frame).takeBuffer h r b f (s.reels[r].opened f.frame) (s.gaugeOf r)

section

variable {s : State} {h : Head} {r : Slot} {b : Buf} {f : FrameHeadFields}

theorem State.freeBuffer_eq_some (hb : s.pool.buffers[b].state = .free) (hl : ∀ k < b, s.pool.buffers[k].state ≠ .free) :
    s.freeBuffer = some b :=
  firstEntry_eq_some (decide_eq_true hb) fun k hk => decide_eq_false (hl k hk)

/-- A latest frame that is not numbered one below the opened one makes a discarded next (R28). -/
def State.Skips (s : State) (r : Slot) (f : Nat) : Prop :=
  ∃ k : Buf, s.reels[r].latest = some k ∧ s.pool.buffers[k].frame + 1 ≠ f

/-- What becomes of the frame before, once a buffered frame has its buffer (R28). -/
def State.tellBefore (s : State) (r : Slot) (f : Nat) : State :=
  match s.reels[r].latest with
  | some p => if s.pool.buffers[p].frame + 1 = f then s else s.discardedNext r
  | none => s

theorem State.tellBefore_skips {n : Nat} (hk : s.Skips r n) : s.tellBefore r n = s.discardedNext r := by
  obtain ⟨k, hl, hf⟩ := hk
  unfold State.tellBefore
  rw [hl]
  exact if_neg hf

theorem State.tellBefore_follows {n : Nat} (hk : ¬ s.Skips r n) : s.tellBefore r n = s := by
  unfold State.tellBefore
  split
  · rename_i k hl
    exact if_pos (not_not.1 fun hf => hk ⟨k, hl, hf⟩)
  · rfl

theorem State.tellBefore_eases (s : State) (r : Slot) (n : Nat) : s.Eases (s.tellBefore r n) := by
  by_cases hk : s.Skips r n
  · rw [State.tellBefore_skips hk]
    exact .discardedNext s r
  · rw [State.tellBefore_follows hk]
    exact .refl s

theorem State.tellBefore_paceKept (hm : s.FarFromResume) (r : Slot) (n : Nat) : s.PaceKept (s.tellBefore r n) := by
  by_cases hk : s.Skips r n
  · rw [State.tellBefore_skips hk]
    exact .discardedNext hm r
  · rw [State.tellBefore_follows hk]
    exact .refl s

theorem State.bufferFrame_eq (s : State) (h : Head) (r : Slot) (b : Buf) (f : FrameHeadFields) : s.bufferFrame h r b f =
    (s.takeBuffer h r b f s.reels[r] (s.gaugeOf r)).paceFall.tellBefore r f.frame := rfl

theorem State.openedFrame_buffered (hs : s.reels[r].settleRemaining = 0)
    (hf : 1 ≤ f.lines ∧ f.lines ≤ Config.maxLines ∧ 1 ≤ f.width ∧ f.width ≤ Config.maxWidth) (hb : s.freeBuffer = some b) :
    s.openedFrame h r f = (s.allocated h r b f).paceFall.tellBefore r f.frame := by
  have free : (s.modReel r fun x => x.opened f.frame).freeBuffer = some b := hb
  have opened : (s.modReel r fun x => x.opened f.frame).reels[r] = s.reels[r].opened f.frame := State.modReel_get_self _ _ _
  have gauge : (s.modReel r fun x => x.opened f.frame).gaugeOf r = s.gaugeOf r :=
    (congrArg (fun x : Reel => s.intake.gauges[x.gauge]) opened :)
  have buffered : s.openedFrame h r f = (s.modReel r fun x => x.opened f.frame).bufferFrame h r b f := by
    simp only [State.openedFrame, State.openedFrame_settled hs, ↓reduceIte, hf, not_true_eq_false, and_self, free]
  rw [buffered, State.bufferFrame_eq, opened, gauge]
  rfl

/-! ### What the allocation does (R27, R28, R47) -/

variable (s h r b f)

theorem State.allocated_get (k : Buf) : (s.allocated h r b f).pool.buffers[k] =
    if b = k then s.pool.buffers[k].taken r (s.reels[r].opened f.frame) f
      (frameOffset (s.gaugeOf r) s.reels[r].lastOffset f.edges) else s.pool.buffers[k] := modBuffer_get s b k _

/-- The reel after the opening and the measurement of a buffered frame. -/
def Reel.measured (x : Reel) (g : Gauge) (f : FrameHeadFields) : Reel :=
  { x.opened f.frame with
    lastOffset := frameOffset g x.lastOffset f.edges
    shrinkEstimate := updateEstimate x.shrinkEstimate (measuredShrink g f.edges) }

theorem State.allocated_reels :
    (s.allocated h r b f).reels = modEntry s.reels r fun _ => s.reels[r].measured (s.gaugeOf r) f :=
  modEntry_modEntry s.reels r (fun x => x.opened f.frame) fun y => { y with
    lastOffset := frameOffset (s.gaugeOf r) s.reels[r].lastOffset f.edges
    shrinkEstimate := updateEstimate y.shrinkEstimate (measuredShrink (s.gaugeOf r) f.edges) }

theorem State.allocated_reel : (s.allocated h r b f).reels[r] = s.reels[r].measured (s.gaugeOf r) f := by
  rw [State.allocated_reels, modEntry_get, if_pos rfl]

theorem State.allocated_reel_ne {k : Slot} (hk : r ≠ k) : (s.allocated h r b f).reels[k] = s.reels[k] := by
  rw [State.allocated_reels, modEntry_get, if_neg hk]

theorem State.allocated_heads :
    (s.allocated h r b f).intake.heads = modEntry s.intake.heads h fun y =>
      y.buffering s.reels[r] (s.gaugeOf r) r b f := rfl

variable {s b}

theorem State.allocated_freeCount (hb : s.pool.buffers[b].state = .free) : (s.allocated h r b f).freeCount + 1 = s.freeCount :=
  State.freeCount_taken (f := fun y => y.taken r (s.reels[r].opened f.frame) f
    (frameOffset (s.gaugeOf r) s.reels[r].lastOffset f.edges)) hb BufferState.noConfusion

variable {r} (b)

/-- The heads that feed the pool are the same: the opened reel feeds it before and after. -/
theorem State.allocated_feeding (hx : s.reels[r].state ∈ [.mounted, .running]) (k : Head) :
    (s.allocated h r b f).feeding k = true ↔ ∃ i, s.boundSlot k = some i ∧ s.reels[i].state ∈ [.mounted, .running] := by
  have running : (s.allocated h r b f).reels[r].state = .running := by
    rw [State.allocated_reel, Reel.measured, Reel.opened_eq hx]
  have head : (s.allocated h r b f).reels[r].head = s.reels[r].head := by
    rw [State.allocated_reel]
    rfl
  have bound : s.reels[r].state.bound = true := by
    obtain e | e := List.mem_pair.1 hx <;> rw [e] <;> rfl
  have same : (s.allocated h r b f).boundSlot k = s.boundSlot k := by
    refine State.boundSlot_congr (fun i => ?_) k
    by_cases hi : r = i
    · subst hi
      exact ⟨head, by rw [running, bound]; rfl⟩
    · rw [State.allocated_reel_ne s h r b f hi]
      exact ⟨rfl, rfl⟩
  rw [State.feeding_iff, same]
  refine exists_congr fun i => and_congr_right fun _ => ?_
  by_cases hi : r = i
  · subst hi
    exact iff_of_true (by rw [running]; decide) hx
  · rw [State.allocated_reel_ne s h r b f hi]

end

end Sys2Proof.Machine
end

section
/-! PROOFS. The state a buffered frame leads to, and the statement about it (O37). -/

namespace Sys2Proof.Machine

/-! ### The comparison with the low-water mark (R56) -/

section

variable (s : State)

theorem State.paceFall_cases : s.paceFall = s.becomePaced ∨ s.paceFall = s := by
  unfold State.paceFall
  split <;> [exact .inl rfl; exact .inr rfl]

theorem State.paceFall_work : s.paceFall.work = s.work := by
  obtain e | e := s.paceFall_cases <;> rw [e]
  exact s.becomePaced_work

theorem State.paceFall_reels : s.paceFall.reels = s.reels := by
  obtain e | e := s.paceFall_cases <;> rw [e]
  exact s.becomePaced_reels

end

/-! ### A buffer that a discarded next leaves alone (R27) -/

section

variable {s : State} {b : Buf}

/-- A buffer without a successor hold is no request's prev. -/
theorem State.requestRepair_get_of_unheld {k : Buf} (hk : k ≠ b) (hh : s.pool.buffers[b].successorHold = false) :
    (s.requestRepair k none).pool.buffers[b] = s.pool.buffers[b] := by
  rw [State.requestRepair_eq, State.engineTake_pool]
  refine (modBuffer_get _ k b _).trans ((if_neg hk).trans ?_)
  cases hp : s.prevOf s.pool.buffers[k].slot s.pool.buffers[k].frame with
  | none => rfl
  | some p =>
    have other : p ≠ b := by
      rintro rfl
      have held := (Bool.and_eq_true_iff.1 (firstEntry_some hp).1).2
      rw [hh] at held
      cases held
    exact (modBuffer_get s p b _).trans (if_neg other)

theorem State.discardedNext_get_of_unheld (hp : s.pool.buffers[b].state ≠ .pending)
    (hh : s.pool.buffers[b].successorHold = false) (r : Slot) :
    (s.discardedNext r).pool.buffers[b] = s.pool.buffers[b] := by
  have asked : (s.requestPending r).pool.buffers[b] = s.pool.buffers[b] := by
    unfold State.requestPending
    split
    · rename_i k hk
      have other : k ≠ b := by
        rintro rfl
        exact hp (of_decide_eq_true (firstEntry_some hk).1).1
      exact State.requestRepair_get_of_unheld other hh
    · rfl
  unfold State.discardedNext State.clearLatestHold
  split
  · rename_i k _
    rw [State.clearSuccessor_get, asked]
    split <;> [exact Buffer.unheld_of_not hh; rfl]
  · exact asked

theorem State.tellBefore_get_of_unheld (hp : s.pool.buffers[b].state ≠ .pending)
    (hh : s.pool.buffers[b].successorHold = false) (r : Slot) (n : Nat) :
    (s.tellBefore r n).pool.buffers[b] = s.pool.buffers[b] := by
  by_cases hk : s.Skips r n
  · rw [State.tellBefore_skips hk, State.discardedNext_get_of_unheld hp hh]
  · rw [State.tellBefore_follows hk]

end

/-! ### The state a buffered frame leads to, before the hand-over -/

/-- A frame buffered: the allocation, the pool's comparison, and the frame before. -/
def State.buffered (s : State) (h : Head) (r : Slot) (b : Buf) (f : FrameHeadFields) : State :=
  (s.allocated h r b f).paceFall.tellBefore r f.frame

theorem exec_frameHead_buffered {s : State} {h : Head} {c : RxCell} {r : Slot} {b : Buf} {f : FrameHeadFields}
    (hf : readFrameHead c.payload = f) (hu : s.links.ports[headPort h].link = .up) (hc : passesCheck kindFrameHead c = true)
    (hn : s.NoFrame h) (hb : s.boundSlot h = some r) (hx : s.reels[r].state ∈ [.mounted, .running])
    (hq : ∀ n, s.reels[r].lastOpened = some n → n < f.frame) (hs : s.reels[r].settleRemaining = 0)
    (hfits : 1 ≤ f.lines ∧ f.lines ≤ Config.maxLines ∧ 1 ≤ f.width ∧ f.width ≤ Config.maxWidth) (hfree : s.freeBuffer = some b) :
    exec (.frameHead h c) s = .next (s.buffered h r b f).handOver := by
  subst hf
  have opened : s.onFrameHead h c = s.buffered h r b (readFrameHead c.payload) := by
    rw [State.onFrameHead, if_pos hc, State.takeFrameHead_noFrame hn, State.openingTests_opened hb hx hq,
      State.openedFrame_buffered hs hfits hfree]
    rfl
  rw [← opened]
  exact State.arrival_up hu _

section

variable (s : State) (h : Head) (r : Slot) (b : Buf) (f : FrameHeadFields)

/-- The comparison and the frame before leave the frames' work as releases and requests do. -/
theorem State.buffered_eases : (s.allocated h r b f).paceFall.Eases (s.buffered h r b f) := State.tellBefore_eases _ _ _

theorem State.compared_buffers : (s.allocated h r b f).paceFall.pool.buffers = (s.allocated h r b f).pool.buffers :=
  State.work_buffers (State.paceFall_work _)

theorem State.compared_reel : (s.allocated h r b f).paceFall.reels[r] = s.reels[r].measured (s.gaugeOf r) f := by
  rw [State.paceFall_reels, State.allocated_reel]

/-- The taken buffer is not touched again. -/
theorem State.buffered_taken : (s.buffered h r b f).pool.buffers[b] =
    s.pool.buffers[b].taken r (s.reels[r].opened f.frame) f (frameOffset (s.gaugeOf r) s.reels[r].lastOffset f.edges) := by
  have taken : (s.allocated h r b f).paceFall.pool.buffers[b] =
      s.pool.buffers[b].taken r (s.reels[r].opened f.frame) f (frameOffset (s.gaugeOf r) s.reels[r].lastOffset f.edges) := by
    rw [State.compared_buffers, State.allocated_get, if_pos rfl]
  unfold State.buffered
  rw [State.tellBefore_get_of_unheld (by rw [taken]; exact BufferState.noConfusion) (by rw [taken]; rfl), taken]

theorem State.buffered_heads : (s.buffered h r b f).intake.heads = modEntry s.intake.heads h fun y =>
    y.buffering s.reels[r] (s.gaugeOf r) r b f := by
  rw [(s.buffered_eases h r b f).intake, (State.work_eq_iff.1 (State.paceFall_work _)).1, State.allocated_heads]

theorem State.buffered_wire : (s.buffered h r b f).wire = s.wire :=
  (s.buffered_eases h r b f).wire.trans (State.work_eq_iff.1 (State.paceFall_work _)).2.2.2.2

theorem State.buffered_dram : (s.buffered h r b f).pool.dram = s.pool.dram := by
  have told (v : State) : (v.tellBefore r f.frame).pool.dram = v.pool.dram := by
    unfold State.tellBefore
    split <;> [(split <;> simp); rfl]
  exact (told _).trans ((State.paceFall_dram _).trans rfl)

theorem State.buffered_standing : (s.buffered h r b f).standing = s.standing := by
  have told (v : State) : (v.tellBefore r f.frame).standing = v.standing := by
    unfold State.tellBefore
    split <;> [(split <;> simp); rfl]
  exact (told _).trans ((State.paceFall_standing _).trans rfl)

/-- The opened reel comes out RUNNING, with what the opening and the measurement gave it. -/
theorem State.buffered_settles : (s.reels[r].measured (s.gaugeOf r) f).Settles (s.buffered h r b f).reels[r] := by
  rw [← State.compared_reel s h r b f]
  exact ((s.buffered_eases h r b f).lets r).settles

variable {s b} {r}

/-- A frame that follows the latest one leaves the frame before alone. -/
theorem State.buffered_of_follows
    (hk : ∀ k, s.reels[r].latest = some k → k ≠ b ∧ s.pool.buffers[k].frame + 1 = f.frame) :
    s.buffered h r b f = (s.allocated h r b f).paceFall := by
  refine State.tellBefore_follows ?_
  rintro ⟨k, hl, hf⟩
  rw [State.compared_reel] at hl
  obtain ⟨other, follows⟩ := hk k hl
  rw [State.compared_buffers, State.allocated_get, if_neg other.symm] at hf
  exact hf follows

/-- A frame that does not follow the latest one is a discarded next for it (R27, R28). -/
theorem State.buffered_skips {k : Buf} (hl : s.reels[r].latest = some k) (hb : b ≠ k)
    (hf : s.pool.buffers[k].frame + 1 ≠ f.frame) :
    (s.buffered h r b f).pool.buffers[k].successorHold = false ∧
      (s.pool.buffers[k].state = .pending → s.pool.buffers[k].slot = r → s.pool.buffers[k].delivery ≠ .resolved →
        (∀ i : Buf, i < k → ¬ (s.pool.buffers[i].state = .pending ∧ s.pool.buffers[i].slot = r)) →
        (s.buffered h r b f).pool.buffers[k].state = .repair ∧
          ∃ q, (s.buffered h r b f).Requested q ∧ q.buf = k ∧ q.next = none) := by
  set v := (s.allocated h r b f).paceFall with hv
  have others {i : Buf} (hi : b ≠ i) : v.pool.buffers[i] = s.pool.buffers[i] := by
    rw [hv, State.compared_buffers, State.allocated_get, if_neg hi]
  have latest : v.reels[r].latest = some k := by rw [hv, State.compared_reel]; exact hl
  have told : s.buffered h r b f = v.discardedNext r := State.tellBefore_skips ⟨k, latest, by rw [others hb]; exact hf⟩
  have quieted := State.discardedNext_quieted v r
  rw [told]
  refine ⟨quieted.latest k latest, fun hp hr hd hlow => ?_⟩
  have pending : v.pendingFrame r = some k := by
    refine firstEntry_eq_some (decide_eq_true (by rw [others hb]; exact ⟨hp, hr⟩)) fun i hi => decide_eq_false ?_
    by_cases hbi : b = i
    · subst hbi
      rw [hv, State.compared_buffers, State.allocated_get, if_pos rfl]
      exact fun h => BufferState.noConfusion h.1
    · rw [others hbi]
      exact hlow i hi
  obtain ⟨state, -, q, hq⟩ := quieted.pending k pending (by rw [others hb]; exact hd)
  exact ⟨state, q, hq⟩

/-! ### The pacing after a buffered frame (R56) -/

/-- The allocation brings an OPEN pool's free count below the low-water mark. -/
def State.Falls (s : State) : Prop := s.pool.pacing = .open_ ∧ s.freeCount ≤ s.pool.lowMark

theorem State.compared_of_falls (hb : s.pool.buffers[b].state = .free) (hf : s.Falls) :
    (s.allocated h r b f).paceFall = (s.allocated h r b f).becomePaced := by
  have count := State.allocated_freeCount h r f hb
  exact if_pos ⟨hf.1, Nat.lt_of_succ_le (count.trans_le hf.2)⟩

theorem State.compared_of_not_falls (hb : s.pool.buffers[b].state = .free) (hf : ¬ s.Falls) :
    (s.allocated h r b f).paceFall = s.allocated h r b f := by
  have count := State.allocated_freeCount h r f hb
  exact if_neg fun hc => hf ⟨hc.1, count.symm.trans_le hc.2⟩

/-- The pool becomes PACED, tells the heads that feed it, and reports the free count. -/
theorem State.buffered_paced (hb : s.pool.buffers[b].state = .free) (hx : s.reels[r].state ∈ [.mounted, .running])
    (hf : s.Falls) (hm : s.pool.lowMark < s.pool.resumeMark) (hu : s.notices.InRange) :
    (s.buffered h r b f).pool.pacing = .paced ∧
      (s.buffered h r b f).handOver.Reports .poolLow 0 none (s.freeCount - 1) ∧
      ∀ k : Head, (s.buffered h r b f).links.ports[headPort k].flow = s.links.ports[headPort k].flow ++
        (if s.links.ports[headPort k].link = .up ∧ ∃ i, s.boundSlot k = some i ∧ s.reels[i].state ∈ [.mounted, .running]
          then [.paceHold] else []) := by
  have count := State.allocated_freeCount h r f hb
  have paced := State.compared_of_falls h f (r := r) hb hf
  have eases := s.buffered_eases h r b f
  rw [paced] at eases
  have far : (s.allocated h r b f).becomePaced.FarFromResume := fun _ => by
    have mark : (s.allocated h r b f).becomePaced.pool.resumeMark = s.pool.resumeMark :=
      congrArg (fun x : Standing => x.settings.resumeMark) (State.becomePaced_standing _)
    rw [mark, State.freeCount_congr (State.work_buffers (State.becomePaced_work _)), count]
    exact hf.2.trans_lt hm
  have kept : (s.allocated h r b f).becomePaced.PaceKept (s.buffered h r b f) := by
    rw [State.buffered, paced]
    exact State.tellBefore_paceKept far r f.frame
  refine ⟨kept.pacing.trans (State.becomePaced_pacing _), ?reports, fun k => ?flow⟩
  case reports =>
    have low : (s.allocated h r b f).becomePaced.Waits .poolLow 0 none (s.freeCount - 1) := by
      rw [← count]
      exact State.becomePaced_waits (s := s.allocated h r b f) hu
    have inRange := State.becomePaced_inRange (s := s.allocated h r b f) hu
    exact (low.keeps inRange eases.notices (by decide)).handOver (eases.notices inRange).1
  case flow =>
    rw [kept.flow, State.becomePaced_flow]
    simp only [State.allocated_feeding h b f hx, and_comm]
    rfl

/-- A pool that the allocation does not bring below the mark stays as it is, unless a release would reach the resume mark. -/
theorem State.buffered_paceKept (hb : s.pool.buffers[b].state = .free) (hf : ¬ s.Falls)
    (hm : s.pool.pacing = .paced → s.freeCount < s.pool.resumeMark) : s.PaceKept (s.buffered h r b f) := by
  have count := State.allocated_freeCount h r f hb
  have allocated : s.PaceKept (s.allocated h r b f) := ⟨rfl, fun _ => rfl⟩
  have far : (s.allocated h r b f).FarFromResume := fun hp => by
    rw [count]
    exact hm hp
  rw [State.buffered, State.compared_of_not_falls h f hb hf]
  exact allocated.trans (State.tellBefore_paceKept far r f.frame)

end

/-- The reel record after a buffered frame, in the words of the statement. -/
theorem Reel.measured_eq {x : Reel} (hx : x.state ∈ [.mounted, .running]) (g : Gauge) (f : FrameHeadFields) :
    x.measured g f = { x.consumeCues f.frame with
      state := .running, lastOpened := some f.frame, lastOffset := frameOffset g x.lastOffset f.edges
      shrinkEstimate := updateEstimate x.shrinkEstimate (measuredShrink g f.edges)
      counters := { x.counters with framesOpened := x.counters.framesOpened + 1 } } := by
  rw [Reel.measured, Reel.opened_eq hx]

/-- The allocation in one update. -/
theorem State.allocated_eq (s : State) (h : Head) (r : Slot) (b : Buf) (f : FrameHeadFields) :
    s.allocated h r b f = { s with
      reels := s.reels.set r (s.reels[r].measured (s.gaugeOf r) f)
      intake := { s.intake with heads := modEntry s.intake.heads h fun y => y.buffering s.reels[r] (s.gaugeOf r) r b f }
      pool := { s.pool with
        buffers := modEntry s.pool.buffers b fun y =>
          y.taken r (s.reels[r].opened f.frame) f (frameOffset (s.gaugeOf r) s.reels[r].lastOffset f.edges) } } :=
  congrArg (fun v : Vector Reel 8 => { s.allocated h r b f with reels := v }) (s.allocated_reels h r b f)

/-- A request that waits or is in the engine, in the words of the statements. -/
theorem State.Requested.waits {s : State} {k : Buf} (h : ∃ q, s.Requested q ∧ q.buf = k ∧ q.next = none) :
    (∃ q ∈ s.repair.queue, q.buf = k ∧ q.next = none) ∨
      ∃ job, s.repair.engine = some job ∧ job.request.buf = k ∧ job.request.next = none := by
  obtain ⟨q, hq | ⟨job, hj, rfl⟩, hk, hn⟩ := h
  · exact .inl ⟨q, hq, hk, hn⟩
  · exact .inr ⟨job, hj, hk, hn⟩

/-- Settles O37: the state that `State.buffered` gives, clause by clause, and the formulas of the measurement. -/
theorem bufferedFrameTakesTheLowestFreeBuffer : Obligations.BufferedFrameTakesTheLowestFreeBuffer := by
  unfold Obligations.BufferedFrameTakesTheLowestFreeBuffer
  refine ⟨fun s h c r b hu hc hn hb hx hs hfree hlow => ?opening, frameOffset_formulas, shrink_formulas, estimate_formulas⟩
  case opening =>
    intro f hq hl1 hl2 hw1 hw2 x g offset shrink filled busy u falls v skips
    have allocated : u = s.allocated h r b f := by
      rw [State.allocated_eq, Reel.measured_eq hx]
      rfl
    have count := State.allocated_freeCount h r f hfree
    have compared : v = (s.allocated h r b f).paceFall := by
      by_cases hf : s.Falls
      · rw [State.compared_of_falls h f hfree hf, ← allocated]
        exact if_pos hf
      · rw [State.compared_of_not_falls h f hfree hf, ← allocated]
        exact if_neg hf
    have before : skips ↔ v.Skips r f.frame := by
      rw [State.Skips, compared, State.compared_reel, State.compared_buffers, ← allocated]
      rfl
    have settles := s.buffered_settles h r b f
    rw [Reel.measured_eq hx] at settles
    obtain ⟨counters, lastOpened, lastOffset, estimate, -⟩ := settles.kept_fields
    refine ⟨(s.buffered h r b f).handOver,
      exec_frameHead_buffered rfl hu hc hn hb hx hq hs ⟨hl1, hl2, hw1, hw2⟩ (State.freeBuffer_eq_some hfree hlow),
      ?next, ?count, fun hf hm hi => ?paced, fun hf hm => ?unpaced, fun k hl hk hframe => ?skipped, fun hk => ?follows,
      ?taken, ?head, fun k hk => ?others, ?state, ?opened, ?counted, ?offset, ?estimate, ?dram, ?wire, ?standing⟩
    case next =>
      rw [State.buffered, ← compared]
      by_cases hk : skips
      · rw [State.tellBefore_skips (before.1 hk), if_pos hk]
      · rw [State.tellBefore_follows (mt before.2 hk), if_neg hk]
    case count => rw [allocated]; exact count
    case paced =>
      obtain ⟨pacing, reports, flow⟩ := State.buffered_paced h f hfree hx hf hm hi
      have kept := State.PaceKept.handOver (s.buffered h r b f)
      exact ⟨kept.pacing.trans pacing, reports, fun k => (kept.flow _).trans (flow k)⟩
    case unpaced =>
      have kept := (State.buffered_paceKept h f hfree hf hm (r := r)).trans (.handOver _)
      exact ⟨kept.pacing, fun k => kept.flow _⟩
    case skipped =>
      have other : b ≠ k := fun hbk => hk (hbk ▸ hfree)
      obtain ⟨unheld, asked⟩ := State.buffered_skips h f hl other hframe
      rw [State.handOver_buffers, State.handOver_repair]
      refine ⟨unheld, fun hp hr hd hfirst => ?_⟩
      obtain ⟨state, requested⟩ := asked hp hr (by rw [hd]; decide) hfirst
      exact ⟨state, State.Requested.waits requested⟩
    case follows =>
      obtain ⟨-, -, repair, delivery, -⟩ := State.work_eq_iff.1 ((State.handOver_work _).trans (s.allocated h r b f).paceFall_work)
      rw [State.buffered_of_follows h f hk]
      refine ⟨fun k hkb => ?_, repair, delivery, ?_⟩
      · rw [State.handOver_buffers, State.compared_buffers, State.allocated_get, if_neg hkb.symm]
      · rw [State.handOver_reels, State.compared_reel]
        rfl
    case taken => rw [State.handOver_buffers, State.buffered_taken]; rfl
    case head =>
      rw [State.handOver_intake, State.buffered_heads, modEntry_get, if_pos rfl]
      rfl
    case others => rw [State.handOver_intake, State.buffered_heads, modEntry_of_ne _ hk.symm]
    case dram => exact (State.handOver_dram _).trans (s.buffered_dram h r b f)
    case wire => exact (State.handOver_wire _).trans (s.buffered_wire h r b f)
    case standing => exact (State.handOver_standing _).trans (s.buffered_standing h r b f)
    all_goals rw [State.handOver_reels]
    case state => exact settles.state_eq ReelState.noConfusion
    case opened => exact lastOpened
    case counted => rw [counters]
    case offset => exact lastOffset
    case estimate => exact estimate

end Sys2Proof.Machine
end

section
/-! PROOFS. SET-POOL-MARKS, and what a pool that becomes PACED or OPEN tells the heads (R56, R57, R59). -/

namespace Sys2Proof.Machine

/-! ### Flow cells to some of the heads (R56, R57) -/

/-- A port with one more flow cell due. -/
def PortState.told (c : FlowCell) (q : PortState) : PortState := { q with flow := q.flow ++ [c] }

/-- The ports with a flow cell for each head of a list. -/
def LinkPorts.tell (u : LinkPorts) (l : List Head) (c : FlowCell) : LinkPorts :=
  { u with ports := l.foldl (fun v h => modEntry v (headPort h) (PortState.told c)) u.ports }

theorem headOf_eq_some_iff {p : Port} {h : Head} : headOf p = some h ↔ p = headPort h := by revert p h; decide

/-- The ports of the heads of a list gain the cell once, and the others stay. -/
theorem LinkPorts.tell_get {l : List Head} (hl : l.Nodup) (u : LinkPorts) (c : FlowCell) (p : Port) :
    (u.tell l c).ports[p] = if ∃ h ∈ l, headOf p = some h then u.ports[p].told c else u.ports[p] := by
  induction l generalizing u with
  | nil => simp [LinkPorts.tell]
  | cons h l ih =>
    obtain ⟨fresh, hl⟩ := List.nodup_cons.1 hl
    have first := modEntry_get u.ports (headPort h) p (PortState.told c)
    refine (ih hl { u with ports := modEntry u.ports (headPort h) (PortState.told c) }).trans ?_
    by_cases hp : p = headPort h
    · have named : headOf p = some h := headOf_eq_some_iff.2 hp
      rw [if_pos hp.symm] at first
      simp [named, first, fresh]
    · have other : headOf p ≠ some h := mt headOf_eq_some_iff.1 hp
      rw [if_neg (Ne.symm hp)] at first
      simp [other, first]

/-- Flow cells formed for UP heads are the only change. -/
theorem foldl_formFlow_up {l : List Head} (s : State) (c : FlowCell) (hu : ∀ h ∈ l, s.isUp (headPort h) = true) :
    l.foldl (fun s h => s.formFlow h c) s = { s with links := s.links.tell l c } := by
  induction l generalizing s with
  | nil => rfl
  | cons h l ih =>
    have up : ∀ i ∈ l, (s.formFlow h c).isUp (headPort i) = true := fun i hi => by
      rw [State.formFlow_isUp]
      exact hu i (List.mem_cons_of_mem h hi)
    rw [List.foldl_cons, ih _ up, State.formFlow_up (hu h List.mem_cons_self)]
    rfl

/-- The ports with a flow cell for every UP head that passes a test. -/
def LinkPorts.tellUp (u : LinkPorts) (c : FlowCell) (whom : Head → Bool) : Vector PortState 5 :=
  mapEntries (fun i q => match headOf (Fin.ofNat 5 i) with
    | some h => if whom h && decide (q.link = .up) then q.told c else q
    | none => q) u.ports

theorem LinkPorts.tellUp_get (u : LinkPorts) (c : FlowCell) (whom : Head → Bool) (p : Port) :
    (u.tellUp c whom)[p] =
      if ∃ h, whom h = true ∧ u.ports[p].link = .up ∧ headOf p = some h then u.ports[p].told c else u.ports[p] := by
  refine (mapEntries_get _ u.ports p.val p.isLt).trans ?_
  rw [show Fin.ofNat 5 p.val = p from Fin.ext (Nat.mod_eq_of_lt p.isLt)]
  cases headOf p <;> simp

/-- The UP heads that pass a test. -/
def State.upHeads (s : State) (whom : Head → Bool) : List Head := allHeads.filter fun h => whom h && s.isUp (headPort h)

theorem State.mem_upHeads {s : State} {whom : Head → Bool} {h : Head} :
    h ∈ s.upHeads whom ↔ whom h = true ∧ s.links.ports[headPort h].link = .up := by
  have every : h ∈ allHeads := by revert h; decide
  rw [State.upHeads, List.mem_filter, Bool.and_eq_true, State.isUp_iff]
  exact and_iff_right every

/-- Told head by head or port by port, the ports come to the same. -/
theorem State.tell_upHeads (s : State) (c : FlowCell) (whom : Head → Bool) :
    (s.links.tell (s.upHeads whom) c).ports = s.links.tellUp c whom := by
  apply Vector.ext
  intro i hi
  have whose : (∃ h ∈ s.upHeads whom, headOf ⟨i, hi⟩ = some h) ↔
      ∃ h, whom h = true ∧ s.links.ports[i].link = .up ∧ headOf ⟨i, hi⟩ = some h := by
    refine exists_congr fun h => ?_
    rw [State.mem_upHeads, and_assoc]
    refine and_congr_right fun _ => and_congr_left fun hp => ?_
    have port : s.links.ports[headPort h] = s.links.ports[i] :=
      congrArg (fun p : Port => s.links.ports[p]) (headOf_eq_some_iff.1 hp).symm
    rw [port]
  calc (s.links.tell (s.upHeads whom) c).ports[i]
    _ = if ∃ h ∈ s.upHeads whom, headOf ⟨i, hi⟩ = some h then s.links.ports[i].told c else s.links.ports[i] :=
      LinkPorts.tell_get (.filter _ (by decide)) s.links c ⟨i, hi⟩
    _ = (s.links.tellUp c whom)[i] := (if_congr whose rfl rfl).trans (LinkPorts.tellUp_get s.links c whom ⟨i, hi⟩).symm

theorem State.flowToHeads_eq (s : State) (c : FlowCell) (whom : Head → Bool) :
    s.flowToHeads c whom = { s with links := { s.links with ports := s.links.tellUp c whom } } := by
  have up : ∀ h ∈ s.upHeads whom, s.isUp (headPort h) = true := fun h hh => State.isUp_iff.2 (State.mem_upHeads.1 hh).2
  rw [← State.tell_upHeads]
  exact foldl_formFlow_up s c up

theorem State.flowToHeads_pool (s : State) (c : FlowCell) (whom : Head → Bool) : (s.flowToHeads c whom).pool = s.pool := by
  rw [State.flowToHeads_eq]

/-! ### The two changes of the pacing state (R56, R57) -/

theorem State.becomePaced_pool (s : State) : s.becomePaced.pool = { s.pool with pacing := .paced } :=
  State.flowToHeads_pool _ .paceHold _

theorem State.becomeOpen_pool (s : State) : s.becomeOpen.pool = { s.pool with pacing := .open_ } :=
  State.flowToHeads_pool _ .paceGo _

theorem State.becomePaced_raises (s : State) : s.becomePaced =
    (({ s with pool := { s.pool with pacing := .paced } } : State).flowToHeads .paceHold s.feeding).raise
      .poolLow 0 none s.freeCount := by
  rw [State.becomePaced_eq, State.freeCount_congr (State.work_buffers s.paceHeads_aside.work)]
  rfl

theorem State.becomeOpen_raises (s : State) : s.becomeOpen =
    (({ s with pool := { s.pool with pacing := .open_ } } : State).flowToHeads .paceGo fun _ => true).raise
      .poolRecovered 0 none s.freeCount := by
  have count : (({ s with pool := { s.pool with pacing := .open_ } } : State).flowToHeads .paceGo fun _ => true).freeCount =
      s.freeCount := by
    rw [State.freeCount, State.flowToHeads_pool]
    rfl
  rw [← count]
  rfl

/-! ### SET-POOL-MARKS (R59) -/

theorem markArgs_words {l m : Nat} (hl : 1 ≤ l) (hl' : l ≤ 16) (hm : 2 ≤ m) (hm' : m ≤ 32) (hlm : l < m) :
    markArgs [natWord l, natWord m] = .ok (l, m) := by
  rw [markArgs, argRange_natWord hl hl' (by omega), argRange_natWord hm hm' (by omega)]
  simp [hlm, Args.ofRange]

/-- The pool's part of the reply to SET-POOL-MARKS: the two marks and the pacing state. -/
def Pool.markWords (u : Pool) : List Word := [natWord u.lowMark, natWord u.resumeMark, natWord u.pacing.place]

/-- SET-POOL-MARKS with good marks: the pacing state is evaluated against them, and the reply tells what it came to. -/
theorem State.Takes.setPoolMarks {s : State} {p : Port} {o : Order} {l m : Nat} (h : s.Takes p o 9 [natWord l, natWord m])
    (hp : markArgs [natWord l, natWord m] = .ok (l, m)) {t : State} (ht : (s.popOrder p).setMarks (l, m) = t) :
    exec .setPoolMarks s = .next (replied p o (t, .done, t.pool.markWords)) := by
  subst ht
  exact h.withArgs (by decide) (by decide) hp fun s _ a => (s.setMarks a, .done, (s.setMarks a).pool.markWords)

section

variable {s : State}

theorem State.evaluatePacing_open (h : s.pool.pacing = .open_) :
    s.evaluatePacing = if s.freeCount < s.pool.lowMark then s.becomePaced else s := by
  rw [State.evaluatePacing, h]

theorem State.evaluatePacing_paced (h : s.pool.pacing = .paced) :
    s.evaluatePacing = if s.pool.resumeMark ≤ s.freeCount then s.becomeOpen else s := by
  rw [State.evaluatePacing, h]

end

/-- Settles O20: R59's four cases from the evaluation of the pacing state, and R56 and R57 from the flow cells to the heads. -/
theorem setPoolMarksEvaluatesPacing : Obligations.SetPoolMarksEvaluatesPacing := by
  unfold Obligations.SetPoolMarksEvaluatesPacing
  refine ⟨fun s p o l m hl hl' hm hm' hlm h => ?marks, fun s => ⟨?paced, ?opened⟩⟩
  case marks =>
    intro t
    have parsed := markArgs_words hl hl' hm hm' hlm
    have count : t.freeCount = s.freeCount := rfl
    refine ⟨fun hp hc => ?stays, fun hp hc => ?falls, fun hp hc => ?waits, fun hp hc => ?rises⟩
    case stays =>
      have marked : (s.popOrder p).setMarks (l, m) = t :=
        (State.evaluatePacing_open (s := t) hp).trans (if_neg (count ▸ Nat.not_lt.2 hc))
      rw [h.setPoolMarks parsed marked, Pool.markWords, show t.pool.pacing = .open_ from hp]
      rfl
    case falls =>
      have marked : (s.popOrder p).setMarks (l, m) = t.becomePaced :=
        (State.evaluatePacing_open (s := t) hp).trans (if_pos (count ▸ hc))
      rw [h.setPoolMarks parsed marked, State.becomePaced_pool]
      rfl
    case waits =>
      have marked : (s.popOrder p).setMarks (l, m) = t :=
        (State.evaluatePacing_paced (s := t) hp).trans (if_neg (count ▸ Nat.not_le.2 hc))
      rw [h.setPoolMarks parsed marked, Pool.markWords, show t.pool.pacing = .paced from hp]
      rfl
    case rises =>
      have marked : (s.popOrder p).setMarks (l, m) = t.becomeOpen :=
        (State.evaluatePacing_paced (s := t) hp).trans (if_pos (count ▸ hc))
      rw [h.setPoolMarks parsed marked, State.becomeOpen_pool]
      rfl
  case paced =>
    rw [State.becomePaced_raises, State.flowToHeads_eq]
    rfl
  case opened =>
    rw [State.becomeOpen_raises, State.flowToHeads_eq]
    rfl

end Sys2Proof.Machine
end

section
/-! PROOFS. The release test in full: the buffer, its reel and the pacing state (R54, R55). -/

namespace Sys2Proof.Machine

section

variable {s : State} {b : Buf}

theorem State.ownsBuffer_eq_false_iff {r : Slot} : s.ownsBuffer r = false ↔
    ∀ k : Buf, s.pool.buffers[k].slot = r → s.pool.buffers[k].state = .free := by
  rw [← Bool.not_eq_true, State.ownsBuffer_iff]
  push Not
  rfl

theorem State.closeIfEmpty_eq (s : State) (r : Slot) : s.closeIfEmpty r =
    if s.reels[r].state = .draining ∧ (∀ k : Buf, s.pool.buffers[k].slot = r → s.pool.buffers[k].state = .free) then
      s.closeReel r else s :=
  if_congr (and_congr_right' State.ownsBuffer_eq_false_iff) rfl rfl

/-- The latest frame of a reel absent changes no reel's state. -/
theorem State.forgetLatest_reelState (s : State) (b : Buf) (r : Slot) : (s.forgetLatest b).reels[r].state = s.reels[r].state := by
  unfold State.forgetLatest
  dsimp only
  split
  · refine (congrArg Reel.state (modEntry_get _ _ r _)).trans ?_
    split <;> rfl
  · rfl

/-- The reels with the latest frame of one of them absent when it names a buffer (R55 step 3). -/
def reelsForgetting (reels : Vector Reel 8) (r : Slot) (b : Buf) : Vector Reel 8 :=
  if reels[r].latest = some b then reels.set r { reels[r] with latest := none } else reels

theorem State.forgetLatest_eq (s : State) (b : Buf) :
    s.forgetLatest b = { s with reels := reelsForgetting s.reels s.pool.buffers[b].slot b } := by
  unfold State.forgetLatest reelsForgetting
  dsimp only
  split <;> rfl

/-- The record's fields and the reel's latest frame, as the release leaves them. -/
def State.freed (s : State) (b : Buf) : State := (s.modBuffer b Buffer.released).forgetLatest b

theorem State.release_eq (s : State) (b : Buf) :
    s.release b = ((s.freed b).closeIfEmpty s.pool.buffers[b].slot).paceRise := rfl

theorem State.modBuffer_released_slot (s : State) (b : Buf) :
    (s.modBuffer b Buffer.released).pool.buffers[b].slot = s.pool.buffers[b].slot :=
  modBuffer_field s Buffer.slot b b fun _ => rfl

theorem State.freed_eq (s : State) (b : Buf) : s.freed b =
    { s.modBuffer b Buffer.released with reels := reelsForgetting s.reels s.pool.buffers[b].slot b } := by
  rw [State.freed, State.forgetLatest_eq, State.modBuffer_released_slot]
  rfl

theorem State.releaseTest_outstanding (h : s.pool.buffers[b].delivery ≠ .resolved) : s.releaseTest b = s := if_pos h

theorem State.releaseTest_held (h : s.pool.buffers[b].delivery = .resolved) (hh : s.pool.buffers[b].held = true) :
    s.releaseTest b = s.modBuffer b fun x => { x with state := .done } :=
  (if_neg (not_not.2 h)).trans (if_pos hh)

theorem State.releaseTest_unheld (h : s.pool.buffers[b].delivery = .resolved) (hh : s.pool.buffers[b].held = false) :
    s.releaseTest b = s.release b :=
  (if_neg (not_not.2 h)).trans (if_neg (Bool.eq_false_iff.1 hh))

theorem Buffer.held_iff {x : Buffer} : x.held = true ↔ x.successorHold = true ∨ 0 < x.neighbourHolds := by
  rw [Buffer.held, Bool.or_eq_true, decide_eq_true_iff]

end

/-- Settles O44: the three outcomes of the test, and the release put together from its four steps. -/
theorem releaseTestFreesASettledBuffer : Obligations.ReleaseTestFreesASettledBuffer := by
  unfold Obligations.ReleaseTestFreesASettledBuffer
  intro s b x put
  refine ⟨State.releaseTest_outstanding, fun hd hh => State.releaseTest_held hd (Buffer.held_iff.2 hh), fun hd hs hn => ?free⟩
  case free =>
    intro u v
    have unheld : x.held = false := by rw [Buffer.held, hs, hn]; rfl
    have freed : s.freed b = u := State.freed_eq s b
    have draining : u.reels[x.slot].state = s.reels[x.slot].state := freed ▸ State.forgetLatest_reelState _ b x.slot
    have closed : u.closeIfEmpty x.slot = v := by rw [State.closeIfEmpty_eq, draining]
    rw [State.releaseTest_unheld hd unheld, State.release_eq, freed, closed]
    rfl

end Sys2Proof.Machine
end

section
/-! PROOFS. The request of a repair in full: the neighbours, their holds, and the engine's take (R52, R80, R81, R83). -/

namespace Sys2Proof.Machine

/-- Buffer `k` may serve as prev of the frame in buffer `b`: it holds the reel's frame before and carries the successor hold. -/
def State.Serves (s : State) (b k : Buf) : Prop :=
  s.pool.buffers[k].state ≠ .free ∧ s.pool.buffers[k].slot = s.pool.buffers[b].slot ∧
    s.pool.buffers[k].frame + 1 = s.pool.buffers[b].frame ∧ s.pool.buffers[k].successorHold = true

section

variable {s : State} {b : Buf}

/-- Prev is the lowest buffer that may serve, and is absent when none may (R80). -/
theorem State.prevOf_eq {prev : Option Buf} (found : ∀ k, prev = some k → s.Serves b k ∧ ∀ i < k, ¬ s.Serves b i)
    (absent : prev = none → ∀ k, ¬ s.Serves b k) : s.prevOf s.pool.buffers[b].slot s.pool.buffers[b].frame = prev := by
  have test (k : Buf) : (decide (s.pool.buffers[k].state ≠ .free ∧ s.pool.buffers[k].slot = s.pool.buffers[b].slot ∧
      s.pool.buffers[k].frame + 1 = s.pool.buffers[b].frame) && s.pool.buffers[k].successorHold) = true ↔ s.Serves b k := by
    simp only [Bool.and_eq_true, decide_eq_true_eq, State.Serves, and_assoc]
  cases prev with
  | none =>
    rw [Option.eq_none_iff_forall_ne_some]
    intro k hk
    exact absent rfl k ((test k).1 (firstEntry_some hk).1)
  | some k =>
    obtain ⟨serves, lowest⟩ := found k rfl
    exact firstEntry_eq_some ((test k).2 serves) fun i hi => Bool.eq_false_iff.2 (mt (test i).1 (lowest i hi))

end

section

variable (s : State)

/-- The holds a request takes, record by record (R52, R53). -/
theorem State.takeHolds_get (prev next : Option Buf) (k : Buf) : (s.takeHolds prev next).pool.buffers[k] =
    { s.pool.buffers[k] with
      successorHold := if prev = some k then false else s.pool.buffers[k].successorHold
      neighbourHolds := s.pool.buffers[k].neighbourHolds + (if prev = some k then 1 else 0) +
        (if next = some k then 1 else 0) } := by
  have turned : (s.turnPrev prev).pool.buffers[k] =
      { s.pool.buffers[k] with
        successorHold := if prev = some k then false else s.pool.buffers[k].successorHold
        neighbourHolds := s.pool.buffers[k].neighbourHolds + if prev = some k then 1 else 0 } := by
    cases prev with
    | none => rfl
    | some p =>
      simp only [Option.some.injEq]
      refine (modBuffer_get s p k _).trans ?_
      split <;> rfl
  cases next with
  | none => exact turned
  | some n =>
    simp only [Option.some.injEq]
    refine (modBuffer_get _ n k _).trans ?_
    rw [turned]
    split <;> rfl

/-- The holds a request takes change the buffer records only. -/
theorem State.takeHolds_eq (prev next : Option Buf) : s.takeHolds prev next =
    { s with pool := { s.pool with buffers := (s.takeHolds prev next).pool.buffers } } := by
  cases prev <;> cases next <;> rfl

/-- The buffer records after a request for buffer `b`'s frame: the holds it takes, and the frame in REPAIR without its timer. -/
def State.repairRecords (s : State) (b : Buf) (prev next : Option Buf) : Vector Buffer 32 :=
  modEntry (s.takeHolds prev next).pool.buffers b fun x => { x with state := .repair, repairTimer := none }

theorem State.repairRecords_get (b : Buf) (prev next : Option Buf) (k : Buf) : (s.repairRecords b prev next)[k] =
    { s.pool.buffers[k] with
      state := if k = b then .repair else s.pool.buffers[k].state
      successorHold := if prev = some k then false else s.pool.buffers[k].successorHold
      neighbourHolds := s.pool.buffers[k].neighbourHolds + (if prev = some k then 1 else 0) +
        (if next = some k then 1 else 0)
      repairTimer := if k = b then none else s.pool.buffers[k].repairTimer } := by
  rw [State.repairRecords, modEntry_get, State.takeHolds_get]
  by_cases hk : b = k
  · simp only [if_pos hk, if_pos hk.symm]
  · simp only [if_neg hk, if_neg (Ne.symm hk)]

/-- The repair unit after a request joins the queue's tail and an IDLE engine takes the head (R83). -/
def Repair.asked (u : Repair) (q : RepairRequest) : Repair :=
  match u.engine, u.queue with
  | none, [] => { u with queue := [], engine := some ⟨q, u.span, false⟩ }
  | none, q' :: rest => { u with queue := rest ++ [q], engine := some ⟨q', u.span, false⟩ }
  | some _, queue => { u with queue := queue ++ [q] }

theorem State.enqueue_engineTake (q : RepairRequest) : (s.enqueue q).engineTake = { s with repair := s.repair.asked q } := by
  unfold State.engineTake Repair.asked State.enqueue
  generalize s.repair = u
  obtain ⟨queue, engine, wait, span⟩ := u
  cases engine with
  | some job => rfl
  | none => cases queue <;> rfl

/-- A request in full: the records, and the queue and the engine. -/
theorem State.requestRepair_of_prevOf {b : Buf} {prev : Option Buf}
    (hp : s.prevOf s.pool.buffers[b].slot s.pool.buffers[b].frame = prev) (next : Option Buf) : s.requestRepair b next =
      { s with
        pool := { s.pool with buffers := s.repairRecords b prev next }
        repair := s.repair.asked ⟨b, prev, next⟩ } := by
  have marked : ((s.takeHolds prev next).modBuffer b fun x => { x with state := .repair, repairTimer := none }) =
      { s with pool := { s.pool with buffers := s.repairRecords b prev next } } :=
    congrArg (State.modBuffer · b _) (s.takeHolds_eq prev next)
  rw [State.requestRepair_eq, hp, State.enqueue_engineTake, marked]

end

/-- Settles O45: prev is what the search of R80 finds, and the request is its records and the engine's take. -/
theorem repairRequestNamesItsNeighbours : Obligations.RepairRequestNamesItsNeighbours := by
  unfold Obligations.RepairRequestNamesItsNeighbours
  intro s b prev next _ _ x serves found absent
  have named : s.prevOf s.pool.buffers[b].slot s.pool.buffers[b].frame = prev := State.prevOf_eq found absent
  exact ⟨s.repairRecords b prev next, s.repairRecords_get b prev next, s.requestRepair_of_prevOf named next⟩

end Sys2Proof.Machine
end

section
/-! PROOFS. The runs of a line (R62, R63): where they lie, what they cover and how many samples they count (O41). -/

namespace Sys2Proof.Machine

/-- Whether a run covers the sample at a position of its line. -/
def Run.Covers (r : Run) (i : Nat) : Prop := r.start ≤ i ∧ i < r.start + r.length

/-- A run in progress, if there is one, began before position `j`. -/
def BegunBefore (o : Option Nat) (j : Nat) : Prop := ∀ a ∈ o, a < j

theorem begunBefore_none (j : Nat) : BegunBefore none j := by simp [BegunBefore]

theorem begunBefore_some {a j : Nat} : BegunBefore (some a) j ↔ a < j := by simp [BegunBefore]

/-- The mask `m`, whose first position is `j`, is set at position `i`. -/
def MaskedAt (m : List Bool) (j i : Nat) : Prop := j ≤ i ∧ m[i - j]? = some true

theorem not_maskedAt_nil {j i : Nat} : ¬ MaskedAt [] j i := by simp [MaskedAt]

theorem maskedAt_cons {x : Bool} {m : List Bool} {j i : Nat} :
    MaskedAt (x :: m) j i ↔ i = j ∧ x = true ∨ MaskedAt m (j + 1) i := by
  unfold MaskedAt
  obtain h | rfl | h := Nat.lt_trichotomy i j
  · have outside : ¬ i = j ∧ ¬ j ≤ i ∧ ¬ j + 1 ≤ i := by omega
    simp [outside]
  · simp
  · rw [show i - j = i - (j + 1) + 1 by omega]
    simp [h, Nat.le_of_lt h, Nat.ne_of_gt h]

/-- A run that ends before position `j` covers what lies between its start and `j`. -/
theorem Run.covers_upTo {l a j i : Nat} (h : a < j) : Run.Covers ⟨l, a, j - a⟩ i ↔ a ≤ i ∧ i < j := by
  rw [Run.Covers, Nat.add_sub_cancel' h.le]

section

variable {l : Nat} {o : Option Nat} {j : Nat} {m : List Bool}

/-- A run found from position `j` on lies between the start of the run in progress, or `j`, and the end of the mask. -/
theorem runsFrom_bounds (ho : BegunBefore o j) : ∀ r ∈ runsFrom l o j m,
    r.line = l ∧ 1 ≤ r.length ∧ o.getD j ≤ r.start ∧ r.start + r.length ≤ j + m.length := by
  fun_induction runsFrom l o j m with
  | case1 j => simp
  | case2 a j =>
    have before := begunBefore_some.1 ho
    simp
    omega
  | case3 j m ih =>
    intro r hr
    have := ih (begunBefore_some.2 j.lt_succ_self) r hr
    simp at this ⊢
    omega
  | case4 j m ih =>
    intro r hr
    have := ih (begunBefore_none _) r hr
    simp at this ⊢
    omega
  | case5 a j m ih =>
    intro r hr
    have := ih (begunBefore_some.2 (Nat.lt_succ_of_lt (begunBefore_some.1 ho))) r hr
    simp at this ⊢
    omega
  | case6 a j m ih =>
    have before := begunBefore_some.1 ho
    refine List.forall_mem_cons.2 ⟨by simp; omega, fun r hr => ?_⟩
    have := ih (begunBefore_none _) r hr
    simp at this ⊢
    omega

/-- The runs ascend, with a clean sample between any two. -/
theorem runsFrom_pairwise (ho : BegunBefore o j) :
    (runsFrom l o j m).Pairwise fun a b => a.start + a.length < b.start := by
  fun_induction runsFrom l o j m with
  | case1 j => exact .nil
  | case2 a j => exact List.pairwise_singleton _ _
  | case3 j m ih => exact ih (begunBefore_some.2 j.lt_succ_self)
  | case4 j m ih => exact ih (begunBefore_none _)
  | case5 a j m ih => exact ih (begunBefore_some.2 (Nat.lt_succ_of_lt (begunBefore_some.1 ho)))
  | case6 a j m ih =>
    have before := begunBefore_some.1 ho
    refine List.pairwise_cons.2 ⟨fun b hb => ?_, ih (begunBefore_none _)⟩
    obtain ⟨-, -, later : j + 1 ≤ b.start, -⟩ := runsFrom_bounds (begunBefore_none _) b hb
    show a + (j - a) < b.start
    omega

/-- The runs cover the run in progress and the positions whose mask is set. -/
theorem runsFrom_covers (ho : BegunBefore o j) (i : Nat) :
    (∃ r ∈ runsFrom l o j m, r.Covers i) ↔ (∃ a ∈ o, a ≤ i ∧ i < j) ∨ MaskedAt m j i := by
  fun_induction runsFrom l o j m with
  | case1 j => simp [not_maskedAt_nil]
  | case2 a j => simp [not_maskedAt_nil, Run.covers_upTo (begunBefore_some.1 ho)]
  | case3 j m ih =>
    have opened : j ≤ i ∧ i ≤ j ↔ i = j := by omega
    simp [ih (begunBefore_some.2 j.lt_succ_self), maskedAt_cons, opened]
  | case4 j m ih => simp [ih (begunBefore_none _), maskedAt_cons]
  | case5 a j m ih =>
    have before := begunBefore_some.1 ho
    have longer : a ≤ i ∧ i ≤ j ↔ (a ≤ i ∧ i < j) ∨ i = j := by omega
    simp [ih (begunBefore_some.2 (Nat.lt_succ_of_lt before)), maskedAt_cons, longer, or_assoc]
  | case6 a j m ih => simp [ih (begunBefore_none _), maskedAt_cons, Run.covers_upTo (begunBefore_some.1 ho)]

/-- The runs' lengths count the run in progress and the positions whose mask is set. -/
theorem runsFrom_lengths (ho : BegunBefore o j) :
    ((runsFrom l o j m).map Run.length).sum = (j - o.getD j) + m.count true := by
  fun_induction runsFrom l o j m with
  | case1 j => simp
  | case2 a j => simp
  | case3 j m ih =>
    rw [ih (begunBefore_some.2 j.lt_succ_self)]
    simp [Nat.add_comm]
  | case4 j m ih => simp [ih (begunBefore_none _)]
  | case5 a j m ih =>
    have before := begunBefore_some.1 ho
    rw [ih (begunBefore_some.2 (Nat.lt_succ_of_lt before)), List.count_cons_self]
    simp
    omega
  | case6 a j m ih => simp [ih (begunBefore_none _)]

end

/-- Settles O41: a line's runs are those of its mask from position 0 on, with none in progress. -/
theorem runsAreMaximalStretches : Obligations.RunsAreMaximalStretches := by
  intro threshold l xs runs
  have idle := begunBefore_none 0
  refine ⟨fun r hr => ?bounds, runsFrom_pairwise idle, fun j hj => ?cover, ?count⟩
  case bounds =>
    obtain ⟨line, nonempty, -, within⟩ := runsFrom_bounds idle r hr
    exact ⟨line, nonempty, by simpa using within⟩
  case cover =>
    have masked : xs[j].ir.toNat < threshold ↔ MaskedAt (xs.map (isDefective threshold)) 0 j := by
      simp [MaskedAt, isDefective, hj]
    have covered : (∃ r ∈ runs, r.Covers j) ↔ _ := runsFrom_covers idle j
    rw [masked]
    simpa [Run.Covers] using covered.symm
  case count =>
    have counted : (runs.map Run.length).sum = _ := runsFrom_lengths idle
    rw [counted, List.count, List.countP_map]
    simp [Function.comp_def, isDefective]

end Sys2Proof.Machine
end

section
/-! PROOFS. The setting orders: the limits, the lane map and the notice settings (R75, R96, R127, R143, R186) (O19). -/

namespace Sys2Proof.Machine

/-! ### Lists of argument words -/

/-- A list whose entries are each read back from their words is read back whole. -/
theorem mapM_words {α : Type} {read : Word → Option α} {word : α → Word} {xs : List α}
    (h : ∀ x ∈ xs, read (word x) = some x) : (xs.map word).mapM read = some xs := by
  induction xs with
  | nil => rfl
  | cons x xs ih =>
    obtain ⟨head, tail⟩ := List.forall_mem_cons.1 h
    rw [List.map_cons, List.mapM_cons, head, ih tail]
    rfl

/-! ### The words of each setting order -/

theorem argDefectLimits_words {heavy bad : Nat} (hl : 1 ≤ heavy) (hh : heavy ≤ 1000) (hb : bad ≤ 3072) :
    argDefectLimits (natWord heavy) (natWord bad) = some ⟨heavy, bad⟩ := by
  rw [argDefectLimits, argRange_natWord hl hh (by omega), argRange_natWord (Nat.zero_le _) hb (by omega)]
  rfl

theorem argRepairLimits_words {wait span : Nat} (hl : 100 ≤ wait) (hh : wait ≤ 25500) (hm : wait % 100 = 0)
    (hs : 1 ≤ span) (hs' : span ≤ 512) : argRepairLimits (natWord wait) (natWord span) = some (wait, span) := by
  rw [argRepairLimits, argRange_natWord hl hh (by omega), argRange_natWord hs hs' (by omega)]
  exact if_pos hm

theorem laneMapArgs_words {first : Nat} {lanes : List Lane} (hn : lanes ≠ []) (hf : first + lanes.length ≤ 32) :
    laneMapArgs (natWord first :: natWord lanes.length :: lanes.map fun l => natWord l.val) = .ok (first, lanes) := by
  have nonempty : 1 ≤ lanes.length := List.length_pos_iff.2 hn
  have count : (natWord lanes.length).toNat = lanes.length := natWord_toNat (by omega)
  have read : (lanes.map fun l => natWord l.val).mapM (argFin 4) = some lanes :=
    mapM_words fun l _ => argFin_natWord (by decide) l
  rw [laneMapArgs, if_neg (by rw [List.length_map, count]; omega), argRange_natWord (Nat.zero_le _) (by omega) (by omega), read]
  exact congrArg Args.ofRange (if_pos hf)

theorem levelTable_toList (levels : Vector Nat 17) : levelTable levels.toList = some levels :=
  dif_pos levels.length_toList

theorem noticeArgs_words {mask : Nat} {levels : Vector Nat 17} (hm : mask ≤ 3) (hl : ∀ k : Fin 17, levels[k] ≤ 3) :
    noticeArgs (natWord mask :: levels.toList.map natWord) = .ok (mask, levels) := by
  have inRange : ∀ n ∈ levels.toList, n ≤ 3 := fun n hn => by
    obtain ⟨i, hi, rfl⟩ := List.mem_iff_getElem.1 hn
    exact hl ⟨i, by simpa using hi⟩
  have read : (levels.toList.map natWord).mapM (argRange 0 3) = some levels.toList :=
    mapM_words fun n hn => argRange_natWord (Nat.zero_le _) (inRange n hn) (by have := inRange n hn; omega)
  rw [noticeArgs, if_pos (by simp), argRange_natWord (Nat.zero_le _) hm (by omega), read]
  exact congrArg (fun t => Args.ofRange (t.bind fun v => some (mask, v))) (levelTable_toList levels)

theorem portArgs_word (k : Port) : portArgs [natWord k.val] = .ok k := by
  rw [portArgs, argFin_natWord (by decide)]
  rfl

/-! ### The lane map (R127) -/

/-- An entry of the lane map after the entries from `first` on have become the lanes of a list. -/
theorem writeLanes_get (m : Vector Lane 32) (first : Nat) (lanes : List Lane) (i : Fin 32) :
    (writeLanes m first lanes)[i] =
      if first ≤ i.val ∧ i.val < first + lanes.length then lanes.getD (i.val - first) 0 else m[i] := by
  refine (mapEntries_get _ m i.val i.isLt).trans ?_
  by_cases hf : first ≤ i.val
  · rw [if_pos hf]
    by_cases hl : i.val < first + lanes.length
    · have within : i.val - first < lanes.length := by omega
      rw [if_pos ⟨hf, hl⟩, List.getD_eq_getElem _ _ within, List.getD_eq_getElem _ _ within]
    · rw [if_neg (fun h => hl h.2), List.getD_eq_default _ _ (by omega)]
      rfl
  · rw [if_neg hf, if_neg fun h => hf h.1]
    rfl

/-! ### The orders -/

section

variable {s : State} {p : Port} {o : Order}

theorem State.Takes.setDefectLimits {heavy bad : Word} {d : DefectLimits} (h : s.Takes p o 11 [heavy, bad])
    (hd : argDefectLimits heavy bad = some d) : exec .setDefectLimits s =
      .next (replied p o ({ s.popOrder p with defect := d }, .done, defectWords d)) := by
  refine (h.takeOrder (by decide) (by decide) applySetDefectLimits).trans ?_
  rw [applySetDefectLimits, h.args]
  dsimp only
  rw [hd]

theorem State.Takes.setRepairLimits {wait span : Word} {a : Nat × Nat} (h : s.Takes p o 12 [wait, span])
    (ha : argRepairLimits wait span = some a) : exec .setRepairLimits s =
      .next (replied p o ((s.popOrder p).setRepairLimits a, .done, repairWords ((s.popOrder p).setRepairLimits a).repair)) := by
  refine (h.takeOrder (by decide) (by decide) applySetRepairLimits).trans ?_
  rw [applySetRepairLimits, h.args]
  dsimp only
  rw [ha]

theorem State.Takes.setAckWait {w : Word} {n : Nat} (h : s.Takes p o 20 [w]) (hn : argRange 10 10000 w = some n) :
    exec .setAckWait s = .next (replied p o
      ((s.popOrder p).putAckWait n, .done, [natWord n, natWord (s.bufferCount .awaitAck)])) := by
  refine (h.takeOrder (by decide) (by decide) applySetAckWait).trans ?_
  rw [applySetAckWait, h.args]
  dsimp only
  rw [hn]
  rfl

end

/-- Settles O19: the words of each order are read back, and its row replaces what they name. -/
theorem settingOrdersReplaceTheirSettings : Obligations.SettingOrdersReplaceTheirSettings := by
  unfold Obligations.SettingOrdersReplaceTheirSettings
  refine ⟨fun s p o => ⟨fun heavy bad hl hh hb h => ?defect, fun wait span hl hh hm hs hs' h => ?repair,
    fun wait hl hh h => ?ackWait⟩, fun s p o first lanes hn hf h => ?laneMap,
    fun s p o => ⟨fun mask levels hm hl h => ?notices, fun k h => ?noticePort⟩⟩
  case defect => exact h.setDefectLimits (argDefectLimits_words hl hh hb)
  case repair => exact h.setRepairLimits (argRepairLimits_words hl hh hm hs hs')
  case ackWait => exact h.setAckWait (argRange_natWord hl hh (by omega))
  case laneMap =>
    exact ⟨writeLanes s.delivery.laneMap first lanes,
      h.withArgs (by decide) (by decide) (laneMapArgs_words hn hf) fun s _ a =>
        (s.putLaneMap (writeLanes s.delivery.laneMap a.1 a.2), .done, laneMapWords (writeLanes s.delivery.laneMap a.1 a.2)),
      writeLanes_get s.delivery.laneMap first lanes⟩
  case notices =>
    exact h.withArgs (by decide) (by decide) (noticeArgs_words hm hl) fun s _ a =>
      (s.putLevels a, .done, noticeWords (s.putLevels a).notices)
  case noticePort =>
    exact h.withArgs (by decide) (by decide) (portArgs_word k) fun s _ k => (s.putNoticePort k, .done, [])

end Sys2Proof.Machine
end

section
/-! PROOFS. The values a repair gives: usable samples, the temporal rule, the spatial rule and the endpoints of a run (R85 to R91)
(O47). -/

namespace Sys2Proof.Machine

/-! ### Usable samples (R86) -/

theorem covers_eq_false_iff {runs : List Run} {l j : Nat} :
    covers runs l j = false ↔ ∀ r ∈ runs, ¬ (r.line = l ∧ r.start ≤ j ∧ j < r.start + r.length) := by
  simp only [covers, List.any_eq_false, decide_eq_true_eq]

/-- A neighbour's sample is usable inside the neighbour's frame where none of its runs covers it. -/
theorem usableSample_eq_some_iff (cur nb : Buffer) (m : Memory) (l j : Nat) (x : Sample) :
    let line : Int := (l : Int) - cur.offset + nb.offset
    usableSample cur nb m l j = some x ↔ 0 ≤ line ∧ line < nb.lines ∧ j < nb.width ∧
      (∀ r ∈ nb.runs, ¬ ((r.line : Int) = line ∧ r.start ≤ j ∧ j < r.start + r.length)) ∧
      x = m.read (sampleAddress line.toNat j) := by
  intro line
  by_cases hl : 0 ≤ line
  · have onLine (n : Nat) : n = line.toNat ↔ (n : Int) = line := by omega
    have uncovered := covers_eq_false_iff (runs := nb.runs) (l := line.toNat) (j := j)
    simp only [onLine] at uncovered
    rw [← uncovered, usableSample, Option.ite_none_right_eq_some, Option.some.injEq, @eq_comm _ x]
    simp only [and_assoc]
    rfl
  · have outside : usableSample cur nb m l j = none := if_neg fun h => hl h.1
    simp [outside, hl]

theorem State.neighbourSample_eq (s : State) (cur : Buffer) (nb : Option Buf) (l j : Nat) :
    s.neighbourSample cur nb l j = nb.bind fun k => usableSample cur s.pool.buffers[k] s.pool.dram[k] l j := by
  cases nb <;> rfl

/-! ### The temporal rule (R87) -/

theorem meanChannel_toNat (a b : Channel) : (meanChannel a b).toNat = (a.toNat + b.toNat + 1) / 2 := by
  have ha := a.isLt
  have hb := b.isLt
  rw [meanChannel, BitVec.toNat_ofNat, Nat.mod_eq_of_lt (by omega)]

/-! ### The spatial rule (R88 to R90) -/

/-- A step within a run goes no further than the whole difference, in its direction. -/
theorem fdiv_step_between (d : Int) {k n : Nat} (hk : k ≤ n) :
    min 0 d ≤ (d * k).fdiv (n + 1) ∧ (d * k).fdiv (n + 1) ≤ max 0 d := by
  have count : (k : Int) ≤ n + 1 := by omega
  have nonneg : (0 : Int) ≤ k := Int.natCast_nonneg k
  have pos : (0 : Int) < n + 1 := by omega
  rw [Int.fdiv_eq_ediv_of_nonneg _ pos.le]
  obtain hd | hd := le_total 0 d
  · rw [min_eq_left hd, max_eq_right hd]
    exact ⟨Int.ediv_nonneg (mul_nonneg hd nonneg) pos.le,
      Int.ediv_le_of_le_mul pos (mul_le_mul_of_nonneg_left count hd)⟩
  · rw [min_eq_right hd, max_eq_left hd]
    exact ⟨Int.le_ediv_of_mul_le pos (mul_le_mul_of_nonpos_left count hd),
      Int.ediv_le_of_le_mul pos (by rw [zero_mul]; exact mul_nonpos_of_nonpos_of_nonneg hd nonneg)⟩

/-- An interpolated channel is the rounded-down formula, and lies within its endpoints (R89). -/
theorem interpolate_within {k length : Nat} (hk : k ≤ length) (vl vr : Channel) :
    ((interpolate k length vl vr).toNat : Int) =
      vl.toNat + (((vr.toNat : Int) - vl.toNat) * k).fdiv (length + 1) ∧
    min vl.toNat vr.toNat ≤ (interpolate k length vl vr).toNat ∧
    (interpolate k length vl vr).toNat ≤ max vl.toNat vr.toNat := by
  have hl := vl.isLt
  have hr := vr.isLt
  obtain ⟨low, high⟩ := fdiv_step_between ((vr.toNat : Int) - vl.toNat) hk
  have value : ((interpolate k length vl vr).toNat : Int) =
      vl.toNat + (((vr.toNat : Int) - vl.toNat) * k).fdiv (length + 1) := by
    rw [interpolate, BitVec.toNat_ofInt]
    omega
  exact ⟨value, by omega, by omega⟩

/-- A run no longer than the span limit, with both endpoints, is interpolated. -/
theorem spatialValue_interpolated {span length k : Nat} (h : length ≤ span) (vl vr : Sample) :
    spatialValue span length k (some vl) (some vr) = some (zipRGB (interpolate k length) vl vr) := if_pos h

/-- A run longer than the span limit takes the nearer endpoint, the left one at equal distance (R90). -/
theorem spatialValue_nearer {span length : Nat} (h : span < length) (k : Nat) (vl vr : Sample) :
    spatialValue span length k (some vl) (some vr) = if k ≤ length + 1 - k then some vl else some vr :=
  if_neg (Nat.not_le.2 h)

/-! ### The samples to fill (R85) -/

theorem State.mem_repairFills {s : State} {job : RepairJob} {f : Fill} : f ∈ s.repairFills job ↔
    ∃ r ∈ s.pool.buffers[job.request.buf].runs, ∃ i, i < r.length ∧
      f = ⟨sampleAddress r.line (r.start + i), s.repairValue job r i⟩ := by
  simp only [State.repairFills, List.mem_flatMap, List.mem_map, List.mem_range, @eq_comm _ _ f]

section

variable (s : State) (job : RepairJob) (r : Run) (i : Nat)

/-- The temporal value at position `start + i` of a run of the frame in the engine. -/
def State.repairTemporal : Option Sample :=
  temporalValue
    (s.neighbourSample s.pool.buffers[job.request.buf] job.request.prev r.line (r.start + i))
    (s.neighbourSample s.pool.buffers[job.request.buf] job.request.next r.line (r.start + i))

theorem State.repairValue_eq : s.repairValue job r i = (s.repairTemporal job r i).or
    (spatialValue job.span r.length (i + 1) (leftEndpoint s.pool.dram[job.request.buf] r)
      (rightEndpoint s.pool.dram[job.request.buf] s.pool.buffers[job.request.buf].width r)) := by
  unfold State.repairValue State.repairTemporal
  dsimp only
  split <;> rename_i h <;> rw [h] <;> rfl

end

/-- Settles O47: each rule by its own lemma, and the values put together from the temporal rule first. -/
theorem repairValuesFollowTheirRules : Obligations.RepairValuesFollowTheirRules := by
  unfold Obligations.RepairValuesFollowTheirRules
  refine ⟨usableSample_eq_some_iff, fun p n => ?mean, fun p => ⟨rfl, rfl⟩, rfl, fun span length k vl vr _ hk hs => ?interpolated,
    fun span length k vl vr => ⟨fun hs hn => ?left, fun hs hn => ?right, rfl, rfl, rfl⟩,
    fun m width r => ⟨fun h => if_pos h, fun h => if_neg (by omega), fun h => if_pos h, fun h => if_neg (by omega)⟩,
    fun s job => ?values⟩
  case mean =>
    exact ⟨_, rfl, meanChannel_toNat p.r n.r, meanChannel_toNat p.g n.g, meanChannel_toNat p.b n.b⟩
  case interpolated =>
    refine ⟨_, spatialValue_interpolated hs vl vr, fun f hf => ?_⟩
    simp only [List.mem_cons, List.not_mem_nil, or_false] at hf
    obtain rfl | rfl | rfl := hf
    · exact interpolate_within hk vl.r vr.r
    · exact interpolate_within hk vl.g vr.g
    · exact interpolate_within hk vl.b vr.b
  case left => rw [spatialValue_nearer hs, if_pos hn]
  case right => rw [spatialValue_nearer hs, if_neg (Nat.not_le.2 hn)]
  case values =>
    intro b cur seen temporal
    have temporal_eq (r : Run) (i : Nat) : s.repairTemporal job r i = temporal r i := by
      simp only [State.repairTemporal, State.neighbourSample_eq]
      rfl
    refine ⟨fun f => State.mem_repairFills, fun r i v hv => ?_, fun r i hn => ?_⟩
    · rw [State.repairValue_eq, temporal_eq, hv]
      rfl
    · rw [State.repairValue_eq, temporal_eq, hn]
      rfl

end Sys2Proof.Machine
end

section
/-! PROOFS. The expiry of the timers, and the completion of a repair: the DRAM, the records, the counters, the neighbour holds and
the engine (R53, R78, R85, R91 to R93, R139) (O46, O48). -/

namespace Sys2Proof.Machine

/-! ### The timers (R78, R139) -/

theorem timer_expires {p : Prop} {timer : Option Nat} (hp : p) (ht : timer ≠ none) : p ∧ timer.isSome = true :=
  ⟨hp, Option.isSome_iff_ne_none.2 ht⟩

/-- A timer does not expire in a state that does not run it, nor when it is not set. -/
theorem timer_idle {p : Prop} {timer : Option Nat} (h : ¬ p ∨ timer = none) : ¬ (p ∧ timer.isSome = true) := fun ⟨hp, ht⟩ =>
  h.elim (fun hn => hn hp) (Option.isSome_iff_ne_none.1 ht)

/-- The effects of the expiry of an ack timer: the raise of a notice and the change of a record touch different parts. -/
theorem State.ackExpiry_eq (s : State) (b : Buf) : s.ackExpiry b =
    (((s.countReel s.pool.buffers[b].slot fun c => { c with framesTimedOut := c.framesTimedOut + 1 }).modBuffer b fun x =>
      { x with delivery := .resolved, resolution := some .timedOut, ackTimer := none }).raise .storeTimeout
        s.pool.buffers[b].slot.val (some s.pool.buffers[b].record) s.pool.buffers[b].frame).releaseTest b := rfl

/-- Settles O46: a timer expires in the state that runs it, and only while it is set. -/
theorem timersExpireOnlyWhileRunning : Obligations.TimersExpireOnlyWhileRunning := by
  unfold Obligations.TimersExpireOnlyWhileRunning
  intro s b x
  refine ⟨fun hs ht => if_pos (timer_expires hs ht), fun h => if_neg (timer_idle h), fun hs ht => ?ack,
    fun h => if_neg (timer_idle h)⟩
  case ack =>
    have expires : exec (.ackTimerExpiry b) s = .next (s.ackExpiry b).handOver := if_pos (timer_expires hs ht)
    rw [expires, State.ackExpiry_eq]
    rfl

/-! ### The values written (R85, R91) -/

/-- A stored sample after a fill of its address: R, G and B of the fill's value, and the stored IR value. -/
def Fill.over (f : Fill) (x : Sample) : Sample :=
  match f.value with
  | some v => { v with ir := x.ir }
  | none => x

section

variable {m : Memory} (h : m.wf = true)
include h

theorem Memory.read_fill_self (f : Fill) : (m.fill f).read f.address = f.over (m.read f.address) := by
  unfold Memory.fill Fill.over
  cases f.value with
  | some v => exact (Memory.read_write_wf h _ _ _).trans (if_pos rfl)
  | none => rfl

theorem Memory.read_fill_of_ne {f : Fill} {a : Nat} (ha : f.address ≠ a) : (m.fill f).read a = m.read a :=
  (Memory.read_fill h f a).resolve_right fun hf => ha hf.1

theorem Memory.read_fills_of_ne {fs : List Fill} {a : Nat} (ha : ∀ f ∈ fs, f.address ≠ a) :
    (fs.foldl Memory.fill m).read a = m.read a :=
  (Memory.read_fills h a).resolve_right fun ⟨f, hf, hfa, _⟩ => ha f hf hfa

theorem Memory.read_fills_ir (fs : List Fill) (a : Nat) : ((fs.foldl Memory.fill m).read a).ir = (m.read a).ir := by
  obtain e | ⟨-, -, -, v, -, e⟩ := Memory.read_fills (fs := fs) h a <;> rw [e]

/-- Fills of different addresses each write their own. -/
theorem Memory.read_fills_of_mem {fs : List Fill} (hn : (fs.map Fill.address).Nodup) {f : Fill} (hf : f ∈ fs) :
    (fs.foldl Memory.fill m).read f.address = f.over (m.read f.address) := by
  induction fs generalizing m with
  | nil => cases hf
  | cons g fs ih =>
    obtain ⟨hg, hn⟩ := List.nodup_cons.1 hn
    have apart {k : Fill} (hk : k ∈ fs) : k.address ≠ g.address := fun e => hg (e ▸ List.mem_map_of_mem hk)
    have filled := Memory.wf_fill h g
    obtain rfl | hf := List.mem_cons.1 hf
    · exact (Memory.read_fills_of_ne filled fun k hk => apart hk).trans (Memory.read_fill_self h f)
    · rw [List.foldl_cons, ih filled hn hf, Memory.read_fill_of_ne h (apart hf).symm]

end

/-! ### The neighbour holds given back (R53) -/

/-- How many neighbour holds a request took on a buffer. -/
def RepairRequest.holdsOn (q : RepairRequest) (k : Buf) : Nat :=
  (if q.prev = some k then 1 else 0) + if q.next = some k then 1 else 0

theorem Buffer.lessHeld_neighbourHolds (x : Buffer) : x.lessHeld.neighbourHolds = x.neighbourHolds - 1 := by
  unfold Buffer.lessHeld
  dsimp only
  split
  · rename_i hz
    unfold Buffer.tested
    split
    · rfl
    · split <;> [rfl; exact hz.symm]
  · rfl

theorem Buffer.lessHeldBy_neighbourHolds (n : Nat) (x : Buffer) : (x.lessHeldBy n).neighbourHolds = x.neighbourHolds - n := by
  induction n generalizing x with
  | zero => rfl
  | succ n ih =>
    refine (ih x.lessHeld).trans ?_
    rw [Buffer.lessHeld_neighbourHolds]
    omega

/-! ### The frame on its way (R92, R93) -/

/-- The lane the map gives the frame in a buffer (R128). -/
def State.laneFor (s : State) (b : Buf) : Lane :=
  s.delivery.laneMap[laneIndex s.pool.buffers[b].frame s.pool.buffers[b].slot]

/-- The buffer that joins a lane: QUEUED, or SENDING when the arbiter starts it. -/
theorem State.joinLane_self (s : State) (b : Buf) : ∃ x ∈ [BufferState.queued, .sending],
    (s.joinLane b).pool.buffers[b] = { s.pool.buffers[b] with state := x, lane := some (s.laneFor b) } := by
  set u := (s.modBuffer b fun x => { x with state := .queued, lane := some (s.laneFor b) }).modQueue (s.laneFor b)
    fun q => q ++ [b]
  have entry : u.pool.buffers[b] = { s.pool.buffers[b] with state := .queued, lane := some (s.laneFor b) } :=
    (modBuffer_get s b b _).trans (if_pos rfl)
  have searched := (State.arbiterSearch_searches u).buffers b
  rw [entry] at searched
  obtain hs | ⟨hs, -⟩ := searched
  · exact ⟨.queued, by simp, hs⟩
  · exact ⟨.sending, by simp, hs⟩

theorem State.Eases.counters {s t : State} (h : s.Eases t) (r : Slot) : t.reels[r].counters = s.reels[r].counters :=
  (congrArg Reel.counters (h.kept r) : t.reels[r].kept.counters = _)

theorem State.forgetLatest_counters (s : State) (b : Buf) (r : Slot) :
    (s.forgetLatest b).reels[r].counters = s.reels[r].counters := by
  unfold State.forgetLatest
  dsimp only
  split
  · refine (congrArg Reel.counters (State.modReel_get s _ r _)).trans ?_
    split <;> rfl
  · rfl

/-- The discard of a buffer counts nothing (R50). -/
theorem State.discard_counters (s : State) (b : Buf) (r : Slot) : (s.discard b).reels[r].counters = s.reels[r].counters := by
  have tested := (State.Eases.releaseTest ((s.withdrawn b).modBuffer b Buffer.discarded) b).counters r
  have forgotten := State.forgetLatest_counters
    (((s.requestsFor b).foldl State.releaseNeighbours (s.unqueue b)).leaveLanes b) b r
  have released := (State.Eases.foldl State.Eases.releaseNeighbours (s.requestsFor b) (s.unqueue b)).counters r
  exact tested.trans (forgotten.trans released)

/-- An abort counts the frame it discards, on its reel, and nothing else (R18). -/
theorem State.abortFrame_counters (s : State) (r : Slot) (b : Buf) : (s.abortFrame r b).reels[r].counters =
    { s.reels[r].counters with discardedAbort := s.reels[r].counters.discardedAbort + 1 } :=
  (State.discard_counters _ b r).trans (congrArg Reel.counters (State.modReel_get_self s r _))

/-- No request for a buffer waits in the repair queue. -/
def State.Unasked (s : State) (b : Buf) : Prop := ∀ q ∈ s.repair.queue, q.buf ≠ b

theorem State.Unasked.requestsFor {s : State} {b : Buf} (h : s.Unasked b) : s.requestsFor b = [] :=
  List.filter_eq_nil_iff.2 fun q hq => by simpa using h q hq

theorem State.Unasked.abortFrame_get {s : State} {b : Buf} (h : s.Unasked b) (r : Slot) (k : Buf) :
    (s.abortFrame r b).pool.buffers[k] = if b = k then s.pool.buffers[k].discarded.tested else s.pool.buffers[k] := by
  rw [State.abortFrame_get, h.requestsFor]
  rfl

theorem State.Unasked.abortFrame_repair {s : State} {b : Buf} (h : s.Unasked b) (r : Slot) :
    (s.abortFrame r b).repair = s.repair := by
  rw [(s.abortFrame_work r b).2.1, List.filter_eq_self.2 fun q hq => by simpa using h q hq]

/-- The frame of a completed repair joins its lane, or is discarded when its reel was aborted (R92, R93). -/
def State.moveOn (s : State) (job : RepairJob) : State :=
  if job.aborted then s.abortFrame s.pool.buffers[job.request.buf].slot job.request.buf else s.joinLane job.request.buf

/-- Another buffer is left alone, but for one of a lane queue that is sent. -/
theorem State.Unasked.moveOn_other {s : State} {job : RepairJob} (h : s.Unasked job.request.buf) {k : Buf}
    (hk : job.request.buf ≠ k) : (s.moveOn job).pool.buffers[k] = s.pool.buffers[k] ∨
      (s.moveOn job).pool.buffers[k] = { s.pool.buffers[k] with state := .sending } ∧ ∃ l : Lane, k ∈ s.delivery.queues[l] := by
  unfold State.moveOn
  split
  · exact .inl ((h.abortFrame_get _ k).trans (if_neg hk))
  · exact (s.joinLane_get _ k).1 hk

/-- The frame that moves on keeps its record, but for its state, holds and delivery. -/
theorem State.Unasked.moveOn_released {s : State} {job : RepairJob} (h : s.Unasked job.request.buf) :
    (s.moveOn job).pool.buffers[job.request.buf].released = s.pool.buffers[job.request.buf].released := by
  unfold State.moveOn
  split
  · rw [h.abortFrame_get, if_pos rfl]
    exact (Buffer.tested_eases (Buffer.discarded _)).frame
  · obtain ⟨x, -, joined⟩ := s.joinLane_self job.request.buf
    rw [joined]
    rfl

theorem State.Unasked.moveOn_repair {s : State} {job : RepairJob} (h : s.Unasked job.request.buf) :
    (s.moveOn job).repair = s.repair := by
  unfold State.moveOn
  split
  · exact h.abortFrame_repair _
  · exact (s.joinLane_searches _).2.2.1

/-! ### The completion of a repair (R92) -/

/-- The repair unit once its engine is IDLE and takes the request at the head of the queue (R83). -/
def Repair.next (u : Repair) : Repair :=
  match u.queue with
  | [] => { u with engine := none }
  | q :: rest => { u with queue := rest, engine := some ⟨q, u.span, false⟩ }

theorem State.idle_engineTake_repair (s : State) :
    ({ s with repair := { s.repair with engine := none } } : State).engineTake.repair = s.repair.next := by
  unfold State.engineTake Repair.next
  generalize s.repair = u
  obtain ⟨queue, engine, wait, span⟩ := u
  cases queue <;> rfl

section

variable (s : State) (job : RepairJob)

/-- The state of a completion once the values are written and the neighbours given back, before the frame moves on. -/
def State.repairWritten : State := (s.writeRepair job).releaseNeighbours job.request

theorem State.completeRepair_eq : s.completeRepair job =
    ({ (s.repairWritten job).moveOn job with
      repair := { ((s.repairWritten job).moveOn job).repair with engine := none } } : State).engineTake := rfl

theorem State.completeRepair_pool : (s.completeRepair job).pool = ((s.repairWritten job).moveOn job).pool := by
  rw [State.completeRepair_eq, State.engineTake_pool]

theorem State.completeRepair_counters (r : Slot) :
    (s.completeRepair job).reels[r].counters = ((s.repairWritten job).moveOn job).reels[r].counters :=
  (State.Eases.engineTake _).counters r

theorem State.repairWritten_get (k : Buf) : (s.repairWritten job).pool.buffers[k] =
    (if job.request.buf = k then { s.pool.buffers[k] with
      repaired := repairedCount (s.repairFills job), unrepaired := unrepairedCount (s.repairFills job) }
    else s.pool.buffers[k]).lessHeldBy (job.request.holdsOn k) := by
  have counted : (s.writeRepair job).pool.buffers[k] = _ := modEntry_get s.pool.buffers job.request.buf k _
  rw [State.repairWritten, State.releaseNeighbours_get, counted, RepairRequest.holdsOn, Nat.add_comm]

/-- The record of the frame repaired carries the counts, and its frame is as it was. -/
theorem State.repairWritten_self : (s.repairWritten job).pool.buffers[job.request.buf].released =
    { s.pool.buffers[job.request.buf].released with
      repaired := repairedCount (s.repairFills job), unrepaired := unrepairedCount (s.repairFills job) } := by
  rw [State.repairWritten_get, if_pos rfl]
  exact (Buffer.lessHeldBy_eases _ _).frame

theorem State.repairWritten_slot :
    (s.repairWritten job).pool.buffers[job.request.buf].slot = s.pool.buffers[job.request.buf].slot :=
  (congrArg Buffer.slot (s.repairWritten_self job) : Buffer.slot (Buffer.released _) = _)

theorem State.repairWritten_frame :
    (s.repairWritten job).pool.buffers[job.request.buf].frame = s.pool.buffers[job.request.buf].frame :=
  (congrArg Buffer.frame (s.repairWritten_self job) : Buffer.frame (Buffer.released _) = _)

theorem State.repairWritten_repair : (s.repairWritten job).repair = s.repair := (State.releaseNeighbours_work _ _).2.1

theorem State.repairWritten_delivery : (s.repairWritten job).delivery = s.delivery := (State.releaseNeighbours_work _ _).2.2.1

theorem State.repairWritten_laneFor : (s.repairWritten job).laneFor job.request.buf = s.laneFor job.request.buf := by
  simp only [State.laneFor, State.repairWritten_delivery, State.repairWritten_frame, State.repairWritten_slot]

theorem State.repairWritten_counters : (s.repairWritten job).reels[s.pool.buffers[job.request.buf].slot].counters =
    { s.reels[s.pool.buffers[job.request.buf].slot].counters with
      repairedSamples := s.reels[s.pool.buffers[job.request.buf].slot].counters.repairedSamples +
        BitVec.ofNat 64 (repairedCount (s.repairFills job))
      unrepairedSamples := s.reels[s.pool.buffers[job.request.buf].slot].counters.unrepairedSamples +
        BitVec.ofNat 64 (unrepairedCount (s.repairFills job)) } := by
  have slot : ((s.modMemory job.request.buf fun m => (s.repairFills job).foldl Memory.fill m).modBuffer job.request.buf fun x =>
      { x with repaired := repairedCount (s.repairFills job), unrepaired := unrepairedCount (s.repairFills job) }
      ).pool.buffers[job.request.buf].slot = s.pool.buffers[job.request.buf].slot :=
    modBuffer_field _ Buffer.slot _ _ fun _ => rfl
  refine ((State.Eases.releaseNeighbours (s.writeRepair job) job.request).counters _).trans ?_
  unfold State.writeRepair
  dsimp only
  rw [slot]
  exact congrArg Reel.counters (State.modReel_get_self _ _ _)

theorem State.completeRepair_dram : (s.completeRepair job).pool.dram =
    modEntry s.pool.dram job.request.buf fun m => (s.repairFills job).foldl Memory.fill m := by
  rw [State.completeRepair_pool, State.moveOn]
  have written : (s.repairWritten job).pool.dram = _ := State.releaseNeighbours_dram (s.writeRepair job) job.request
  split
  · exact (State.abortFrame_dram _ _ _).trans written
  · exact (State.joinLane_dram _ _).trans written

variable {s job}

theorem State.Unasked.repairWritten (h : s.Unasked job.request.buf) : (s.repairWritten job).Unasked job.request.buf := by
  unfold State.Unasked
  rwa [State.repairWritten_repair]

/-- A buffer other than the repaired one gives back the holds the request took on it, and is else left alone, but for one of a
lane queue that is sent. -/
theorem State.Unasked.completeRepair_other (h : s.Unasked job.request.buf) {k : Buf} (hk : job.request.buf ≠ k) :
    (s.completeRepair job).pool.buffers[k] = s.pool.buffers[k].lessHeldBy (job.request.holdsOn k) ∨
      (s.completeRepair job).pool.buffers[k] =
        { s.pool.buffers[k].lessHeldBy (job.request.holdsOn k) with state := .sending } ∧
        ∃ l : Lane, k ∈ s.delivery.queues[l] := by
  have moved := h.repairWritten.moveOn_other hk
  rwa [State.repairWritten_get, if_neg hk, State.repairWritten_delivery, ← State.completeRepair_pool] at moved

theorem State.Unasked.completeRepair_repair (h : s.Unasked job.request.buf) : (s.completeRepair job).repair = s.repair.next := by
  rw [State.completeRepair_eq, State.idle_engineTake_repair, h.repairWritten.moveOn_repair, State.repairWritten_repair]

/-- The record of the frame repaired carries the counts (R91). -/
theorem State.Unasked.completeRepair_counts (h : s.Unasked job.request.buf) :
    (s.completeRepair job).pool.buffers[job.request.buf].repaired = repairedCount (s.repairFills job) ∧
      (s.completeRepair job).pool.buffers[job.request.buf].unrepaired = unrepairedCount (s.repairFills job) := by
  have record := h.repairWritten.moveOn_released.trans (s.repairWritten_self job)
  rw [← State.completeRepair_pool] at record
  exact ⟨(congrArg Buffer.repaired record : Buffer.repaired (Buffer.released _) = _),
    (congrArg Buffer.unrepaired record : Buffer.unrepaired (Buffer.released _) = _)⟩

/-- The frame of a reel that was not aborted is on its lane, and the counters are as the writing left them (R92). -/
theorem State.completeRepair_joins (ha : job.aborted = false) :
    (∃ x ∈ [BufferState.queued, .sending], (s.completeRepair job).pool.buffers[job.request.buf] =
      { (s.repairWritten job).pool.buffers[job.request.buf] with state := x, lane := some (s.laneFor job.request.buf) }) ∧
      ∀ r : Slot, (s.completeRepair job).reels[r].counters = (s.repairWritten job).reels[r].counters := by
  have joins : (s.repairWritten job).moveOn job = (s.repairWritten job).joinLane job.request.buf := if_neg (by simp [ha])
  constructor
  · have joined := (s.repairWritten job).joinLane_self job.request.buf
    rwa [State.repairWritten_laneFor, ← joins, ← State.completeRepair_pool] at joined
  · intro r
    rw [State.completeRepair_counters, joins, (State.joinLane_searches _ _).1]

/-- The frame of an aborted reel is discarded and counted (R93). -/
theorem State.Unasked.completeRepair_discards (h : s.Unasked job.request.buf) (ha : job.aborted = true) :
    (s.completeRepair job).pool.buffers[job.request.buf].state ∈ [.free, .done] ∧
      (s.completeRepair job).reels[s.pool.buffers[job.request.buf].slot].counters =
        { (s.repairWritten job).reels[s.pool.buffers[job.request.buf].slot].counters with
          discardedAbort :=
            (s.repairWritten job).reels[s.pool.buffers[job.request.buf].slot].counters.discardedAbort + 1 } := by
  have discards : (s.repairWritten job).moveOn job =
      (s.repairWritten job).abortFrame s.pool.buffers[job.request.buf].slot job.request.buf :=
    (if_pos ha).trans (congrArg (State.abortFrame _ · _) (s.repairWritten_slot job))
  constructor
  · rw [State.completeRepair_pool, discards, h.repairWritten.abortFrame_get, if_pos rfl]
    exact Buffer.discarded_tested _
  · rw [State.completeRepair_counters, discards, State.abortFrame_counters]

/-- The samples counted on the reel, whichever way the frame goes (R92). -/
theorem State.Unasked.completeRepair_samples (h : s.Unasked job.request.buf) :
    (s.completeRepair job).reels[s.pool.buffers[job.request.buf].slot].counters.repairedSamples =
      s.reels[s.pool.buffers[job.request.buf].slot].counters.repairedSamples +
        BitVec.ofNat 64 (repairedCount (s.repairFills job)) ∧
    (s.completeRepair job).reels[s.pool.buffers[job.request.buf].slot].counters.unrepairedSamples =
      s.reels[s.pool.buffers[job.request.buf].slot].counters.unrepairedSamples +
        BitVec.ofNat 64 (unrepairedCount (s.repairFills job)) := by
  have written := s.repairWritten_counters job
  cases ha : job.aborted with
  | false =>
    rw [(State.completeRepair_joins ha).2, written]
    exact ⟨rfl, rfl⟩
  | true =>
    rw [(h.completeRepair_discards ha).2, written]
    exact ⟨rfl, rfl⟩

/-- The holds another buffer keeps, and when it is FREE (R53, R54). -/
theorem State.Unasked.completeRepair_holds (h : s.Unasked job.request.buf) {k : Buf} (hk : job.request.buf ≠ k) :
    (s.completeRepair job).pool.buffers[k].neighbourHolds = s.pool.buffers[k].neighbourHolds - job.request.holdsOn k ∧
      (0 < job.request.holdsOn k → s.pool.buffers[k].neighbourHolds = job.request.holdsOn k →
        s.pool.buffers[k].delivery = .resolved → s.pool.buffers[k].successorHold = false →
        (∀ l : Lane, k ∉ s.delivery.queues[l]) → (s.completeRepair job).pool.buffers[k].state = .free) := by
  obtain e | ⟨e, l, hl⟩ := h.completeRepair_other hk
  · rw [e]
    exact ⟨Buffer.lessHeldBy_neighbourHolds _ _,
      fun ht hn hd hs _ => Buffer.lessHeldBy_freed hd hs (hn ▸ ht) hn.le⟩
  · rw [e]
    exact ⟨Buffer.lessHeldBy_neighbourHolds _ _, fun _ _ _ _ hq => absurd hl (hq l)⟩

theorem State.completeRepair_dram_self : (s.completeRepair job).pool.dram[job.request.buf] =
    (s.repairFills job).foldl Memory.fill s.pool.dram[job.request.buf] := by
  rw [State.completeRepair_dram]
  exact (modEntry_get _ _ _ _).trans (if_pos rfl)

end

/-- Settles O48: what is written, counted and given back, and where the frame and the engine go, each by its own lemma; the
hand-over changes none of it. -/
theorem repairCompletionWritesAndMovesOn : Obligations.RepairCompletionWritesAndMovesOn := by
  unfold Obligations.RepairCompletionWritesAndMovesOn
  intro s
  refine ⟨fun hidle => ?idle, fun job hjob hm hq => ?completes⟩
  case idle => simp only [exec, execRepairCompletion, hidle]
  case completes =>
    intro b x fills
    have unasked : s.Unasked b := hq
    have canonical : s.pool.dram[b].wf = true := hm b
    refine ⟨(s.completeRepair job).handOver, by simp only [exec, execRepairCompletion, hjob, State.finish], ?_⟩
    rw [State.handOver_dram, State.handOver_buffers, State.handOver_reels, State.handOver_repair, State.handOver_settings,
      State.completeRepair_dram_self]
    obtain ⟨repaired, unrepaired⟩ := unasked.completeRepair_counts
    obtain ⟨repairedSamples, unrepairedSamples⟩ := unasked.completeRepair_samples
    refine ⟨fun k hk => ?regions, Memory.read_fills_ir canonical fills, fun a => Memory.read_fills_of_ne canonical,
      fun hn f hf => Memory.read_fills_of_mem canonical hn hf, repaired, unrepaired, repairedSamples, unrepairedSamples,
      fun ha => ?joins, fun ha => ?discards, fun k hk => ?holds, unasked.completeRepair_repair,
      State.settings_of_standing (s.completeRepair_standing job)⟩
    case regions =>
      rw [State.completeRepair_dram]
      exact modEntry_of_ne _ hk.symm _
    case joins =>
      obtain ⟨st, hst, joined⟩ := (State.completeRepair_joins ha).1
      rw [joined]
      exact ⟨hst, rfl⟩
    case discards =>
      obtain ⟨state, counters⟩ := unasked.completeRepair_discards ha
      rw [counters, State.repairWritten_counters]
      exact ⟨state, rfl⟩
    case holds =>
      obtain ⟨left, freed⟩ := unasked.completeRepair_holds hk.symm
      exact ⟨fun _ => left, freed⟩

end Sys2Proof.Machine
end

section
/-! PROOFS. The use of profiles and gauges: what their orders may replace (O9, O22). -/

namespace Sys2Proof.Machine

/-! ### The references to a profile (R99) -/

/-- What holds of a table's entries one by one, by number. -/
theorem forall_mem_toList_iff {α : Type} {n : Nat} {v : Vector α n} {P : α → Prop} :
    (∀ x ∈ v.toList, P x) ↔ ∀ i : Fin n, P v[i] := by
  simp only [List.forall_mem_iff_getElem, Vector.length_toList, Vector.getElem_toList]
  exact ⟨fun h i => h i.val i.isLt, fun h i hi => h ⟨i, hi⟩⟩

theorem countEntries_eq_zero_iff {α : Type} {n : Nat} {p : α → Bool} {v : Vector α n} :
    countEntries p v = 0 ↔ ∀ i : Fin n, ¬ p v[i] = true :=
  List.countP_eq_zero.trans forall_mem_toList_iff

theorem BufferState.unsent_iff {x : BufferState} :
    x.unsent = true ↔ x ∈ [.filling, .pending, .repair, .queued, .sending] := by
  cases x <;> simp [BufferState.unsent]

section

variable {s : State} {p : ProfileNo}

theorem State.reelReferences_eq_zero_iff : s.reelReferences p = 0 ↔
    ∀ r : Slot, s.reels[r].state ∈ [.mounted, .running, .held, .draining] → s.reels[r].grade.profile ≠ p := by
  rw [State.reelReferences, countEntries_eq_zero_iff]
  simp only [Bool.and_eq_true, ReelState.inUse_iff, decide_eq_true_eq, not_and, ne_eq]

theorem State.cueReferences_eq_zero_iff : s.cueReferences p = 0 ↔
    ∀ r : Slot, ∀ x ∈ s.reels[r].cues, x.grade.profile ≠ p := by
  rw [State.cueReferences, List.sum_eq_zero_iff, List.forall_mem_map]
  simp only [List.countP_eq_zero, decide_eq_true_eq]
  exact forall_mem_toList_iff (P := fun x : Reel => ∀ c ∈ x.cues, c.grade.profile ≠ p)

theorem State.bufferReferences_eq_zero_iff : s.bufferReferences p = 0 ↔
    ∀ b : Buf, s.pool.buffers[b].state ∈ [.filling, .pending, .repair, .queued, .sending] →
      s.pool.buffers[b].grade.profile ≠ p := by
  rw [State.bufferReferences, countEntries_eq_zero_iff]
  simp only [Bool.and_eq_true, BufferState.unsent_iff, decide_eq_true_eq, not_and, ne_eq]

theorem State.referenced_eq_false_iff :
    s.referenced p = false ↔ s.reelReferences p = 0 ∧ s.cueReferences p = 0 ∧ s.bufferReferences p = 0 := by
  simp only [State.referenced, decide_eq_false_iff_not, not_or, Nat.not_lt, Nat.le_zero]

end

/-! ### Changes of unused entries only (R34, R35, R99) -/

/-- The profiles and gauge table entries that differ are ones that nothing used. -/
structure State.SparesUsed (s t : State) : Prop where
  profiles : ∀ p : ProfileNo, t.profiles[p] ≠ s.profiles[p] → s.referenced p = false
  gauges : ∀ g : GaugeCode, t.intake.gauges[g] ≠ s.intake.gauges[g] → s.gaugeInUse g = false

/-- An update of one entry that is not in use changes no entry in use. -/
theorem modEntry_changes_unused {α : Type} {n : Nat} {v : Vector α n} {used : Fin n → Bool} {i : Fin n} (hi : used i = false)
    {f : α → α} {j : Fin n} (hj : (modEntry v i f)[j] ≠ v[j]) : used j = false := by
  by_cases e : i = j
  · exact e ▸ hi
  · exact absurd (modEntry_of_ne v e f) hj

section

variable {s t u : State}

theorem State.SparesUsed.refl (s : State) : s.SparesUsed s := ⟨fun _ h => absurd rfl h, fun _ h => absurd rfl h⟩

/-- What keeps the settings afterwards changes no entry. -/
theorem State.SparesUsed.stands (h : s.SparesUsed t) (h' : t.Stands u) : s.SparesUsed u := by
  have settings : u.settings = t.settings := State.settings_of_standing h'.standing
  have profiles : u.profiles = t.profiles := congrArg Settings.profiles settings
  have gauges : u.intake.gauges = t.intake.gauges := congrArg Settings.gauges settings
  exact ⟨fun p hp => h.profiles p (profiles ▸ hp), fun g hg => h.gauges g (gauges ▸ hg)⟩

/-- The order leaving its queue is no use of a profile or gauge. -/
theorem State.SparesUsed.of_popOrder {p : Port} (h : (s.popOrder p).SparesUsed t) : s.SparesUsed t := ⟨h.profiles, h.gauges⟩

theorem State.SparesUsed.takeOrder {mine : Order → Bool} {apply : State → Order → OrderEffect}
    (ha : ∀ (s : State) (o : Order), s.SparesUsed (apply s o).1) (h : s.takeOrder mine apply = .next t) : s.SparesUsed t := by
  obtain rfl | ⟨p, o, rfl | rfl⟩ := State.takeOrder_cases h
  · exact refl t
  · exact ((refl (s.popOrder p)).stands (.replied p o ((s.popOrder p).refuse .badOrder))).of_popOrder
  · exact ((ha (s.popOrder p) o).stands (.replied p o _)).of_popOrder

theorem State.SparesUsed.withArgs {α : Type} {a : Args α} {k : α → OrderEffect} (hk : ∀ x, s.SparesUsed (k x).1) :
    s.SparesUsed (s.withArgs a k).1 := by
  unfold State.withArgs
  split <;> [exact refl s; exact refl s; exact hk _]

theorem State.SparesUsed.modProfile {p : ProfileNo} (hp : s.referenced p = false) (f : Profile → Profile) :
    s.SparesUsed (s.modProfile p f) where
  profiles _ := modEntry_changes_unused hp
  gauges _ hg := absurd rfl hg

theorem State.SparesUsed.putGauge {g : GaugeCode} (hg : s.gaugeInUse g = false) (e : Gauge) : s.SparesUsed (s.putGauge g e) where
  profiles _ hp := absurd rfl hp
  gauges _ := modEntry_changes_unused hg

end

/-! ### The three orders (R35, R101, R102) -/

section

variable {s : State}

theorem State.loadOrder_referenced {q : ProfileNo} (h : s.referenced q = true) (c : Fin 3) (first count : Nat)
    (values : List Channel) : s.loadOrder (⟨q, c, first, count⟩, values) = (s, .inUse, s.referenceWords q) := if_pos h

theorem State.loadOrder_unreferenced {q : ProfileNo} (h : s.referenced q = false) (c : Fin 3) (first count : Nat)
    (values : List Channel) : s.loadOrder (⟨q, c, first, count⟩, values) =
      (s.modProfile q fun x => x.modChannel c fun y => { y with curve := loadCurve y.curve first values }, .done,
        [natWord q.val, natWord c.val, natWord first, natWord count]) := if_neg (by simp [h])

theorem State.levelsOrder_referenced {q : ProfileNo} (h : s.referenced q = true) (l : Levels) :
    s.levelsOrder (q, l) = (s, .inUse, s.referenceWords q) := if_pos h

theorem State.levelsOrder_unreferenced {q : ProfileNo} (h : s.referenced q = false) (l : Levels) :
    s.levelsOrder (q, l) = (s.modProfile q fun x => x.setLevels l, .done, levelWords (s.profiles[q].setLevels l)) :=
  if_neg (by simp [h])

variable (s : State) (o : Order)

theorem State.SparesUsed.applyLoadProfileCurve : s.SparesUsed (applyLoadProfileCurve s o).1 := by
  refine withArgs fun ⟨⟨q, c, first, count⟩, values⟩ => ?_
  cases h : s.referenced q with
  | true => rw [State.loadOrder_referenced h]; exact refl s
  | false => rw [State.loadOrder_unreferenced h]; exact modProfile h _

theorem State.SparesUsed.applySetProfileLevels : s.SparesUsed (applySetProfileLevels s o).1 := by
  refine withArgs fun ⟨q, l⟩ => ?_
  cases h : s.referenced q with
  | true => rw [State.levelsOrder_referenced h]; exact refl s
  | false => rw [State.levelsOrder_unreferenced h]; exact modProfile h _

theorem State.SparesUsed.gaugeOrder (code : Option GaugeCode) (entry : Option Gauge) :
    s.SparesUsed (s.gaugeOrder code entry).1 :=
  match code, entry with
  | none, _ => refl s
  | some _, none => refl s
  | some g, some e => by
    cases h : s.gaugeInUse g with
    | true => rw [State.gaugeOrder_used h]; exact refl s
    | false => rw [State.gaugeOrder_unused h]; exact putGauge h e

theorem State.SparesUsed.applySetGauge : s.SparesUsed (applySetGauge s o).1 := by
  unfold Machine.applySetGauge
  split <;> [exact gaugeOrder s _ _; exact refl s]

end

/-! ### Every command -/

/-- Only its own orders change a profile or a gauge table entry, and they test its use first. -/
theorem State.SparesUsed.of_exec {c : Instr} {s t : State} (hc : c ≠ .powerOn) (h : exec c s = .next t) : s.SparesUsed t := by
  have own := (State.Follows.of_exec hc h).settings
  constructor
  case profiles =>
    intro p hp
    have changed : t.profiles ≠ s.profiles := fun e => hp (by rw [e])
    obtain rfl | rfl := own.profiles changed
    · exact (takeOrder applyLoadProfileCurve h).profiles p hp
    · exact (takeOrder applySetProfileLevels h).profiles p hp
  case gauges =>
    intro g hg
    have changed : t.intake.gauges ≠ s.intake.gauges := fun e => hg (by rw [e])
    obtain rfl := own.gauges changed
    exact (takeOrder applySetGauge h).gauges g hg

/-- Settles O9: no command changes an entry in use, and the reference and use tests count what the statement lists. -/
theorem profilesAndGaugesChangeOnlyUnused : Obligations.ProfilesAndGaugesChangeOnlyUnused := by
  intro c s t hc h
  have spares := State.SparesUsed.of_exec hc h
  refine ⟨fun p hp => ?profile, fun g hg r hr hrg => ?gauge⟩
  case profile =>
    obtain ⟨reels, cues, buffers⟩ := State.referenced_eq_false_iff.1 (spares.profiles p hp)
    exact ⟨State.reelReferences_eq_zero_iff.1 reels, State.cueReferences_eq_zero_iff.1 cues,
      State.bufferReferences_eq_zero_iff.1 buffers⟩
  case gauge =>
    have used : s.gaugeInUse g = true := State.gaugeInUse_iff.2 ⟨r, hr, hrg⟩
    exact Bool.false_ne_true ((spares.gauges g hg).symm.trans used)

/-! ### The words of the profile orders (R101, R102) -/

theorem argChannel_word (v : Channel) : argChannel (natWord v.toNat) = some v := by
  rw [argChannel, argRange_natWord (Nat.zero_le _) (by omega) (by omega), Option.map_some, BitVec.ofNat_toNat, BitVec.setWidth_eq]

theorem argDepth_word (d : Depth) : argDepth (natWord d.bits) = some d := by cases d <;> rfl

theorem argFlag_flagWord (b : Bool) : argFlag (flagWord b) = some b := by cases b <;> rfl

theorem loadArgs_words (q : ProfileNo) (c : Fin 3) {first : Nat} {values : List Channel} (hl : 1 ≤ values.length)
    (hh : values.length ≤ 32) (hf : first + values.length ≤ 257) :
    loadArgs (natWord q.val :: natWord c.val :: natWord first :: natWord values.length ::
      values.map fun v => natWord v.toNat) = .ok (⟨q, c, first, values.length⟩, values) := by
  have count : (natWord values.length).toNat = values.length := natWord_toNat (by omega)
  rw [loadArgs, if_neg (by rw [List.length_map, count]; omega), argCurve_words q c hl hh hf,
    mapM_words fun v _ => argChannel_word v]
  rfl

theorem levelArgs_words (q : ProfileNo) (kr kg kb gr gg gb : Channel) (depth : Depth) (dither : Bool) :
    levelArgs (natWord q.val :: ([kr, kg, kb, gr, gg, gb].map (fun v => natWord v.toNat) ++
      [natWord depth.bits, flagWord dither])) = .ok (q, ⟨#v[kr, kg, kb], #v[gr, gg, gb], depth, dither⟩) := by
  simp only [List.map_cons, List.map_nil, List.cons_append, List.nil_append]
  rw [levelArgs, argFin_natWord (by decide)]
  simp only [argChannel_word, argDepth_word, argFlag_flagWord]
  rfl

/-! ### The profile orders (R101, R102) -/

/-- A point of a curve after the points from `first` on have become the values of a list. -/
theorem loadCurve_get (curve : Vector Channel 257) (first : Nat) (values : List Channel) (i : Fin 257) :
    (loadCurve curve first values)[i] =
      if first ≤ i.val ∧ i.val < first + values.length then values.getD (i.val - first) 0 else curve[i] := by
  have point : (loadCurve curve first values)[i] = if first ≤ i.val then values.getD (i.val - first) curve[i] else curve[i] :=
    mapEntries_get _ curve i.val i.isLt
  rw [point]
  by_cases reached : first ≤ i.val
  · by_cases within : i.val - first < values.length
    · rw [if_pos reached, if_pos (by omega), List.getD_eq_getElem _ _ within, List.getD_eq_getElem _ _ within]
    · rw [if_pos reached, if_neg (by omega), List.getD_eq_default _ _ (Nat.not_lt.1 within)]
  · rw [if_neg reached, if_neg (by omega)]

theorem Profile.setLevels_eq (x : Profile) (kr kg kb gr gg gb : Channel) (depth : Depth) (dither : Bool) :
    x.setLevels ⟨#v[kr, kg, kb], #v[gr, gg, gb], depth, dither⟩ =
      { channels := #v[⟨kr, gr, x.channels[0].curve⟩, ⟨kg, gg, x.channels[1].curve⟩, ⟨kb, gb, x.channels[2].curve⟩]
        depth := depth
        dither := dither } := rfl

/-- Settles O22: the words read back as the fields, and the reference test decides. -/
theorem profileOrdersReplaceUnreferencedFields : Obligations.ProfileOrdersReplaceUnreferencedFields := by
  refine ⟨fun s p o q c first values hl hh hf h => ?load, fun s p o q kr kg kb gr gg gb depth dither h => ?levels⟩
  case load =>
    have taken : exec .loadProfileCurve s =
        .next (replied p o ((s.popOrder p).loadOrder (⟨q, c, first, values.length⟩, values))) :=
      h.withArgs (by decide) (by decide) (loadArgs_words q c hl hh hf) fun s _ => s.loadOrder
    refine ⟨fun free => ?unreferenced, fun used => ?referenced⟩
    case unreferenced =>
      refine ⟨loadCurve s.profiles[q].channels[c].curve first values, ?_, loadCurve_get _ first values⟩
      rw [taken, State.loadOrder_unreferenced (s := s.popOrder p) free]
      rfl
    case referenced =>
      rw [taken, State.loadOrder_referenced (s := s.popOrder p) used]
      rfl
  case levels =>
    have taken : exec .setProfileLevels s = .next (replied p o
        ((s.popOrder p).levelsOrder (q, ⟨#v[kr, kg, kb], #v[gr, gg, gb], depth, dither⟩))) :=
      h.withArgs (by decide) (by decide) (levelArgs_words q kr kg kb gr gg gb depth dither) fun s _ => s.levelsOrder
    refine ⟨fun free => ?unreferenced, fun used => ?referenced⟩
    case unreferenced =>
      rw [taken, State.levelsOrder_unreferenced (s := s.popOrder p) free]
      dsimp only
      simp only [Profile.setLevels_eq]
      rfl
    case referenced =>
      rw [taken, State.levelsOrder_referenced (s := s.popOrder p) used]
      rfl

end Sys2Proof.Machine
end

section
/-! PROOFS. The current grade and the cue list of a reel: their orders, and the cues an opening consumes (O23, O38). -/

namespace Sys2Proof.Machine

/-! ### A cue set in its list (R107) -/

/-- A cue set in an ascending list joins the cues of the other frames. -/
theorem mem_placeCue_iff {c d : Cue} {l : List Cue} (h : l.Pairwise fun a b => a.frame < b.frame) :
    d ∈ placeCue c l ↔ d = c ∨ d ∈ l ∧ d.frame ≠ c.frame := by
  induction l with
  | nil => simp [placeCue]
  | cons a l ih =>
    obtain ⟨ahead, sorted⟩ := List.pairwise_cons.1 h
    have ih := ih sorted
    unfold placeCue
    split
    case isTrue same =>
      have others : ∀ x ∈ l, x.frame ≠ c.frame := fun x hx => by have := ahead x hx; omega
      grind
    case isFalse differs =>
      split
      case isTrue before =>
        have others : ∀ x ∈ l, x.frame ≠ c.frame := fun x hx => by have := ahead x hx; omega
        grind
      case isFalse => grind

theorem Reel.isLate_iff {x : Reel} {f : Nat} : x.isLate f = true ↔ ∃ n, x.lastOpened = some n ∧ f ≤ n := by
  unfold Reel.isLate
  split
  case h_1 n hn => simp [hn]
  case h_2 hn => simp [hn]

/-! ### The words of the grade and cue orders (R105, R107, R108) -/

theorem reelGradeArgs_words (r : Slot) {g : Grade} (hg : g.InRange) :
    reelGradeArgs [natWord r.val, natWord g.profile.val, intWord g.trimR, intWord g.trimG, intWord g.trimB] = .ok (r, g) := by
  rw [reelGradeArgs, argFin_natWord (by decide), argGrade_words hg]
  rfl

theorem cueArgs_words (r : Slot) {c : Cue} (hf : c.frame ≤ 16777215) (hg : c.grade.InRange) :
    cueArgs [natWord r.val, natWord c.frame, natWord c.grade.profile.val, intWord c.grade.trimR, intWord c.grade.trimG,
      intWord c.grade.trimB] = .ok (r, c) := by
  rw [cueArgs, argFin_natWord (by decide), argRange_natWord (Nat.zero_le _) hf (by omega), argGrade_words hg]
  rfl

theorem clearArgs_word (r : Slot) : clearArgs [natWord r.val] = .ok r := by
  rw [clearArgs, argFin_natWord (by decide)]
  rfl

/-! ### What each order does on a slot (R105, R107, R108) -/

section

variable {s : State} {r : Slot}

theorem State.gradeOrder_bound (hb : s.reels[r].state ∈ [.mounted, .running, .held]) (g : Grade) :
    s.gradeOrder (r, g) = (s.modReel r fun x => { x with grade := g }, .done, gradeWords g) := by
  unfold State.gradeOrder
  split
  case h_1 | h_2 | h_3 => rfl
  all_goals simp_all

theorem State.gradeOrder_unbound (hb : s.reels[r].state ∈ [.free, .draining, .closed]) (g : Grade) :
    s.gradeOrder (r, g) = (s, .wrongState, []) := by
  unfold State.gradeOrder
  split
  case h_4 | h_5 | h_6 => rfl
  all_goals simp_all

theorem State.cueOrder_bound (hb : s.reels[r].state ∈ [.mounted, .running, .held]) (c : Cue) :
    s.cueOrder (r, c) = s.placeCueOn r c := by
  unfold State.cueOrder
  split
  case h_1 | h_2 | h_3 => rfl
  all_goals simp_all

theorem State.cueOrder_unbound (hb : s.reels[r].state ∈ [.free, .draining, .closed]) (c : Cue) :
    s.cueOrder (r, c) = (s, .wrongState, []) := by
  unfold State.cueOrder
  split
  case h_4 | h_5 | h_6 => rfl
  all_goals simp_all

theorem State.clearOrder_bound (hb : s.reels[r].state ∈ [.mounted, .running, .held]) :
    s.clearOrder r = (s.modReel r fun x => { x with cues := [] }, .done, [natWord s.reels[r].cues.length]) := by
  unfold State.clearOrder
  split
  case h_1 | h_2 | h_3 => rfl
  all_goals simp_all

theorem State.clearOrder_unbound (hb : s.reels[r].state ∈ [.free, .draining, .closed]) :
    s.clearOrder r = (s, .wrongState, []) := by
  unfold State.clearOrder
  split
  case h_4 | h_5 | h_6 => rfl
  all_goals simp_all

theorem State.placeCueOn_late {c : Cue} (hl : s.reels[r].isLate c.frame = true) :
    s.placeCueOn r c = (s, .late, []) := if_pos hl

theorem State.placeCueOn_full {c : Cue} (hl : s.reels[r].isLate c.frame = false) (hh : hasCue s.reels[r].cues c.frame = false)
    (hf : Config.maxCues ≤ s.reels[r].cues.length) : s.placeCueOn r c = (s, .full, []) := by
  unfold State.placeCueOn
  rw [if_neg (Bool.eq_false_iff.1 hl), if_pos ⟨hh, hf⟩]
  rfl

theorem State.placeCueOn_room {c : Cue} (hl : s.reels[r].isLate c.frame = false)
    (hr : hasCue s.reels[r].cues c.frame = true ∨ s.reels[r].cues.length < Config.maxCues) :
    s.placeCueOn r c = (s.modReel r fun y => { y with cues := placeCue c y.cues }, .done,
      [natWord (placeCue c s.reels[r].cues).length, flagWord (hasCue s.reels[r].cues c.frame)]) := by
  have room : ¬ (hasCue s.reels[r].cues c.frame = false ∧ Config.maxCues ≤ s.reels[r].cues.length) := by
    rintro ⟨absent, full⟩
    rcases hr with held | few
    · exact Bool.false_ne_true (absent.symm.trans held)
    · exact Nat.not_lt.2 full few
  unfold State.placeCueOn
  rw [if_neg (Bool.eq_false_iff.1 hl), if_neg room]

end

/-- Settles O23: the state of the slot decides, then the tests of R107; a cue set keeps the list ascending. -/
theorem gradeAndCueOrdersKeepTheListInOrder : Obligations.GradeAndCueOrdersKeepTheListInOrder := by
  refine ⟨fun s p o r g hg h => ?grade, fun s p o r c hf hg h hcues => ?cue, fun s p o r h => ?clear⟩
  case grade =>
    have taken : exec .setReelGrade s = .next (replied p o ((s.popOrder p).gradeOrder (r, g))) :=
      h.withArgs (by decide) (by decide) (reelGradeArgs_words r hg) fun s _ => s.gradeOrder
    refine ⟨fun hb => ?bound, fun hb => ?unbound⟩
    case bound =>
      rw [taken, State.gradeOrder_bound (s := s.popOrder p) hb]
      rfl
    case unbound => rw [taken, State.gradeOrder_unbound (s := s.popOrder p) hb]
  case cue =>
    intro x held
    have taken : exec .setCue s = .next (replied p o ((s.popOrder p).cueOrder (r, c))) :=
      h.withArgs (by decide) (by decide) (cueArgs_words r hf hg) fun s _ => s.cueOrder
    have onTime (ht : ∀ n, x.lastOpened = some n → n < c.frame) : x.isLate c.frame = false :=
      Bool.eq_false_iff.2 fun hl => by
        obtain ⟨n, hn, hle⟩ := Reel.isLate_iff.1 hl
        exact Nat.not_lt.2 hle (ht n hn)
    refine ⟨fun hb ht hr => ?placed, fun hb ht ha hfull => ?full, fun n hb hn hle => ?late, fun hb => ?unbound⟩
    case placed =>
      refine ⟨placeCue c x.cues, ?_, placeCue_ascending hcues.ascending, fun d => mem_placeCue_iff hcues.ascending⟩
      rw [taken, State.cueOrder_bound (s := s.popOrder p) hb, State.placeCueOn_room (s := s.popOrder p) (onTime ht) hr]
      rfl
    case full =>
      rw [taken, State.cueOrder_bound (s := s.popOrder p) hb,
        State.placeCueOn_full (s := s.popOrder p) (onTime ht) ha hfull.ge]
    case late =>
      rw [taken, State.cueOrder_bound (s := s.popOrder p) hb,
        State.placeCueOn_late (s := s.popOrder p) (Reel.isLate_iff.2 ⟨n, hn, hle⟩)]
    case unbound => rw [taken, State.cueOrder_unbound (s := s.popOrder p) hb]
  case clear =>
    have taken : exec .clearCues s = .next (replied p o ((s.popOrder p).clearOrder r)) :=
      h.withArgs (by decide) (by decide) (clearArgs_word r) fun s _ => s.clearOrder
    refine ⟨fun hb => ?bound, fun hb => ?unbound⟩
    case bound =>
      rw [taken, State.clearOrder_bound (s := s.popOrder p) hb]
      rfl
    case unbound => rw [taken, State.clearOrder_unbound (s := s.popOrder p) hb]

/-! ### The cues an opening consumes (R109) -/

section

variable {l : List Cue} {f : Nat}

/-- When the first cue of an ascending list is not reached, none is. -/
theorem forall_unreached {a : Cue} (h : (a :: l).Pairwise fun a b => a.frame < b.frame) (ha : ¬ a.frame ≤ f) :
    ∀ x ∈ a :: l, f < x.frame :=
  List.forall_mem_cons.2 ⟨Nat.lt_of_not_le ha, fun x hx => (Nat.lt_of_not_le ha).trans ((List.pairwise_cons.1 h).1 x hx)⟩

/-- In an ascending list the cues reached stand first. -/
theorem takeWhile_reached (h : l.Pairwise fun a b => a.frame < b.frame) (f : Nat) :
    l.takeWhile (fun c => decide (c.frame ≤ f)) = l.filter fun c => decide (c.frame ≤ f) := by
  induction l with
  | nil => rfl
  | cons a l ih =>
    by_cases ha : a.frame ≤ f
    · rw [List.takeWhile_cons_of_pos (by simpa using ha), List.filter_cons_of_pos (by simpa using ha), ih h.of_cons]
    · rw [List.takeWhile_cons_of_neg (by simpa using ha), List.filter_eq_nil_iff.2]
      simpa using forall_unreached h ha

/-- In an ascending list the cues not reached stand last. -/
theorem dropWhile_reached (h : l.Pairwise fun a b => a.frame < b.frame) (f : Nat) :
    l.dropWhile (fun c => decide (c.frame ≤ f)) = l.filter fun c => decide (f < c.frame) := by
  induction l with
  | nil => rfl
  | cons a l ih =>
    by_cases ha : a.frame ≤ f
    · rw [List.dropWhile_cons_of_pos (by simpa using ha), List.filter_cons_of_neg (by simpa using ha), ih h.of_cons]
    · rw [List.dropWhile_cons_of_neg (by simpa using ha), List.filter_eq_self.2]
      simpa using forall_unreached h ha

/-- The cue of the highest frame number is the last of an ascending list. -/
theorem getLast?_of_highest (h : l.Pairwise fun a b => a.frame < b.frame) {c : Cue} (hc : c ∈ l)
    (hm : ∀ d ∈ l, d.frame ≤ c.frame) : l.getLast? = some c := by
  obtain rfl | ⟨init, last, rfl⟩ := l.eq_nil_or_concat'
  · simp at hc
  · obtain ⟨-, -, before⟩ := List.pairwise_append.1 h
    rw [List.getLast?_concat]
    rcases List.mem_append.1 hc with earlier | hlast
    · have below := before c earlier last (List.mem_singleton_self _)
      have above := hm last (by simp)
      omega
    · rw [List.mem_singleton.1 hlast]

end

section

variable {x : Reel} {f : Nat}

theorem Reel.opened_grade_of_last {c : Cue} (h : (x.cues.takeWhile fun c => decide (c.frame ≤ f)).getLast? = some c) :
    (x.opened f).grade = c.grade := by
  unfold Reel.opened Reel.consumeCues
  dsimp only
  rw [h]

theorem Reel.opened_grade_of_none (h : x.cues.takeWhile (fun c => decide (c.frame ≤ f)) = []) :
    (x.opened f).grade = x.grade := by
  unfold Reel.opened Reel.consumeCues
  dsimp only
  rw [h]
  rfl

end

/-- Settles O38: the list is ascending, so the cues reached are its first ones. -/
theorem openingConsumesTheCuesReached : Obligations.OpeningConsumesTheCuesReached := by
  intro x f sorted
  have reached := takeWhile_reached sorted f
  refine ⟨dropWhile_reached sorted f, fun c hc hcf highest => ?taken, fun ahead => ?kept, rfl, rfl, rfl⟩
  case taken =>
    refine Reel.opened_grade_of_last (reached ▸ getLast?_of_highest (sorted.sublist List.filter_sublist) ?_ fun d hd => ?_)
    · exact List.mem_filter.2 ⟨hc, by simpa using hcf⟩
    · obtain ⟨hd, hdf⟩ := List.mem_filter.1 hd
      exact highest d hd (by simpa using hdf)
  case kept =>
    exact Reel.opened_grade_of_none (reached.trans (List.filter_eq_nil_iff.2 fun c hc => by simpa using ahead c hc))

end Sys2Proof.Machine
end

section
/-! PROOFS. The grading transform: the black, gain and curve stages, the depth and dither stages over a tile, and the output lines
(R114 to R123) (O49, O50, O51). -/

namespace Sys2Proof.Machine

/-! ### The black and gain stages (R117, R118) -/

theorem effectiveBlack_toInt (black : Channel) (trim : Int) :
    (effectiveBlack black trim : Int) = max 0 (min 65535 ((black.toNat : Int) + 64 * trim)) := by
  unfold effectiveBlack
  omega

theorem blackStage_toInt (x black : Channel) (trim : Int) :
    (blackStage x black trim : Int) = max 0 ((x.toNat : Int) - effectiveBlack black trim) := by
  unfold blackStage
  omega

theorem blackStage_le (x black : Channel) (trim : Int) : blackStage x black trim ≤ 65535 := by
  have := x.isLt
  unfold blackStage
  omega

/-- A gain of 4096 is a gain of one. -/
theorem gainStage_unit {a : Nat} (ha : a ≤ 65535) : gainStage a 4096 = a := by
  have one : (4096 : Channel).toNat = 4096 := rfl
  rw [gainStage, one]
  omega

theorem gainStage_zero (a : Nat) : gainStage a 0 = 0 := by
  simp [gainStage]

/-! ### The curve stage (R119) -/

theorem curvePoint_eq {curve : Vector Channel 257} {i : Nat} (hi : i < 257) : curvePoint curve i = (curve[i]).toNat := by
  simp [curvePoint, hi]

/-- A step within a segment, rounded, goes no further than the whole difference, in its direction. -/
theorem fdiv_segment_between (d : Int) {f : Nat} (hf : f < 256) :
    min 0 d ≤ (d * f + 128).fdiv 256 ∧ (d * f + 128).fdiv 256 ≤ max 0 d := by
  have last : (f : Int) ≤ 255 := by omega
  have nonneg : (0 : Int) ≤ f := Int.natCast_nonneg f
  rw [Int.fdiv_eq_ediv_of_nonneg _ (by decide)]
  obtain hd | hd := le_total 0 d
  · have low := mul_nonneg hd nonneg
    have high := mul_le_mul_of_nonneg_left last hd
    omega
  · have low := mul_le_mul_of_nonpos_left last hd
    have high := mul_nonpos_of_nonpos_of_nonneg hd nonneg
    omega

/-- A curve-stage value is the rounded-down formula, and lies within the two points of its segment. -/
theorem curveStage_within (g : Nat) (curve : Vector Channel 257) :
    (curveStage g curve : Int) = curvePoint curve (g / 256) +
      (((curvePoint curve (g / 256 + 1) : Int) - curvePoint curve (g / 256)) * (g % 256 : Nat) + 128).fdiv 256 ∧
    min (curvePoint curve (g / 256)) (curvePoint curve (g / 256 + 1)) ≤ curveStage g curve ∧
    curveStage g curve ≤ max (curvePoint curve (g / 256)) (curvePoint curve (g / 256 + 1)) := by
  obtain ⟨low, high⟩ := fdiv_segment_between ((curvePoint curve (g / 256 + 1) : Int) - curvePoint curve (g / 256))
    (Nat.mod_lt g (by decide : 256 > 0))
  unfold curveStage
  dsimp only
  omega

/-- At the start of a segment the curve stage gives the curve point itself. -/
theorem curveStage_at_point {g : Nat} (hg : g % 256 = 0) (curve : Vector Channel 257) :
    curveStage g curve = curvePoint curve (g / 256) := by
  simp [curveStage, hg]

/-- Settles O49, stage by stage; a curve indexed within its points is `curvePoint`. -/
theorem blackGainAndCurveStages : Obligations.BlackGainAndCurveStages := by
  refine ⟨fun x black trim _ => ?black, fun a gain ha => ?gain, fun g curve hg => ?curve⟩
  case black => exact ⟨effectiveBlack_toInt black trim, blackStage_toInt x black trim, blackStage_le x black trim⟩
  case gain =>
    refine ⟨rfl, ?_, ?_⟩
    · rintro rfl
      exact gainStage_unit ha
    · rintro rfl
      exact gainStage_zero a
  case curve =>
    dsimp only
    rw [← curvePoint_eq (curve := curve) (i := g / 256) (by omega), ← curvePoint_eq (curve := curve) (i := g / 256 + 1) (by omega)]
    obtain ⟨value, low, high⟩ := curveStage_within g curve
    exact ⟨value, low, high, fun start => curveStage_at_point start curve⟩

/-! ### The depth stage (R120) -/

/-- The threshold of the dither stage (R122). -/
def ditherThreshold (y : Nat) (depth : Depth) : Nat := droppedPart y depth * 2 ^ (6 - depth.dropped)

theorem keptPart_le_topCode {y : Nat} (hy : y ≤ 65535) (depth : Depth) : keptPart y depth ≤ depth.topCode := by
  cases depth <;> simp only [keptPart, Depth.dropped, Depth.topCode, Depth.bits] <;> omega

/-- A threshold does not exceed the number of ranks in a tile. -/
theorem ditherThreshold_le (y : Nat) {depth : Depth} (h : depth ≠ .d16) : ditherThreshold y depth ≤ 64 := by
  cases depth with
  | d10 | d12 => simp only [ditherThreshold, droppedPart, Depth.dropped, Depth.bits]; omega
  | d16 => exact absurd rfl h

/-! ### The dither stage (R122, R123) -/

section

variable {y : Nat} {depth : Depth} {dither : Bool}

theorem ditherStage_eq (rank : Nat) : ditherStage y depth dither rank =
    if dither = true ∧ depth ≠ .d16 ∧ rank < ditherThreshold y depth ∧ keptPart y depth < depth.topCode then
      keptPart y depth + 1
    else keptPart y depth := rfl

theorem ditherStage_undithered (h : dither = false ∨ depth = .d16) (rank : Nat) :
    ditherStage y depth dither rank = keptPart y depth :=
  if_neg fun ⟨on, notDeepest, _⟩ => h.elim (fun off => Bool.noConfusion (on.symm.trans off)) notDeepest

theorem ditherStage_at_topCode (h : keptPart y depth = depth.topCode) (rank : Nat) :
    ditherStage y depth dither rank = keptPart y depth :=
  if_neg fun ⟨_, _, _, below⟩ => below.ne h

theorem ditherStage_dithered (on : dither = true) (hd : depth ≠ .d16) (below : keptPart y depth < depth.topCode) (rank : Nat) :
    ditherStage y depth dither rank = if rank < ditherThreshold y depth then keptPart y depth + 1 else keptPart y depth := by
  rw [ditherStage_eq]
  exact if_congr ⟨fun ⟨_, _, low, _⟩ => low, fun low => ⟨on, hd, low, below⟩⟩ rfl rfl

/-- The dither stage adds one to a kept part below the top code only, so it stays within the depth's codes (R123). -/
theorem ditherStage_le_topCode (hy : y ≤ 65535) (rank : Nat) : ditherStage y depth dither rank ≤ depth.topCode := by
  have kept := keptPart_le_topCode hy depth
  rw [ditherStage_eq]
  split
  case isTrue raised =>
    obtain ⟨-, -, -, below⟩ := raised
    exact below
  case isFalse => exact kept

end

/-! ### The ranks of a tile (R121) -/

theorem tileRank_periodic (k0 j0 k j : Nat) : tileRank (8 * k0 + k) (8 * j0 + j) = tileRank k j := by
  simp [tileRank]

/-- The ranks of a tile, row by row. -/
def tileRanks : List Nat := (List.range 8).flatMap fun k => (List.range 8).map fun j => tileRank k j

/-- Each rank from 0 to 63 stands at exactly one position of a tile. -/
theorem tileRanks_perm : tileRanks.Perm (List.range 64) := by decide

/-- What is counted over the positions of any tile is counted over the ranks 0 to 63. -/
theorem countP_tile (p : Nat → Bool) (f : Nat → Nat) (k0 j0 : Nat) :
    (((List.range 8).flatMap fun k => (List.range 8).map fun j => f (tileRank (8 * k0 + k) (8 * j0 + j))).countP p) =
      (List.range 64).countP (p ∘ f) := by
  have ranks : ((List.range 8).flatMap fun k => (List.range 8).map fun j => f (tileRank (8 * k0 + k) (8 * j0 + j))) =
      tileRanks.map f := by
    simp only [tileRank_periodic, tileRanks, List.map_flatMap, List.map_map, Function.comp_def]
  rw [ranks, List.countP_map, tileRanks_perm.countP_eq]

theorem countP_range_lt (t n : Nat) : (List.range n).countP (fun r => decide (r < t)) = min t n := by
  induction n with
  | zero => simp
  | succ n ih =>
    rw [List.range_succ, List.countP_append, ih]
    by_cases h : n < t
    · rw [List.countP_singleton, if_pos (decide_eq_true h)]
      omega
    · rw [List.countP_singleton, if_neg (by simpa using h)]
      omega

/-- Settles O50: the ranks of a tile are the numbers 0 to 63, so as many of them as the threshold lie below it. -/
theorem ditherRaisesAsManyAsTheThreshold : Obligations.DitherRaisesAsManyAsTheThreshold := by
  intro y depth dither hy
  refine ⟨ditherStage_le_topCode hy, fun rank h => ditherStage_undithered h rank,
    fun rank on hd below => ditherStage_dithered on hd below rank, fun rank top => ditherStage_at_topCode top rank,
    fun on hd below k0 j0 => ?count⟩
  have raised : ((fun v => decide (v = keptPart y depth + 1)) ∘ ditherStage y depth dither) =
      fun rank => decide (rank < ditherThreshold y depth) := by
    funext rank
    simp [ditherStage_dithered on hd below]
  calc _ = (List.range 64).countP ((fun v => decide (v = keptPart y depth + 1)) ∘ ditherStage y depth dither) :=
        countP_tile _ _ k0 j0
    _ = min (ditherThreshold y depth) 64 := by rw [raised, countP_range_lt]
    _ = ditherThreshold y depth := min_eq_left (ditherThreshold_le y hd)

/-! ### The output lines (R114 to R116) -/

section

variable {b : Buffer} {m : Memory} {p : Profile} {k : Nat}

/-- An output line whose source line lies within the frame is that line, graded. -/
theorem outputLine_of_source {l : Nat} (hl : (l : Int) = k + b.offset) (inFrame : l < b.lines) :
    outputLine b m p k = (List.range b.width).map fun j => gradeSample (m.read (sampleAddress l j)) p b.grade k j := by
  rw [outputLine, ← hl]
  exact if_pos ⟨Int.natCast_nonneg l, Int.ofNat_lt.2 inFrame⟩

/-- An output line whose source line lies outside the frame is a pad line. -/
theorem outputLine_pad (outside : (k : Int) + b.offset < 0 ∨ (b.lines : Int) ≤ k + b.offset) :
    outputLine b m p k = List.replicate b.width ⟨0, 0, 0⟩ :=
  if_neg (by omega)

theorem outputLine_length : (outputLine b m p k).length = b.width := by
  unfold outputLine
  dsimp only
  split
  case isTrue => rw [List.length_map, List.length_range]
  case isFalse => exact List.length_replicate

end

/-- Settles O51: a sample's stages are the model's own, and a source line lies within the frame or outside it. -/
theorem outputLinesAreShiftedByTheOffset : Obligations.OutputLinesAreShiftedByTheOffset := by
  refine ⟨fun x p g k j => rfl, fun b m p k => ⟨outputLine_length, fun j hj => ⟨fun l hl inFrame => ?source, fun outside => ?pad⟩⟩⟩
  case source => simp [outputLine_of_source hl inFrame]
  case pad => simp [outputLine_pad outside]

end Sys2Proof.Machine
end

section
/-! PROOFS. Delivery to the store: the cells that reach port S, the arbiter's search and the start of a send, the lines of a send,
the link of port S, and the acknowledgements (R130, R131, R133 to R138, R176 to R178) (O35, O52 to O54). -/

namespace Sys2Proof.Machine

/-- An entry changed is that entry set to its new value. -/
theorem modEntry_eq_set {α : Type} {n : Nat} {v : Vector α n} {i : Fin n} {f : α → α} {x : α} (h : f v[i] = x) :
    modEntry v i f = v.set i x := by
  rw [modEntry, h]

section

variable {s : State} {c : RxCell} {l : Lane} {b : Buf} {k : Nat}

/-! ### Cells that reach port S (R130, R138, R176) -/

theorem exec_storeAck_up (hu : s.links.ports[portS].link = .up) : exec (.storeAck c) s = .next (s.onStoreAck c).handOver :=
  State.arrival_up hu _

theorem exec_credit_up (hu : s.links.ports[portS].link = .up) : exec (.credit c) s = .next (s.onCredit c).handOver :=
  State.arrival_up hu _

theorem State.onStoreAck_passed (hc : passesCheckOnS kindStoreAck c = true) : s.onStoreAck c = s.takeStoreAck c.payload :=
  if_pos hc

theorem State.onStoreAck_failed (hc : passesCheckOnS kindStoreAck c = false) : s.onStoreAck c = s.storeCheckFailure :=
  if_neg (by simp [hc])

theorem State.onCredit_passed (hc : passesCheckOnS kindCredit c = true) (hl : l.val = fieldAt c.payload 0 1) :
    s.onCredit c = s.addCredit l (fieldAt c.payload 1 1) := by
  have lane : Fin.ofNat 4 (fieldAt c.payload 0 1) = l := by rw [← hl, Fin.ofNat_val_eq_self]
  rw [State.onCredit, if_pos hc, lane]

theorem State.onCredit_failed (hc : passesCheckOnS kindCredit c = false) : s.onCredit c = s.storeCheckFailure :=
  if_neg (by simp [hc])

/-! ### The arbiter's search (R131) -/

theorem lanesAfter_eq (l : Lane) : lanesAfter l = (List.range 4).map fun i => l + 1 + Fin.ofNat 4 i := by
  revert l
  decide

/-- The lane that passes a test with none before it in the round robin is the one found. -/
theorem find_lanesAfter {p : Lane → Bool} {last : Lane} (hk : k < 4) (hp : p (last + 1 + Fin.ofNat 4 k) = true)
    (hl : ∀ i < k, p (last + 1 + Fin.ofNat 4 i) = false) :
    (lanesAfter last).find? p = some (last + 1 + Fin.ofNat 4 k) := by
  have found : (List.range 4).find? (p ∘ fun i => last + 1 + Fin.ofNat 4 i) = some k :=
    List.find?_range_eq_some.2 ⟨hp, List.mem_range.2 hk, fun i hi => by simpa only [Function.comp, Bool.not_eq_true'] using hl i hi⟩
  rw [lanesAfter_eq, List.find?_map, found, Option.map_some]

theorem DeliveryUnit.eligible_iff {d : DeliveryUnit} : d.eligible l = true ↔ d.queues[l] ≠ [] ∧ 1 ≤ d.credits[l] := by
  simp [DeliveryUnit.eligible]

theorem State.arbiterSearch_starts {rest : List Buf} (hi : s.delivery.transmitter = .idle)
    (hu : s.links.ports[portS].link = .up) (hr : s.resetLow = false)
    (hf : (lanesAfter s.delivery.lastServed).find? s.delivery.eligible = some l) (hq : s.delivery.queues[l] = b :: rest) :
    s.arbiterSearch = s.startSend l b := by
  rw [State.arbiterSearch, if_pos ⟨hi, State.isUp_iff.2 hu, hr⟩]
  simp only [hf, hq]

theorem State.arbiterSearch_barred (h : ¬ (s.delivery.transmitter = .idle ∧ s.links.ports[portS].link = .up ∧ s.resetLow = false)) :
    s.arbiterSearch = s :=
  if_neg (by rwa [State.isUp_iff])

theorem State.arbiterSearch_noLane (h : ∀ l, s.delivery.eligible l = false) : s.arbiterSearch = s := by
  have none_ : (lanesAfter s.delivery.lastServed).find? s.delivery.eligible = none :=
    List.find?_eq_none.2 fun l _ => by simp [h l]
  unfold State.arbiterSearch
  rw [none_]
  exact ite_self s

end

/-- Settles O52: the first eligible lane in the round robin is the one the search finds, and a CREDIT grows one lane's credit
before the search. -/
theorem arbiterStartsTheNextEligibleLane : Obligations.ArbiterStartsTheNextEligibleLane := by
  refine ⟨fun s k l b rest => ?starts, fun s h => ?stays, fun s c hu => ⟨fun hc l hl => ?credited, fun hc => ?failed⟩⟩
  case starts =>
    intro eligible hi hu hr hk hl he hn hq
    have found : (lanesAfter s.delivery.lastServed).find? s.delivery.eligible = some l := by
      subst hl
      exact find_lanesAfter hk (DeliveryUnit.eligible_iff.2 he) fun i hik =>
        Bool.eq_false_iff.2 fun ht => hn i hik (DeliveryUnit.eligible_iff.1 ht)
    have left : modEntry s.delivery.queues l (fun q => q.drop 1) = s.delivery.queues.set l rest :=
      modEntry_eq_set (by rw [hq]; rfl)
    rw [State.arbiterSearch_starts hi hu hr found hq, State.startSend, left]
    rfl
  case stays =>
    rcases h with busy | down | low | noLane
    · exact State.arbiterSearch_barred fun h => busy h.1
    · exact State.arbiterSearch_barred fun h => nomatch down.symm.trans h.2.1
    · exact State.arbiterSearch_barred fun h => nomatch low.symm.trans h.2.2
    · refine State.arbiterSearch_noLane fun l => Bool.eq_false_iff.2 fun ht => ?_
      obtain ⟨queued, credit⟩ := DeliveryUnit.eligible_iff.1 ht
      exact (noLane l).elim queued (Nat.one_le_iff_ne_zero.1 credit)
  case credited =>
    rw [exec_credit_up hu, State.onCredit_passed hc hl]
    rfl
  case failed =>
    rw [exec_credit_up hu, State.onCredit_failed hc]
    rfl

/-! ### The lines of a send and its completion (R134, R135, R177) -/

section

variable {s : State} {b : Buf} {k : Nat} (ht : s.delivery.transmitter = .sending b k)
include ht

theorem exec_outLine_due (hk : k < s.pool.buffers[b].lines) (hu : s.links.ports[portS].link = .up) (hr : s.resetLow = false)
    (hm : s.links.ports[portS].transmit = [] ∨ s.links.boundaryUsed = true) :
    exec .outLine s = .next (s.sendLine b k).handOver := by
  have due : k < s.pool.buffers[b].lines ∧ s.maySend portS = true ∧
      (s.links.ports[portS].transmit.isEmpty || s.links.boundaryUsed) = true :=
    ⟨hk, by rw [State.maySend, State.isUp_iff.2 hu, hr]; rfl, by simpa using hm⟩
  change execOutLine s = _
  rw [execOutLine, ht]
  exact if_pos due

theorem exec_outLine_notDue (h : s.pool.buffers[b].lines ≤ k ∨
    s.links.ports[portS].transmit ≠ [] ∧ s.links.boundaryUsed = false) : exec .outLine s = .next s := by
  change execOutLine s = _
  rw [execOutLine, ht]
  refine if_neg fun ⟨hk, _, hm⟩ => ?_
  rcases h with sent | ⟨waiting, unused⟩
  · exact Nat.not_lt.2 sent hk
  · rcases Bool.or_eq_true_iff.1 hm with empty | used
    · exact waiting (List.isEmpty_iff.1 empty)
    · cases unused.symm.trans used

theorem exec_sendCompletion_due (hk : s.pool.buffers[b].lines ≤ k) :
    exec .sendCompletion s = .next (s.completeSend b).handOver := by
  change execSendCompletion s = _
  rw [execSendCompletion, ht]
  exact if_pos hk

theorem exec_sendCompletion_notDue (hk : k < s.pool.buffers[b].lines) : exec .sendCompletion s = .next s := by
  change execSendCompletion s = _
  rw [execSendCompletion, ht]
  exact if_neg (Nat.not_le.2 hk)

end

/-- Settles O53: the place of the next line among the frame's lines decides which of the two events is due. -/
theorem theFrameIsSentLineByLine : Obligations.TheFrameIsSentLineByLine := by
  intro s b k ht x
  refine ⟨fun hk hu hr hm => ?line, fun waiting unused => exec_outLine_notDue ht (.inr ⟨waiting, unused⟩),
    fun hk => ⟨exec_outLine_notDue ht (.inl hk), ?completed⟩, fun hk => exec_sendCompletion_notDue ht hk⟩
  case line =>
    rw [exec_outLine_due ht hk hu hr hm]
    rfl
  case completed =>
    rw [exec_sendCompletion_due ht hk]
    rfl

/-! ### The link of port S (R136, R137, R174, R178) -/

section

variable {s : State} {b : Buf} {k : Nat} {l : Lane}

theorem exec_storeLinkLoss_up (hu : s.links.ports[portS].link = .up) :
    exec .storeLinkLoss s = .next s.loseStoreLink.handOver :=
  if_pos (State.isUp_iff.2 hu)

theorem exec_storeLinkUp_down (hd : s.links.ports[portS].link = .down) : exec .storeLinkUp s =
    .next (((s.modPort portS fun q => { q with link := .up, seqOut := 0 }).raise .storePortUp 0 none 0).handOver) :=
  if_neg (by rw [State.isUp_iff, hd]; decide)

theorem State.cutSend_idle (ht : s.delivery.transmitter = .idle) : s.cutSend = s := by
  rw [State.cutSend, ht]

theorem State.cutSend_sending (ht : s.delivery.transmitter = .sending b k) (hl : s.pool.buffers[b].lane = some l) :
    s.cutSend = { s.modBuffer b (fun x => { x with state := .queued }) with
      delivery := { s.delivery with
        queues := modEntry s.delivery.queues l fun q => b :: q
        transmitter := .idle, cutSends := s.delivery.cutSends + 1 } } := by
  have lane : (s.modBuffer b fun x => { x with state := .queued }).pool.buffers[b].lane = some l := by
    rw [modBuffer_get, if_pos rfl]
    exact hl
  simp only [State.cutSend, ht, lane]
  rfl

/-- The loss of port S's link by what its cut leaves, with the changes of the port made at once. -/
theorem State.loseStoreLink_of_cut {x : Pool} {d : DeliveryUnit}
    (hcut : (s.setLink portS .down).cutSend = { s.setLink portS .down with pool := x, delivery := d }) :
    s.loseStoreLink = ((({ s with pool := x, delivery := { d with credits := Vector.replicate 4 0 } } : State).modPort portS
      fun q => PortState.emptied { q with link := .down }).raise .storePortDown 0 none 0).returnNotice portS := by
  rw [State.loseStoreLink, hcut, ← modPort_modPort _ portS (fun q => { q with link := .down }) PortState.emptied]
  rfl

end

/-- Settles O35: the loss of the link cuts the send that the transmitter holds, if any, and empties the port. -/
theorem storeLinkLossCutsTheSend : Obligations.StoreLinkLossCutsTheSend := by
  intro s lost
  refine ⟨fun hu ht => ?idle, fun b k l hu ht hl => ?cut, fun hd => ?up⟩
  case idle =>
    rw [exec_storeLinkLoss_up hu, State.loseStoreLink_of_cut (State.cutSend_idle (s := s.setLink portS .down) ht)]
    rfl
  case cut =>
    rw [exec_storeLinkLoss_up hu, State.loseStoreLink_of_cut (State.cutSend_sending (s := s.setLink portS .down) ht hl)]
    rfl
  case up =>
    rw [exec_storeLinkUp_down hd]
    rfl

/-! ### Acknowledgements (R138) -/

section

variable {s : State} {record frame : Nat} {b : Buf} {p : List Byte}

/-- Whether a STORE-ACK that names a record and a frame is for a buffer (R138). -/
abbrev Buffer.Awaits (x : Buffer) (record frame : Nat) : Prop :=
  x.state = .awaitAck ∧ x.record.val = record ∧ x.frame = frame

theorem State.ackMatch_eq_some (hb : s.pool.buffers[b].Awaits record frame)
    (hl : ∀ k < b, ¬ s.pool.buffers[k].Awaits record frame) : s.ackMatch record frame = some b :=
  firstEntry_eq_some (decide_eq_true hb) fun k hk => decide_eq_false (hl k hk)

theorem State.ackMatch_eq_none (hn : ∀ k : Buf, ¬ s.pool.buffers[k].Awaits record frame) : s.ackMatch record frame = none := by
  by_contra hs
  obtain ⟨b, hb⟩ := Option.ne_none_iff_exists'.1 hs
  exact hn b (of_decide_eq_true (firstEntry_some hb).1)

theorem State.takeStoreAck_matched (hb : s.ackMatch (fieldAt p 1 2) (fieldAt p 3 3) = some b) :
    s.takeStoreAck p = (s.countReel s.pool.buffers[b].slot fun c =>
      { c with framesAcknowledged := c.framesAcknowledged + 1 }).resolve b .acknowledged := by
  rw [State.takeStoreAck, hb]

theorem State.takeStoreAck_stale (hn : s.ackMatch (fieldAt p 1 2) (fieldAt p 3 3) = none) :
    s.takeStoreAck p = { s with delivery := { s.delivery with staleAcks := s.delivery.staleAcks + 1 } } := by
  rw [State.takeStoreAck, hn]

end

/-- Settles O54: the search of the buffers finds the matching frame or none. -/
theorem storeAckResolvesTheMatchingFrame : Obligations.StoreAckResolvesTheMatchingFrame := by
  intro s c hu wanted
  refine ⟨fun b hc hb hl => ?matched, fun hc hn => ?stale, fun hc => ?failed⟩
  case matched =>
    rw [exec_storeAck_up hu, State.onStoreAck_passed hc, State.takeStoreAck_matched (State.ackMatch_eq_some hb hl)]
    rfl
  case stale =>
    rw [exec_storeAck_up hu, State.onStoreAck_passed hc, State.takeStoreAck_stale (State.ackMatch_eq_none hn)]
  case failed =>
    rw [exec_storeAck_up hu, State.onStoreAck_failed hc]
    rfl

end Sys2Proof.Machine
end

section
/-! PROOFS. The ties between records, positions and tickets under the shelf map's operations (R146, R159, R164 to R168). -/

namespace Sys2Proof.Machine

/-! ### The ties in two parts -/

/-- Records and positions name each other (R146), and a position is owned exactly while it is held for a record (R159). -/
structure Homed (rs : Vector Record 512) (ps : Vector Position 1024) : Prop where
  paired : ∀ (i : RecordNo) (q : PositionNo), rs[i].position = some q ↔ ps[q].owner = some i
  taken : ∀ q : PositionNo, ps[q].owner.isSome = ps[q].state.taken

/-- The ticket queue and the records in PENDING_SHELF are for one another (R164). -/
structure Queued (ts : List Ticket) (rs : Vector Record 512) : Prop where
  few : ts.length ≤ Config.maxTickets
  numbers : ts.Pairwise fun a b => a.number ≠ b.number
  records : ts.Pairwise fun a b => a.record ≠ b.record
  pending : ∀ t ∈ ts, rs[t.record].state = .pendingShelf
  ticketed : ∀ i : RecordNo, rs[i].state = .pendingShelf → ∃ t ∈ ts, t.record = i

/-- A ticket names its record's position, or waits for space and names none (R164, R167). -/
structure Ticket.Placed (t : Ticket) (x : Record) : Prop where
  issued : t.state.named = true → t.position.isSome = true ∧ t.position = x.position
  waiting : t.state.named = false → t.position = none

/-- The ties of the shelf map. The ticket of the number `loose`, if one is given, is between positions (R172). -/
structure State.Stocked (loose : Option (BitVec 16)) (s : State) : Prop where
  homed : Homed s.catalogue s.shelf.positions
  empty : ∀ i : RecordNo, s.catalogue[i].state = .empty → s.catalogue[i].position = none
  queued : Queued s.shelf.tickets s.catalogue
  placed : ∀ t ∈ s.shelf.tickets, loose ≠ some t.number → t.Placed s.catalogue[t.record]

/-- The ties of the reel slots (R5, R15, R22, R151). -/
structure State.Slotted (s : State) : Prop where
  onHead : ∀ r : Slot, s.reels[r].state ≠ .free → s.catalogue[s.reels[r].record].state = .onHead
  slots : ∀ r r' : Slot, s.reels[r].state ≠ .free → s.reels[r'].state ≠ .free → s.reels[r].record = s.reels[r'].record → r = r'
  waitClosed : ∀ r ∈ s.shelf.waitList, s.reels[r].state = .closed
  waitOnce : s.shelf.waitList.Nodup
  deferredBound : ∀ r : Slot, s.reels[r].deferred ≠ [] → s.reels[r].state.bound = true

theorem State.tied_iff {s : State} : s.Tied ↔ s.Stocked none ∧ s.Slotted := by
  constructor
  · intro h
    refine ⟨⟨⟨fun i q => ⟨h.owned i q, h.named i q⟩, h.taken⟩, h.empty, ?_, ?_⟩, ?_⟩
    · exact ⟨h.few, h.numbers, h.records, h.pending, h.ticketed⟩
    · exact fun t ht _ => ⟨h.issued t ht, h.waiting t ht⟩
    · exact ⟨h.onHead, h.slots, h.waitClosed, h.waitOnce, h.deferredBound⟩
  · rintro ⟨⟨homed, empty, queued, placed⟩, slotted⟩
    exact
      { slotted with
        owned := fun i q => (homed.paired i q).1
        named := fun i q => (homed.paired i q).2
        taken := homed.taken
        empty := empty
        few := queued.few
        numbers := queued.numbers
        records := queued.records
        pending := queued.pending
        ticketed := queued.ticketed
        issued := fun t ht => (placed t ht (by simp)).issued
        waiting := fun t ht => (placed t ht (by simp)).waiting }

theorem State.Tied.stocked {s : State} (h : s.Tied) : s.Stocked none := (State.tied_iff.1 h).1

theorem State.Tied.slotted {s : State} (h : s.Tied) : s.Slotted := (State.tied_iff.1 h).2

/-! ### Records and positions (R146, R159) -/

section

variable {rs rs' : Vector Record 512} {ps ps' : Vector Position 1024}

/-- A position that is not held for a record has no owner. -/
theorem Homed.owner_none (h : Homed rs ps) {q : PositionNo} (hq : ps[q].state.taken = false) : ps[q].owner = none := by
  have := h.taken q
  rw [hq] at this
  exact Option.not_isSome_iff_eq_none.1 (Bool.eq_false_iff.1 this)

/-- Record `i` moves to the position `new`, or to none: it leaves the position it named, and no other owner changes. -/
theorem Homed.move (h : Homed rs ps) {i : RecordNo} {new : Option PositionNo}
    (hnew : ∀ q, new = some q → ps[q].owner = none ∨ ps[q].owner = some i)
    (hi : rs'[i].position = new) (hrs : ∀ j : RecordNo, i ≠ j → rs'[j].position = rs[j].position)
    (howner : ∀ q : PositionNo, ps'[q].owner =
      if new = some q then some i else if rs[i].position = some q then none else ps[q].owner)
    (htaken : ∀ q : PositionNo, ps'[q].owner.isSome = ps'[q].state.taken) : Homed rs' ps' where
  taken := htaken
  paired j q := by
    have hp := h.paired j q
    have hpi := h.paired i q
    rw [howner]
    by_cases hj : i = j
    · subst hj
      rw [hi]
      split
      · simp_all
      · split <;> simp_all
    · rw [hrs j hj, hp]
      split
      · rename_i hq
        obtain ho | ho := hnew q hq
        · rw [ho]
          simp [hj]
        · rw [ho]
      · split
        · rename_i hq
          rw [hpi.1 hq]
          simp [hj]
        · rfl

/-- Changes that leave every record's position and every owner alone. -/
theorem Homed.congr (h : Homed rs ps) (hrs : ∀ j : RecordNo, rs'[j].position = rs[j].position)
    (howner : ∀ q : PositionNo, ps'[q].owner = ps[q].owner)
    (htaken : ∀ q : PositionNo, ps'[q].state.taken = ps[q].state.taken) : Homed rs' ps' where
  paired j q := by rw [hrs, howner, h.paired]
  taken q := by rw [howner, htaken, h.taken]

end

/-! ### The ticket queue (R164) -/

section

variable {ts : List Ticket} {rs rs' : Vector Record 512}

theorem Queued.eq_of_number (h : Queued ts rs) {t x : Ticket} (ht : t ∈ ts) (hx : x ∈ ts) (hn : x.number = t.number) : x = t :=
  List.inj_on_of_nodup_map (List.pairwise_map.2 h.numbers) hx ht hn

theorem Queued.eq_of_record (h : Queued ts rs) {t x : Ticket} (ht : t ∈ ts) (hx : x ∈ ts) (hr : x.record = t.record) : x = t :=
  List.inj_on_of_nodup_map (List.pairwise_map.2 h.records) hx ht hr

/-- A change of tickets that keeps their numbers and records. -/
theorem Queued.map (h : Queued ts rs) {f : Ticket → Ticket} (hn : ∀ t, (f t).number = t.number)
    (hr : ∀ t, (f t).record = t.record) : Queued (ts.map f) rs where
  few := by simpa using h.few
  numbers := by simpa [List.pairwise_map, hn] using h.numbers
  records := by simpa [List.pairwise_map, hr] using h.records
  pending := by simpa [hr] using h.pending
  ticketed i hi := by simpa [hr] using h.ticketed i hi

/-- A change of records that leaves PENDING_SHELF to the same ones. -/
theorem Queued.congr (h : Queued ts rs)
    (hs : ∀ i : RecordNo, rs'[i].state = .pendingShelf ↔ rs[i].state = .pendingShelf) : Queued ts rs' :=
  { h with
    pending := fun t ht => (hs _).2 (h.pending t ht)
    ticketed := fun i hi => h.ticketed i ((hs i).1 hi) }

/-- The search for a number stops at a used one only when every number it passed is used. -/
theorem unusedNumber_mem {used : List (BitVec 16)} {k : Nat} {n : BitVec 16} (h : unusedNumber used k n ∈ used) :
    ∀ j ≤ k, n + BitVec.ofNat 16 j ∈ used := by
  induction k generalizing n with
  | zero => simpa [unusedNumber] using h
  | succ k ih =>
    by_cases hn : n ∈ used
    · rw [unusedNumber, if_pos hn] at h
      intro j hj
      cases j with
      | zero => simpa using hn
      | succ j =>
        have hstep : n + BitVec.ofNat 16 (j + 1) = n + 1 + BitVec.ofNat 16 j := by
          rw [Nat.add_comm j 1, ← BitVec.ofNat_add_ofNat, BitVec.add_assoc]
          rfl
        rw [hstep]
        exact ih h j (Nat.le_of_succ_le_succ hj)
    · rw [unusedNumber, if_neg hn] at h
      exact absurd h hn

/-- The search finds an unused number when it may pass every used one (R164). -/
theorem unusedNumber_not_mem {used : List (BitVec 16)} (h : used.length < 2 ^ 16) (n : BitVec 16) :
    unusedNumber used used.length n ∉ used := by
  intro hmem
  have distinct : ((List.range (used.length + 1)).map fun j => n + BitVec.ofNat 16 j).Nodup := by
    refine List.nodup_range.map_on fun a ha b hb hab => ?_
    rw [List.mem_range] at ha hb
    have := congrArg BitVec.toNat (add_left_cancel hab)
    simpa [Nat.mod_eq_of_lt (show a < 65536 by omega), Nat.mod_eq_of_lt (show b < 65536 by omega)] using this
  have among : ((List.range (used.length + 1)).map fun j => n + BitVec.ofNat 16 j) ⊆ used := by
    intro x hx
    obtain ⟨j, hj, rfl⟩ := List.mem_map.1 hx
    exact unusedNumber_mem hmem j (by simpa [Nat.lt_succ_iff] using hj)
  have := (distinct.subperm among).length_le
  simp at this

/-- The number a new ticket takes is no other ticket's (R164). -/
theorem Shelf.takeNumber_fresh {m : Shelf} (h : m.tickets.length ≤ Config.maxTickets) :
    ∀ t ∈ m.tickets, t.number ≠ m.takeNumber := by
  intro t ht hn
  have few : m.tickets.length ≤ 16 := h
  have unused := unusedNumber_not_mem (used := m.tickets.map Ticket.number) (by simp; omega) m.nextNumber
  rw [List.length_map] at unused
  exact unused (List.mem_map.2 ⟨t, ht, hn⟩)

end

/-! ### Issues, allocations and retry passes (R165 to R168) -/

section

variable (s : State) (t : Ticket) (q : PositionNo)

/-- The record's home freed when the position it is given is another one (R167). -/
def State.leaveHome : State :=
  match s.catalogue[t.record].position with
  | some h => if h = q then s else s.modPosition h Position.freed
  | none => s

theorem State.issueTicket_eq : s.issueTicket t q =
    ((((s.leaveHome t q).modPosition q fun x => { x with state := .reserved, owner := some t.record }).modRecord t.record
      fun r => { r with position := some q }).modTicket t.number fun x => { x with state := .issued, position := some q }).raise
        .ticketIssued 0 (some t.record) t.number.toNat := rfl

/-- Leaving a home changes no more than the positions of the shelf map. -/
theorem State.leaveHome_eq :
    ∃ ps, s.leaveHome t q = { s with shelf := { s.shelf with positions := ps } } ∧ ∀ k : PositionNo, ps[k] =
      if s.catalogue[t.record].position = some k ∧ k ≠ q then s.shelf.positions[k].freed else s.shelf.positions[k] := by
  unfold State.leaveHome
  cases s.catalogue[t.record].position with
  | none => exact ⟨_, rfl, fun k => (if_neg (by simp)).symm⟩
  | some h =>
    by_cases hq : h = q
    · refine ⟨s.shelf.positions, if_pos hq, fun k => (if_neg ?_).symm⟩
      rintro ⟨hk, hne⟩
      exact hne (Option.some.inj hk ▸ hq)
    · refine ⟨modEntry s.shelf.positions h Position.freed, if_neg hq, fun k => ?_⟩
      rw [modEntry_get]
      by_cases hk : h = k
      · subst hk
        simp [hq]
      · simp [hk]

theorem State.issueTicket_catalogue : (s.issueTicket t q).catalogue =
    modEntry s.catalogue t.record fun x => { x with position := some q } := by
  obtain ⟨ps, hps, -⟩ := s.leaveHome_eq t q
  rw [State.issueTicket_eq, hps]
  rfl

theorem State.issueTicket_tickets : (s.issueTicket t q).shelf.tickets =
    s.shelf.tickets.map fun x => if x.number = t.number then { x with state := .issued, position := some q } else x := by
  obtain ⟨ps, hps, -⟩ := s.leaveHome_eq t q
  rw [State.issueTicket_eq, hps]
  rfl

theorem State.issueTicket_waitList : (s.issueTicket t q).shelf.waitList = s.shelf.waitList := by
  obtain ⟨ps, hps, -⟩ := s.leaveHome_eq t q
  rw [State.issueTicket_eq, hps]
  rfl

/-- The positions after an issue (R167): the one given is RESERVED for the record, another home of the record is FREE. -/
theorem State.issueTicket_position (k : PositionNo) : (s.issueTicket t q).shelf.positions[k] =
    if q = k then { s.shelf.positions[k] with state := .reserved, owner := some t.record }
    else if s.catalogue[t.record].position = some k then s.shelf.positions[k].freed else s.shelf.positions[k] := by
  obtain ⟨ps, hps, hk⟩ := s.leaveHome_eq t q
  rw [State.issueTicket_eq, hps]
  refine (modEntry_get ps q k _).trans ?_
  rw [hk]
  by_cases hq : q = k
  · simp [hq]
  · simp [hq, Ne.symm hq]

end

section

variable {s : State} {loose : Option (BitVec 16)}

/-- The allocation finds a position without an owner, or the record's own (R166). -/
theorem State.allocateFor_owner (hs : Homed s.catalogue s.shelf.positions) {excl : Option (BitVec 16 × PositionNo)} {t : Ticket}
    {q : PositionNo} (hq : s.allocateFor excl t = some q) :
    s.shelf.positions[q].owner = none ∨ s.shelf.positions[q].owner = some t.record := by
  unfold State.allocateFor allocate at hq
  split at hq
  · rename_i h hh
    cases hq
    exact .inr ((hs.paired _ _).1 (Option.filter_eq_some_iff.1 hh).1)
  · obtain ⟨c, -, hc⟩ := List.exists_of_findSome?_eq_some hq
    have hfree := (firstEntry_some hc).1
    simp only [decide_eq_true_eq] at hfree
    exact .inl (hs.owner_none (by rw [hfree.2.1]; rfl))

/-- The issue of a ticket ties it to its record and the position (R167). -/
theorem State.Stocked.issueTicket (hs : s.Stocked loose) {t : Ticket} (ho : ∀ n, loose = some n → n = t.number)
    (ht : t ∈ s.shelf.tickets) {q : PositionNo}
    (hq : s.shelf.positions[q].owner = none ∨ s.shelf.positions[q].owner = some t.record) : (s.issueTicket t q).Stocked none := by
  have record : ∀ i : RecordNo, (s.issueTicket t q).catalogue[i] =
      if t.record = i then { s.catalogue[i] with position := some q } else s.catalogue[i] := by
    intro i
    rw [State.issueTicket_catalogue, modEntry_get]
  have state : ∀ i : RecordNo, (s.issueTicket t q).catalogue[i].state = s.catalogue[i].state := by
    intro i
    rw [record]
    split <;> rfl
  refine ⟨hs.homed.move (i := t.record) (new := some q) ?_ ?_ ?_ ?_ ?_, ?empty, ?queued, ?placed⟩
  · rintro _ ⟨⟩
    exact hq
  · rw [record, if_pos rfl]
  · intro j hj
    rw [record, if_neg hj]
  · intro k
    rw [State.issueTicket_position]
    simp only [Option.some.injEq]
    split <;> [rfl; (split <;> rfl)]
  · intro k
    rw [State.issueTicket_position]
    split <;> [rfl; (split <;> [rfl; exact hs.homed.taken k])]
  case empty =>
    intro i hi
    rw [state] at hi
    rw [record, if_neg fun h => ?_]
    · exact hs.empty i hi
    · rw [← h, hs.queued.pending t ht] at hi
      cases hi
  case queued =>
    rw [State.issueTicket_tickets]
    refine (hs.queued.congr fun i => by rw [state]).map ?_ ?_ <;> intro x <;> split <;> rfl
  case placed =>
    rw [State.issueTicket_tickets]
    intro y hy _
    obtain ⟨x, hx, rfl⟩ := List.mem_map.1 hy
    split
    · rename_i hn
      obtain rfl := hs.queued.eq_of_number ht hx hn
      dsimp only
      rw [record, if_pos rfl]
      exact ⟨fun _ => ⟨rfl, rfl⟩, fun h => Bool.noConfusion h⟩
    · rename_i hn
      rw [record, if_neg fun h => hn (by rw [hs.queued.eq_of_record ht hx h.symm])]
      exact hs.placed x hx fun h => hn (ho _ h)

/-- A ticket for which no position was found names none (R167). -/
theorem State.Stocked.leaveWaiting (hs : s.Stocked loose) {t : Ticket} (ho : ∀ n, loose = some n → n = t.number) :
    (s.leaveWaiting t).Stocked none where
  homed := hs.homed
  empty := hs.empty
  queued := by refine hs.queued.map ?_ ?_ <;> intro x <;> split <;> rfl
  placed y hy _ := by
    obtain ⟨x, hx, rfl⟩ := List.mem_map.1 hy
    split
    · exact ⟨fun h => Bool.noConfusion h, fun _ => rfl⟩
    · rename_i hn
      exact hs.placed x hx fun h => hn (ho _ h)

/-- The ticket a retry pass issues is in the queue, with a position its allocation found (R168). -/
theorem State.nextIssue_some {excl : Option (BitVec 16 × PositionNo)} {t : Ticket} {q : PositionNo}
    (h : s.nextIssue excl = some (t, q)) : t ∈ s.shelf.tickets ∧ s.allocateFor excl t = some q := by
  obtain ⟨x, hx, hf⟩ := List.exists_of_findSome?_eq_some h
  split at hf
  · obtain ⟨k, hk, he⟩ := Option.map_eq_some_iff.1 hf
    cases he
    exact ⟨hx, hk⟩
  · cases hf

theorem State.Stocked.retryPasses (excl : Option (BitVec 16 × PositionNo)) (n : Nat) {s : State} (hs : s.Stocked none) :
    (retryPasses excl n s).Stocked none := by
  induction n generalizing s with
  | zero => exact hs
  | succ n ih =>
    unfold Machine.retryPasses
    split
    · exact hs
    · rename_i t q hn
      obtain ⟨ht, hq⟩ := State.nextIssue_some hn
      exact ih (hs.issueTicket nofun ht (State.allocateFor_owner hs.homed hq))

theorem State.Stocked.retryPass (hs : s.Stocked none) (excl : Option (BitVec 16 × PositionNo)) : (s.retryPass excl).Stocked none :=
  hs.retryPasses excl _

theorem State.Stocked.allocateTicket (hs : s.Stocked loose) {t : Ticket} (ho : ∀ n, loose = some n → n = t.number)
    (ht : t ∈ s.shelf.tickets) (excl : Option (BitVec 16 × PositionNo)) : (s.allocateTicket excl t).Stocked none := by
  unfold State.allocateTicket
  split
  · exact hs.leaveWaiting ho
  · rename_i q hq
    have issued := hs.issueTicket ho ht (State.allocateFor_owner hs.homed hq)
    split <;> [exact issued.retryPass excl; exact issued]

end

/-! ### What issues and allocations leave alone -/

/-- The reels, the closed-reel wait list and the states of the records are the same. -/
structure State.Shelves (s t : State) : Prop where
  reels : t.reels = s.reels
  waitList : t.shelf.waitList = s.shelf.waitList
  states : ∀ i : RecordNo, t.catalogue[i].state = s.catalogue[i].state

theorem State.Shelves.refl (s : State) : s.Shelves s := ⟨rfl, rfl, fun _ => rfl⟩

theorem State.Shelves.trans {s t u : State} (h : s.Shelves t) (h' : t.Shelves u) : s.Shelves u :=
  ⟨h'.reels.trans h.reels, h'.waitList.trans h.waitList, fun i => (h'.states i).trans (h.states i)⟩

theorem State.Shelves.issueTicket (s : State) (t : Ticket) (q : PositionNo) : s.Shelves (s.issueTicket t q) where
  reels := (State.Aside.issueTicket s t q).reels
  waitList := s.issueTicket_waitList t q
  states i := by
    rw [State.issueTicket_catalogue, modEntry_get]
    split <;> rfl

theorem State.Shelves.retryPasses (excl : Option (BitVec 16 × PositionNo)) (n : Nat) (s : State) :
    s.Shelves (retryPasses excl n s) := by
  induction n generalizing s with
  | zero => exact .refl s
  | succ n ih =>
    unfold Machine.retryPasses
    split <;> [exact .refl s; exact (State.Shelves.issueTicket s _ _).trans (ih _)]

theorem State.Shelves.allocateTicket (s : State) (excl : Option (BitVec 16 × PositionNo)) (t : Ticket) :
    s.Shelves (s.allocateTicket excl t) := by
  unfold State.allocateTicket
  split
  · exact ⟨rfl, rfl, fun _ => rfl⟩
  · split
    · exact (State.Shelves.issueTicket s _ _).trans (.retryPasses _ _ _)
    · exact .issueTicket s _ _

/-! ### The reel slots (R5, R15, R22, R151) -/

/-- The fields of a reel that the ties speak of. -/
def Reel.tie (x : Reel) : ReelState × RecordNo × List Deferred := (x.state, x.record, x.deferred)

section

variable {s t : State}

theorem State.Slotted.congr (h : s.Slotted) (hr : ∀ r : Slot, t.reels[r].tie = s.reels[r].tie)
    (hc : ∀ i : RecordNo, s.catalogue[i].state = .onHead → t.catalogue[i].state = .onHead)
    (hw : t.shelf.waitList = s.shelf.waitList) : t.Slotted := by
  have state : ∀ r : Slot, t.reels[r].state = s.reels[r].state := fun r => congrArg Prod.fst (hr r)
  have record : ∀ r : Slot, t.reels[r].record = s.reels[r].record := fun r => congrArg (·.2.1) (hr r)
  have deferred : ∀ r : Slot, t.reels[r].deferred = s.reels[r].deferred := fun r => congrArg (·.2.2) (hr r)
  refine ⟨?_, ?_, ?_, hw ▸ h.waitOnce, ?_⟩ <;> simp only [state, record, deferred, hw]
  · exact fun r hx => hc _ (h.onHead r hx)
  · exact h.slots
  · exact h.waitClosed
  · exact h.deferredBound

theorem State.Slotted.shelves (h : s.Slotted) (h' : s.Shelves t) : t.Slotted :=
  h.congr (fun r => by rw [h'.reels]) (fun i hi => (h'.states i).trans hi) h'.waitList

theorem State.Tied.shelves (hs : s.Tied) (h : s.Shelves t) (ht : t.Stocked none) : t.Tied :=
  State.tied_iff.2 ⟨ht, hs.slotted.shelves h⟩

theorem State.Tied.retryPass (hs : s.Tied) (excl : Option (BitVec 16 × PositionNo)) : (s.retryPass excl).Tied :=
  hs.shelves (.retryPasses _ _ _) (hs.stocked.retryPass excl)

theorem State.Tied.of_same (hs : s.Tied) (hr : ∀ r : Slot, t.reels[r].tie = s.reels[r].tie) (hc : t.catalogue = s.catalogue)
    (hm : t.shelf = s.shelf) : t.Tied := by
  obtain ⟨homed, empty, queued, placed⟩ := hs.stocked
  refine State.tied_iff.2 ⟨⟨?_, ?_, ?_, ?_⟩, hs.slotted.congr hr (fun i hi => by rwa [hc]) (by rw [hm])⟩
  · rwa [hc, hm]
  · rwa [hc]
  · rwa [hc, hm]
  · rwa [hc, hm]

/-- A reel changed that keeps its record: a slot does not become FREE, one on the wait list stays CLOSED, and only a bound one
has deferred orders. -/
theorem State.Tied.modReel (hs : s.Tied) (r : Slot) {f : Reel → Reel} (hrecord : (f s.reels[r]).record = s.reels[r].record)
    (hfree : (f s.reels[r]).state ≠ .free → s.reels[r].state ≠ .free)
    (hwait : r ∈ s.shelf.waitList → (f s.reels[r]).state = .closed)
    (hdeferred : (f s.reels[r]).deferred ≠ [] → (f s.reels[r]).state.bound = true) : (s.modReel r f).Tied := by
  have record : ∀ k : Slot, (s.modReel r f).reels[k].record = s.reels[k].record := by
    intro k
    rw [State.modReel_get]
    split <;> [(rename_i hk; subst hk; exact hrecord); rfl]
  have free : ∀ k : Slot, (s.modReel r f).reels[k].state ≠ .free → s.reels[k].state ≠ .free := by
    intro k
    rw [State.modReel_get]
    split <;> [(rename_i hk; subst hk; exact hfree); exact id]
  refine { hs with
    onHead := fun k hk => ?_, slots := fun k k' hk hk' => ?_, waitClosed := fun k hk => ?_, deferredBound := fun k => ?_ }
  · exact (congrArg (fun i : RecordNo => s.catalogue[i].state) (record k)).trans (hs.onHead k (free k hk))
  · rw [record, record]
    exact hs.slots k k' (free k hk) (free k' hk')
  · rw [State.modReel_get]
    split
    · rename_i hk'
      subst hk'
      exact hwait hk
    · exact hs.waitClosed k hk
  · rw [State.modReel_get]
    split
    · rename_i hk
      subst hk
      exact hdeferred
    · exact hs.deferredBound k

theorem ReelState.ne_free_of_bound {x : ReelState} (h : x.bound = true) : x ≠ .free := by
  rintro rfl
  cases h

/-- A slot that is not CLOSED is not on the wait list (R22). -/
theorem State.Tied.not_waiting (hs : s.Tied) {r : Slot} (h : s.reels[r].state ≠ .closed) : r ∉ s.shelf.waitList :=
  fun hw => h (hs.waitClosed r hw)

/-- A slot that is not bound has no deferred orders (R15). -/
theorem State.Tied.deferred_nil (hs : s.Tied) {r : Slot} (h : s.reels[r].state.bound = false) : s.reels[r].deferred = [] := by
  by_contra hd
  exact nomatch h.symm.trans (hs.deferredBound r hd)

/-! ### The formation of a ticket and the close of a reel (R22, R165) -/

/-- The ticket of a CLOSED slot joins the queue with its record PENDING_SHELF, before its allocation (R165). -/
def State.joinQueue (s : State) (r : Slot) : State :=
  { s with shelf := { s.shelf with
      tickets := s.shelf.tickets ++ [s.newTicket r], nextNumber := (s.newTicket r).number + 1 } }.modRecord
    (s.newTicket r).record fun x => { x with state := .pendingShelf }

theorem State.formTicket_eq (s : State) (r : Slot) : s.formTicket r =
    ((s.joinQueue r).allocateTicket none (s.newTicket r)).modReel r fun x => { x with state := .free } := rfl

theorem State.joinQueue_get (s : State) (r : Slot) (i : RecordNo) : (s.joinQueue r).catalogue[i] =
    if s.reels[r].record = i then { s.catalogue[i] with state := .pendingShelf } else s.catalogue[i] := modEntry_get _ _ _ _

theorem State.joinQueue_tickets (s : State) (r : Slot) :
    (s.joinQueue r).shelf.tickets = s.shelf.tickets ++ [s.newTicket r] := rfl

theorem State.Stocked.joinQueue (hs : s.Stocked none) {r : Slot} (hr : s.catalogue[s.reels[r].record].state = .onHead)
    (room : s.shelf.tickets.length < Config.maxTickets) : (s.joinQueue r).Stocked none := by
  have position : ∀ i : RecordNo, (s.joinQueue r).catalogue[i].position = s.catalogue[i].position := by
    intro i
    rw [State.joinQueue_get]
    split <;> rfl
  have other : ∀ t ∈ s.shelf.tickets, s.reels[r].record ≠ t.record := by
    intro t ht h
    have pending := (congrArg (fun i : RecordNo => s.catalogue[i].state) h).trans (hs.queued.pending t ht)
    exact nomatch hr.symm.trans pending
  refine ⟨hs.homed.congr position (fun _ => rfl) fun _ => rfl, fun i hi => ?empty, ?queued, ?placed⟩
  case empty =>
    rw [position]
    rw [State.joinQueue_get] at hi
    split at hi <;> [cases hi; exact hs.empty i hi]
  case queued =>
    rw [State.joinQueue_tickets]
    refine ⟨by simpa using room, ?_, ?_, ?_, ?_⟩
    · exact List.pairwise_append.2 ⟨hs.queued.numbers, List.pairwise_singleton _ _, fun t ht x hx =>
        List.mem_singleton.1 hx ▸ Shelf.takeNumber_fresh hs.queued.few t ht⟩
    · exact List.pairwise_append.2 ⟨hs.queued.records, List.pairwise_singleton _ _, fun t ht x hx =>
        List.mem_singleton.1 hx ▸ (other t ht).symm⟩
    · intro t ht
      rw [State.joinQueue_get]
      split
      · rfl
      · rename_i hne
        obtain ht | ht := List.mem_append.1 ht
        · exact hs.queued.pending t ht
        · exact absurd (List.mem_singleton.1 ht ▸ rfl) hne
    · intro i hi
      rw [State.joinQueue_get] at hi
      split at hi
      · rename_i h
        exact ⟨_, List.mem_append_right _ (List.mem_singleton_self _), h⟩
      · obtain ⟨t, ht, h⟩ := hs.queued.ticketed i hi
        exact ⟨t, List.mem_append_left _ ht, h⟩
  case placed =>
    rw [State.joinQueue_tickets]
    intro t ht ho
    obtain ht | ht := List.mem_append.1 ht
    · rw [State.joinQueue_get, if_neg (other t ht)]
      exact hs.placed t ht ho
    · rw [List.mem_singleton.1 ht]
      exact ⟨fun h => Bool.noConfusion h, fun _ => rfl⟩

/-- A slot that is not on the wait list becomes FREE, and its record leaves ON_HEAD. -/
theorem State.Slotted.leave (hs : s.Slotted) {r : Slot} (hr : s.reels[r].state ≠ .free) (hw : r ∉ s.shelf.waitList)
    (hd : s.reels[r].deferred = []) (ht : t.reels = modEntry s.reels r fun x => { x with state := .free })
    (hc : ∀ i : RecordNo, s.reels[r].record ≠ i → t.catalogue[i].state = s.catalogue[i].state)
    (hm : t.shelf.waitList = s.shelf.waitList) : t.Slotted := by
  have reel : ∀ k : Slot, t.reels[k] = if r = k then { s.reels[k] with state := .free } else s.reels[k] := by
    intro k
    rw [ht, modEntry_get]
  have stays : ∀ k : Slot, t.reels[k].state ≠ .free → r ≠ k ∧ t.reels[k] = s.reels[k] := by
    intro k hk
    rw [reel] at hk ⊢
    split at hk <;> [exact absurd rfl hk; (rename_i hrk; exact ⟨hrk, if_neg hrk⟩)]
  refine ⟨fun k hk => ?_, fun k k' hk hk' => ?_, fun k hk => ?_, hm ▸ hs.waitOnce, fun k hk => ?_⟩
  · obtain ⟨hrk, same⟩ := stays k hk
    rw [same] at hk
    refine (congrArg (fun x : Reel => t.catalogue[x.record].state) same).trans ?_
    rw [hc _ fun h => hrk (hs.slots r k hr hk h)]
    exact hs.onHead k hk
  · obtain ⟨-, same⟩ := stays k hk
    obtain ⟨-, same'⟩ := stays k' hk'
    rw [same] at hk ⊢
    rw [same'] at hk' ⊢
    exact hs.slots k k' hk hk'
  · rw [hm] at hk
    rw [reel, if_neg (by rintro rfl; exact hw hk)]
    exact hs.waitClosed k hk
  · rw [reel] at hk ⊢
    split at hk
    · rename_i h
      subst h
      exact absurd hd hk
    · rename_i h
      rw [if_neg h]
      exact hs.deferredBound k hk

/-- The ticket of a CLOSED slot formed (R165). -/
theorem State.Tied.formTicket (hs : s.Tied) {r : Slot} (hr : s.reels[r].state = .closed) (hw : r ∉ s.shelf.waitList)
    (room : s.shelf.tickets.length < Config.maxTickets) : (s.formTicket r).Tied := by
  have used : s.reels[r].state ≠ .free := by rw [hr]; decide
  have joined := hs.stocked.joinQueue (hs.onHead r used) room
  have frame := State.Shelves.allocateTicket (s.joinQueue r) none (s.newTicket r)
  have stocked := joined.allocateTicket nofun (List.mem_append_right _ (List.mem_singleton_self (s.newTicket r))) none
  have deferred : s.reels[r].deferred = [] := hs.deferred_nil (by rw [hr]; rfl)
  have reels : (s.formTicket r).reels = modEntry s.reels r fun x => { x with state := .free } :=
    congrArg (modEntry · r fun x : Reel => { x with state := .free }) frame.reels
  refine State.tied_iff.2 ⟨⟨stocked.homed, stocked.empty, stocked.queued, stocked.placed⟩,
    hs.slotted.leave used hw deferred reels (fun i hi => ?_) frame.waitList⟩
  refine (frame.states i).trans ?_
  rw [State.joinQueue_get, if_neg hi]

/-- A record changed in fields other than its state and its position. -/
theorem State.Tied.modRecord (hs : s.Tied) (i : RecordNo) {f : Record → Record} (hstate : ∀ x, (f x).state = x.state)
    (hposition : ∀ x, (f x).position = x.position) : (s.modRecord i f).Tied := by
  have state : ∀ k : RecordNo, (modEntry s.catalogue i f)[k].state = s.catalogue[k].state := by
    intro k
    rw [modEntry_get]
    split <;> [exact hstate _; rfl]
  have position : ∀ k : RecordNo, (modEntry s.catalogue i f)[k].position = s.catalogue[k].position := by
    intro k
    rw [modEntry_get]
    split <;> [exact hposition _; rfl]
  constructor <;> simp only [State.modRecord, state, position]
  exacts [hs.owned, hs.named, hs.taken, hs.empty, hs.few, hs.numbers, hs.records, hs.pending, hs.ticketed, hs.issued, hs.waiting,
    hs.onHead, hs.slots, hs.waitClosed, hs.waitOnce, hs.deferredBound]

/-- The close of a DRAINING reel (R22). -/
theorem State.Tied.closeReel (hs : s.Tied) {r : Slot} (hr : s.reels[r].state = .draining) : (s.closeReel r).Tied := by
  have away : r ∉ s.shelf.waitList := hs.not_waiting (by rw [hr]; decide)
  have unbound : s.reels[r].deferred = [] := hs.deferred_nil (by rw [hr]; rfl)
  have closed : (s.modReel r fun x => { x with state := .closed }).Tied :=
    hs.modReel r rfl (fun _ => by rw [hr]; decide) (fun h => absurd h away) fun h => absurd unbound h
  have state : ((s.modReel r fun x => { x with state := .closed }).reels[r]).state = .closed := by
    rw [State.modReel_get_self]
  have recorded := State.Tied.modRecord
    (s := (s.modReel r fun x => { x with state := .closed }).raise .reelClosed r.val (some s.reels[r].record) s.reels[r].closeDetail)
    (closed.of_same (fun _ => rfl) rfl rfl) s.reels[r].record (f := closedRecord s.reels[r]) (fun _ => rfl) fun _ => rfl
  unfold State.closeReel
  dsimp only
  split
  · rename_i room
    exact recorded.formTicket state away room
  · refine { recorded with waitClosed := fun k hk => ?_, waitOnce := ?_ }
    · obtain hk | hk := List.mem_append.1 hk
      · exact recorded.waitClosed k hk
      · rw [List.mem_singleton.1 hk]
        exact state
    · exact List.nodup_append.2 ⟨hs.waitOnce, List.nodup_singleton r, fun k hk k' hk' h =>
        away (List.mem_singleton.1 hk' ▸ h ▸ hk)⟩

end

end Sys2Proof.Machine
end

section
/-! PROOFS. The ties under the work on frames: holds, releases, repairs, sends, and the gaps of the reels (R10 to R21). -/

namespace Sys2Proof.Machine

/-! ### Steps that keep the ties and the bindings -/

/-- The ties are kept, and so is the binding of every reel to its head (R4). -/
structure State.Steady (s t : State) : Prop where
  tied : s.Tied → t.Tied
  bound : ∀ r : Slot, s.reels[r].state.bound = true → t.reels[r].state.bound = true

theorem State.Steady.refl (s : State) : s.Steady s := ⟨id, fun _ => id⟩

theorem State.Steady.trans {s t u : State} (h : s.Steady t) (h' : t.Steady u) : s.Steady u :=
  ⟨fun hs => h'.tied (h.tied hs), fun r hr => h'.bound r (h.bound r hr)⟩

/-- A loop of one steady operation. -/
theorem State.Steady.foldl {α : Type} {op : State → α → State} (h : ∀ s a, State.Steady s (op s a)) (l : List α) (s : State) :
    s.Steady (l.foldl op s) := by
  induction l generalizing s with
  | nil => exact .refl s
  | cons a l ih => exact (h s a).trans (ih _)

section

variable {s t u : State}

/-- A step that leaves the reels, the catalogue and the shelf map as they are. -/
theorem State.Steady.same (h : s.Steady t) (hr : u.reels = t.reels) (hc : u.catalogue = t.catalogue) (hm : u.shelf = t.shelf) :
    s.Steady u :=
  h.trans ⟨fun ht => ht.of_same (fun r => by rw [hr]) hc hm, fun r hb => by rwa [hr]⟩

/-- A change of a reel that leaves the fields alone that the ties speak of. -/
theorem State.Steady.modReel (h : s.Steady t) (r : Slot) {f : Reel → Reel} (hf : (f t.reels[r]).tie = t.reels[r].tie) :
    s.Steady (t.modReel r f) := by
  have tie : ∀ k : Slot, (t.modReel r f).reels[k].tie = t.reels[k].tie := by
    intro k
    rw [State.modReel_get]
    split <;> [(rename_i hk; subst hk; exact hf); rfl]
  refine h.trans ⟨fun ht => ht.of_same tie rfl rfl, fun k hb => ?_⟩
  have state : (t.modReel r f).reels[k].state = t.reels[k].state := congrArg Prod.fst (tie k)
  rwa [state]

/-- A change of a bound reel that leaves it bound, to the same record. -/
theorem State.Steady.rebind (h : s.Steady t) {r : Slot} {f : Reel → Reel} (hb : t.reels[r].state.bound = true)
    (hf : (f t.reels[r]).state.bound = true) (hrecord : (f t.reels[r]).record = t.reels[r].record) : s.Steady (t.modReel r f) := by
  have away : t.Tied → r ∉ t.shelf.waitList := fun ht => ht.not_waiting fun hc => by rw [hc] at hb; cases hb
  refine h.trans ⟨fun ht => ht.modReel r hrecord (fun _ => ReelState.ne_free_of_bound hb) (fun hw => absurd hw (away ht))
    fun _ => hf, fun k hk => ?_⟩
  rw [State.modReel_get]
  split <;> [(rename_i hrk; subst hrk; exact hf); exact hk]

/-- Releases and requests unbind no reel: they close DRAINING ones only. -/
theorem State.Eases.bound (h : s.Eases t) {r : Slot} (hr : s.reels[r].state.bound = true) : t.reels[r].state.bound = true := by
  obtain hs | ⟨hs, -⟩ := h.state r
  · rwa [hs]
  · rw [hs] at hr
    cases hr

end

/-! ### Cells, notices and buffers -/

section

variable {s t : State} (h : s.Steady t)
include h

theorem State.Steady.countReel (r : Slot) (f : ReelCounters → ReelCounters) : s.Steady (t.countReel r f) := h.modReel r rfl

theorem State.Steady.modHead (k : Head) (f : HeadIntake → HeadIntake) : s.Steady (t.modHead k f) := h.same rfl rfl rfl

theorem State.Steady.modBuffer (b : Buf) (f : Buffer → Buffer) : s.Steady (t.modBuffer b f) := h.same rfl rfl rfl

theorem State.Steady.modMemory (b : Buf) (f : Memory → Memory) : s.Steady (t.modMemory b f) := h.same rfl rfl rfl

theorem State.Steady.modPort (p : Port) (f : PortState → PortState) : s.Steady (t.modPort p f) := h.same rfl rfl rfl

theorem State.Steady.raise (k : NoticeKind) (i : Nat) (c : Option RecordNo) (d : Nat) : s.Steady (t.raise k i c d) :=
  h.same rfl rfl rfl

theorem State.Steady.setPool (x : Pool) : s.Steady { t with pool := x } := h.same rfl rfl rfl

theorem State.Steady.setRepair (x : Repair) : s.Steady { t with repair := x } := h.same rfl rfl rfl

theorem State.Steady.setDelivery (x : DeliveryUnit) : s.Steady { t with delivery := x } := h.same rfl rfl rfl

theorem State.Steady.setLinks (x : LinkPorts) : s.Steady { t with links := x } := h.same rfl rfl rfl

theorem State.Steady.sendCell (p : Port) (k : Byte) (x : List Byte) : s.Steady (t.sendCell p k x) := h.same rfl rfl rfl

theorem State.Steady.formFlow (k : Head) (c : FlowCell) : s.Steady (t.formFlow k c) := by
  unfold State.formFlow
  split <;> exact h.modPort _ _

theorem State.Steady.formReply (p : Port) (g : BitVec 16) (c : Byte) (x : Status) (ws : List Word) :
    s.Steady (t.formReply p g c x ws) := by
  unfold State.formReply
  split <;> exact h.modPort _ _

theorem State.Steady.handOver : s.Steady t.handOver := by
  unfold State.handOver
  split
  · split <;> [exact h; exact h.same rfl rfl rfl]
  · exact h

theorem State.Steady.returnNotice (p : Port) : s.Steady (t.returnNotice p) := by
  unfold State.returnNotice
  split
  · exact h
  · split <;> [exact h.same rfl rfl rfl; exact h]

/-! ### The pool (R52 to R58) -/

theorem State.Steady.flowToHeads (c : FlowCell) (p : Head → Bool) : s.Steady (t.flowToHeads c p) :=
  h.trans (.foldl (fun u _ => (State.Steady.refl u).formFlow _ _) _ _)

theorem State.Steady.becomePaced : s.Steady t.becomePaced := ((h.setPool _).flowToHeads _ _).raise _ _ _ _

theorem State.Steady.becomeOpen : s.Steady t.becomeOpen := ((h.setPool _).flowToHeads _ _).raise _ _ _ _

theorem State.Steady.paceFall : s.Steady t.paceFall := by
  unfold State.paceFall
  split <;> [exact h.becomePaced; exact h]

theorem State.Steady.paceRise : s.Steady t.paceRise := by
  unfold State.paceRise
  split <;> [exact h.becomeOpen; exact h]

theorem State.Steady.tellPaced (k : Head) : s.Steady (t.tellPaced k) := by
  unfold State.tellPaced
  split <;> [exact h.formFlow _ _; exact h]

theorem State.Steady.forgetLatest (b : Buf) : s.Steady (t.forgetLatest b) := by
  unfold State.forgetLatest
  dsimp only
  split <;> [exact h.modReel _ rfl; exact h]

/-- The close of a reel is the one step of these that changes a record, a ticket or the state of a slot (R21, R22). -/
theorem State.Steady.closeIfEmpty (r : Slot) : s.Steady (t.closeIfEmpty r) := by
  refine h.trans ⟨fun ht => ?_, fun k => (State.Eases.closeIfEmpty t r).bound⟩
  unfold State.closeIfEmpty
  split
  · rename_i hc
    exact ht.closeReel hc.1
  · exact ht

theorem State.Steady.release (b : Buf) : s.Steady (t.release b) :=
  (((h.modBuffer b _).forgetLatest b).closeIfEmpty _).paceRise

theorem State.Steady.releaseTest (b : Buf) : s.Steady (t.releaseTest b) := by
  unfold State.releaseTest
  split
  · exact h
  · split <;> [exact h.modBuffer b _; exact h.release b]

theorem State.Steady.clearSuccessor (b : Buf) : s.Steady (t.clearSuccessor b) := by
  unfold State.clearSuccessor
  split <;> [exact (h.modBuffer b _).releaseTest b; exact h]

theorem State.Steady.clearLatestHold (r : Slot) : s.Steady (t.clearLatestHold r) := by
  unfold State.clearLatestHold
  split <;> [exact h.clearSuccessor _; exact h]

theorem State.Steady.releaseNeighbour (b : Buf) : s.Steady (t.releaseNeighbour b) := by
  unfold State.releaseNeighbour
  dsimp only
  split <;> [exact (h.modBuffer b _).releaseTest b; exact h.modBuffer b _]

theorem State.Steady.releaseNeighbours (q : RepairRequest) : s.Steady (t.releaseNeighbours q) := by
  unfold State.releaseNeighbours
  cases q.prev <;> cases q.next
  · exact h
  · exact h.releaseNeighbour _
  · exact h.releaseNeighbour _
  · exact (h.releaseNeighbour _).releaseNeighbour _

/-! ### Repairs and sends (R50, R81 to R94, R128 to R133) -/

theorem State.Steady.engineTake : s.Steady t.engineTake := by
  unfold State.engineTake
  split <;> [exact h.setRepair _; exact h]

theorem State.Steady.takeHolds (prev next : Option Buf) : s.Steady (t.takeHolds prev next) := by
  cases prev <;> cases next <;> exact h.same rfl rfl rfl

theorem State.Steady.requestRepair (b : Buf) (next : Option Buf) : s.Steady (t.requestRepair b next) := by
  rw [State.requestRepair_eq]
  exact (((h.takeHolds _ next).modBuffer b _).setRepair _).engineTake

theorem State.Steady.requestPending (r : Slot) : s.Steady (t.requestPending r) := by
  unfold State.requestPending
  split <;> [exact h.requestRepair _ _; exact h]

theorem State.Steady.discardedNext (r : Slot) : s.Steady (t.discardedNext r) := (h.requestPending r).clearLatestHold r

theorem State.Steady.withdrawRequests (b : Buf) : s.Steady (t.withdrawRequests b) :=
  (h.setRepair _).trans (.foldl (fun u _ => (State.Steady.refl u).releaseNeighbours _) _ _)

theorem State.Steady.discard (b : Buf) : s.Steady (t.discard b) :=
  ((((h.withdrawRequests b).setDelivery _).forgetLatest b).modBuffer b _).releaseTest b

theorem State.Steady.startSend (l : Lane) (b : Buf) : s.Steady (t.startSend l b) := h.same rfl rfl rfl

theorem State.Steady.arbiterSearch : s.Steady t.arbiterSearch := by
  unfold State.arbiterSearch
  split
  · split
    · exact h
    · split <;> [exact h; exact h.startSend _ _]
  · exact h

theorem State.Steady.joinLane (b : Buf) : s.Steady (t.joinLane b) := ((h.modBuffer b _).setDelivery _).arbiterSearch

/-! ### Lines and the end of a frame (R11, R14, R29, R31, R42, R68 to R72) -/

theorem State.Steady.takeGoodLine (b : Buf) (threshold l : Nat) (xs : List Sample) : s.Steady (t.takeGoodLine b threshold l xs) :=
  (h.modMemory b _).modBuffer b _

theorem State.Steady.takeBadLine (b : Buf) (l : Nat) : s.Steady (t.takeBadLine b l) := (h.modMemory b _).modBuffer b _

theorem State.Steady.takeMissing (b : Buf) : s.Steady (t.takeMissing b) :=
  h.trans (.foldl (fun u _ => (State.Steady.refl u).takeBadLine _ _) _ _)

theorem State.Steady.takeHold (r : Slot) (cause : Nat) : s.Steady (t.takeHold r cause) := by
  by_cases hx : t.reels[r].state = .mounted ∨ t.reels[r].state = .running
  · rw [State.takeHold_eq t r hx]
    have bound : t.reels[r].state.bound = true := by rcases hx with hx | hx <;> rw [hx] <;> rfl
    have held : s.Steady (t.modReel r fun x => { x with state := .held }) := h.rebind bound rfl rfl
    exact ((held.formFlow _ _).raise _ _ _ _).discardedNext r
  · rwa [State.takeHold_none t r hx]

theorem State.Steady.applyPolicy (r : Slot) (p : Policy) : s.Steady (t.applyPolicy r p) := h.modReel r rfl

theorem State.Steady.internalHolds (r : Slot) (heavy perfFault : Bool) : s.Steady (t.internalHolds r heavy perfFault) := by
  unfold State.internalHolds
  dsimp only
  split
  · split
    · split <;> [exact (h.takeHold r _).modReel r rfl; exact h.takeHold r _]
    · exact h
  · exact h

theorem State.Steady.perfUpdate (r : Slot) (causes : List Cause) : s.Steady (t.perfUpdate r causes) := by
  unfold State.perfUpdate
  split <;> [exact h.modReel r rfl; exact (h.modReel r rfl).raise _ _ _ _]

theorem State.Steady.heavyPath (b : Buf) (r : Slot) : s.Steady (t.heavyPath b r) :=
  ((h.modBuffer b _).joinLane b).raise _ _ _ _

theorem State.Steady.becomePending (b : Buf) : s.Steady (t.becomePending b) := h.modBuffer b _

theorem State.Steady.predecessorAtEnd (b p : Buf) (heavy : Bool) : s.Steady (t.predecessorAtEnd b p heavy) := by
  have requested : ∀ next, s.Steady (if t.pool.buffers[p].state = .pending then t.requestRepair p next else t) := by
    intro next
    split <;> [exact h.requestRepair _ _; exact h]
  unfold State.predecessorAtEnd
  dsimp only
  split <;> [exact (requested _).clearSuccessor p; exact requested _]

theorem State.Steady.assembleFrame (b : Buf) (r : Slot) : s.Steady (t.assembleFrame b r) := (h.takeMissing b).modReel r rfl

theorem State.Steady.defectEnd (b : Buf) (r : Slot) (p : Option Buf) (heavy : Bool) : s.Steady (t.defectEnd b r p heavy) := by
  have counted := h.countReel r (countFrameEnd t.pool.buffers[b] heavy)
  have passed : s.Steady (if heavy then (t.countReel r (countFrameEnd t.pool.buffers[b] heavy)).heavyPath b r
      else (t.countReel r (countFrameEnd t.pool.buffers[b] heavy)).becomePending b) := by
    split <;> [exact counted.heavyPath b r; exact counted.becomePending b]
  unfold State.defectEnd
  dsimp only
  split <;> [exact passed.predecessorAtEnd b _ heavy; exact passed]

/-! ### The opening of a frame (R26 to R28) -/

theorem State.Steady.sinkFrame (k : Head) : s.Steady (t.sinkFrame k) := h.modHead k _

theorem State.Steady.bufferFrame (k : Head) (r : Slot) (b : Buf) (f : FrameHeadFields) : s.Steady (t.bufferFrame k r b f) := by
  have paced := (((h.modBuffer b fun x => x.taken r t.reels[r] f
      (frameOffset t.intake.gauges[t.reels[r].gauge] t.reels[r].lastOffset f.edges)).modReel r (f := fun x => { x with
      lastOffset := frameOffset t.intake.gauges[t.reels[r].gauge] t.reels[r].lastOffset f.edges
      shrinkEstimate := updateEstimate x.shrinkEstimate (measuredShrink t.intake.gauges[t.reels[r].gauge] f.edges) })
      rfl).modHead k fun x => { x with
      assembly := .assembling b ⟨f.frame, f.lines, f.width, r, t.reels[r].policy.irThreshold,
        perfCauses t.intake.gauges[t.reels[r].gauge] f.edges⟩
      lastMeasurement := some ⟨f.frame, r,
        frameOffset t.intake.gauges[t.reels[r].gauge] t.reels[r].lastOffset f.edges,
        recordedShrink (measuredShrink t.intake.gauges[t.reels[r].gauge] f.edges),
        perfCauses t.intake.gauges[t.reels[r].gauge] f.edges⟩ }).paceFall
  unfold State.bufferFrame
  dsimp only
  split
  · split <;> [exact paced; exact paced.discardedNext r]
  · exact paced

/-- The opening of a frame of a bound reel: MOUNTED becomes RUNNING (R27). -/
theorem State.Steady.openedFrame (k : Head) {r : Slot} (hb : t.reels[r].state.bound = true) (f : FrameHeadFields) :
    s.Steady (t.openedFrame k r f) := by
  have running : (t.reels[r].opened f.frame).state.bound = true := by
    change ReelState.bound (if t.reels[r].state = .mounted then .running else t.reels[r].state) = true
    split <;> [rfl; exact hb]
  have opened : s.Steady (t.modReel r fun x => x.opened f.frame) := h.rebind hb running rfl
  unfold State.openedFrame
  dsimp only
  split
  · exact ((opened.modReel r rfl).sinkFrame k).discardedNext r
  · split
    · exact ((opened.countReel r _).sinkFrame k).discardedNext r
    · split
      · exact (((opened.countReel r _).raise _ _ _ _).sinkFrame k).discardedNext r
      · exact opened.bufferFrame k r _ f

theorem State.Steady.openingTests (k : Head) (f : FrameHeadFields) : s.Steady (t.openingTests k f) := by
  unfold State.openingTests
  split
  · exact (h.modHead k _).sinkFrame k
  · rename_i r hr
    split
    · exact (h.countReel r _).sinkFrame k
    · split
      · exact ((h.countReel r _).raise _ _ _ _).sinkFrame k
      · exact h.openedFrame k (State.boundSlot_some hr).2 f

/-! ### Aborts (R18, R93) -/

theorem State.Steady.abortFrame (r : Slot) (b : Buf) : s.Steady (t.abortFrame r b) := (h.countReel r _).discard b

theorem State.Steady.abortBuffer (r : Slot) (b : Buf) : s.Steady (t.abortBuffer r b) := by
  unfold State.abortBuffer
  dsimp only
  split
  · exact h
  · split
    case h_1 | h_2 | h_3 => exact h.abortFrame r b
    case h_4 =>
      split
      · split <;> [exact h.setRepair _; exact h.abortFrame r b]
      · exact h.abortFrame r b
    all_goals exact h

theorem State.Steady.clearAllHolds (r : Slot) : s.Steady (t.clearAllHolds r) :=
  h.trans <| .foldl (fun u b => by
    split <;> [exact (State.Steady.refl u).clearSuccessor b; exact .refl u]) _ _

end

/-! ### The entry to DRAINING and the deferred orders (R16, R18, R20) -/

section

variable {s : State} (hs : s.Tied)
include hs

/-- A bound reel that enters DRAINING leaves its head and its deferred orders (R15, R20). -/
theorem State.Tied.drain {r : Slot} (hb : s.reels[r].state.bound = true) (c : CloseReason) :
    (s.modReel r (Reel.drained c)).Tied :=
  hs.modReel r rfl (fun _ => ReelState.ne_free_of_bound hb)
    (fun hw => absurd hw (hs.not_waiting fun hc => by rw [hc] at hb; cases hb)) fun hd => absurd rfl hd

theorem State.Tied.enterDraining {r : Slot} (hb : s.reels[r].state.bound = true) (c : CloseReason) : (s.enterDraining r c).Tied :=
  (((State.Steady.refl _).discardedNext r).closeIfEmpty r).tied (hs.drain hb c)

omit hs in
theorem State.Tied.applyDeferred {r : Slot} (l : List Deferred) {s : State} (hs : s.Tied)
    (hb : l ≠ [] → s.reels[r].state.bound = true) : (applyDeferred r l s).Tied := by
  induction l generalizing s with
  | nil => exact hs
  | cons d l ih =>
    replace hb := hb (List.cons_ne_nil _ _)
    cases d with
    | holdReel _ =>
      have held := (State.Steady.refl s).takeHold r 0
      exact ih (held.tied hs) fun _ => held.bound r hb
    | setPolicy _ p =>
      have set := (State.Steady.refl s).applyPolicy r p
      exact ih (set.tied hs) fun _ => set.bound r hb
    | unmountEnd _ => exact hs.enterDraining hb .unmount

theorem State.Tied.applyDeferredOrders (r : Slot) : (s.applyDeferredOrders r).Tied := by
  have emptied : (s.modReel r fun x => { x with deferred := [] }).Tied :=
    hs.modReel r rfl id (hs.waitClosed r) fun h => absurd rfl h
  refine emptied.applyDeferred _ fun hd => ?_
  rw [State.modReel_get_self]
  exact hs.deferredBound r hd

theorem State.Tied.closeFrame (k : Head) (b : Buf) (d : FrameDesc) : (s.closeFrame k b d).Tied :=
  State.Tied.applyDeferredOrders (State.Steady.tied (((((State.Steady.refl s).assembleFrame b d.slot).perfUpdate _ _).defectEnd
    _ _ _ _).modHead k _ |>.internalHolds _ _ _) hs) _

theorem State.Tied.endAssembly (k : Head) : (s.endAssembly k).Tied := by
  unfold State.endAssembly
  split <;> [exact hs.closeFrame k _ _; exact ((State.Steady.refl s).modHead k _).tied hs]

theorem State.Tied.abortReel {r : Slot} (hb : s.reels[r].state.bound = true) : (s.abortReel r).Tied := by
  have sunk : s.Steady (if s.assemblingFor r then s.modHead s.reels[r].head fun x => { x with assembly := .sinking } else s) := by
    split <;> [exact (State.Steady.refl s).modHead _ _; exact .refl s]
  have dealt := (sunk.clearAllHolds r).trans
    (.foldl (op := fun s b => s.abortBuffer r b) (fun u b => (State.Steady.refl u).abortBuffer r b) allBuffers _)
  exact ((State.Steady.refl _).closeIfEmpty r).tied ((dealt.tied hs).drain (dealt.bound r hb) .abort)

end

end Sys2Proof.Machine
end

section
/-! PROOFS. The ties under received cells, resets, links and the part's own events. -/

namespace Sys2Proof.Machine

/-! ### Received cells -/

section

variable {s t : State} (h : s.Steady t)
include h

theorem State.Steady.headCheckFailure (k : Head) (d : Nat) : s.Steady (t.headCheckFailure k d) := (h.modHead k _).raise _ _ _ _

theorem State.Steady.headSink (k : Head) : s.Steady (t.headSink k) := h.modHead k _

theorem State.Steady.storeCheckFailure : s.Steady t.storeCheckFailure := (h.setLinks _).raise _ _ _ _

theorem State.Steady.storeSink : s.Steady t.storeSink := h.setLinks _

theorem State.Steady.strayLine (k : Head) (passed : Bool) : s.Steady (t.strayLine k passed) := by
  unfold State.strayLine
  dsimp only
  split <;> [exact h.headSink k; exact (h.headSink k).headCheckFailure k 0]

theorem State.Steady.resolve (b : Buf) (how : Resolution) : s.Steady (t.resolve b how) := (h.modBuffer b _).releaseTest b

theorem State.Steady.takeStoreAck (p : List Byte) : s.Steady (t.takeStoreAck p) := by
  unfold State.takeStoreAck
  split <;> [exact h.setDelivery _; exact (h.countReel _ _).resolve _ _]

theorem State.Steady.onStoreAck (c : RxCell) : s.Steady (t.onStoreAck c) := by
  unfold State.onStoreAck
  split <;> [exact h.takeStoreAck _; exact h.storeCheckFailure]

theorem State.Steady.onCredit (c : RxCell) : s.Steady (t.onCredit c) := by
  unfold State.onCredit
  split <;> [exact (h.setDelivery _).arbiterSearch; exact h.storeCheckFailure]

theorem State.Steady.onCheckFailure (p : Port) : s.Steady (t.onCheckFailure p) := by
  unfold State.onCheckFailure
  split <;> [exact h.headCheckFailure _ 0; exact h.storeCheckFailure]

theorem State.Steady.onSunk (p : Port) : s.Steady (t.onSunk p) := by
  unfold State.onSunk
  split <;> [exact h.headSink _; exact h.storeSink]

theorem State.Steady.queueOrder (p : Port) (o : Order) : s.Steady (t.queueOrder p o) := by
  unfold State.queueOrder
  split <;> [exact h.modPort p _; exact ((h.formReply p _ _ _ _).modPort p _).raise _ _ _ _]

theorem State.Steady.onOrder (p : Port) (c : RxCell) : s.Steady (t.onOrder p c) := by
  unfold State.onOrder
  split <;> [exact h.queueOrder p _; exact h.onCheckFailure p]

theorem State.Steady.onOtherKind (p : Port) (k : Byte) (c : RxCell) : s.Steady (t.onOtherKind p k c) := by
  unfold State.onOtherKind
  split <;> [exact h.onSunk p; exact h.onCheckFailure p]

/-! ### Links and the part's own events -/

theorem State.Steady.emptyPort (p : Port) : s.Steady (t.emptyPort p) := (h.modPort p _).returnNotice p

theorem State.Steady.gainHeadLink (k : Head) : s.Steady (t.gainHeadLink k) := by
  have up := (h.modPort (headPort k) fun q => { q with link := .up, seqOut := 0 }).raise .portUp k.val none 0
  unfold State.gainHeadLink
  dsimp only
  split <;> [exact up.tellPaced k; exact up]

theorem State.Steady.cutSend : s.Steady t.cutSend := by
  unfold State.cutSend
  split
  · exact h
  · dsimp only
    split <;> exact h.same rfl rfl rfl

theorem State.Steady.loseStoreLink : s.Steady t.loseStoreLink :=
  ((((h.modPort portS _).cutSend).setDelivery _).raise _ _ _ _).emptyPort portS

theorem State.Steady.ackExpiry (b : Buf) : s.Steady (t.ackExpiry b) := ((h.countReel _ _).raise _ _ _ _).resolve b _

theorem State.Steady.writeRepair (j : RepairJob) : s.Steady (t.writeRepair j) := by
  unfold State.writeRepair
  exact ((h.modMemory _ _).modBuffer _ _).countReel _ _

theorem State.Steady.completeRepair (j : RepairJob) : s.Steady (t.completeRepair j) := by
  have written := (h.writeRepair j).releaseNeighbours j.request
  unfold State.completeRepair
  dsimp only
  refine State.Steady.engineTake (State.Steady.setRepair ?_ _)
  split <;> [exact written.abortFrame _ _; exact written.joinLane _]

theorem State.Steady.sendLine (b : Buf) (k : Nat) : s.Steady (t.sendLine b k) := h.same rfl rfl rfl

theorem State.Steady.completeSend (b : Buf) : s.Steady (t.completeSend b) :=
  ((h.modBuffer b _).setDelivery _).arbiterSearch

theorem State.Steady.sendMgmt (p : Port) (c : MgmtCell) : s.Steady (t.sendMgmt p c) := h.same rfl rfl rfl

theorem State.Steady.sendNotice (p : Port) (c : MgmtCell) : s.Steady (t.sendNotice p c) := h.same rfl rfl rfl

end

/-! ### Events at a frame gap, and the resets -/

section

variable {s : State} (hs : s.Tied)
include hs

theorem State.Tied.takeFrameHead (k : Head) (f : FrameHeadFields) : (s.takeFrameHead k f).Tied := by
  unfold State.takeFrameHead
  dsimp only
  split
  · exact ((State.Steady.refl _).openingTests k f).tied (hs.closeFrame k _ _)
  · exact ((State.Steady.refl s).openingTests k f).tied hs

theorem State.Tied.oversizeDiscard (k : Head) (b : Buf) (d : FrameDesc) : (s.oversizeDiscard k b d).Tied :=
  State.Tied.applyDeferredOrders
    (((((State.Steady.refl s).countReel d.slot _).discard b).sinkFrame k).discardedNext d.slot |>.tied hs) d.slot

theorem State.Tied.takeLine (k : Head) (b : Buf) (d : FrameDesc) (passed : Bool) (p : List Byte) :
    (s.takeLine k b d passed p).Tied := by
  have steady := State.Steady.refl s
  unfold State.takeLine
  dsimp only
  split
  · split <;> [exact hs.oversizeDiscard k b d; exact (steady.headCheckFailure k 0).tied hs]
  · split
    · split <;> [exact (steady.modHead k _).tied hs; exact ((steady.modHead k _).headCheckFailure k 0).tied hs]
    · split
      · exact ((steady.takeBadLine b _).headCheckFailure k 1).tied hs
      · split <;> [exact (steady.takeBadLine b _).tied hs; exact (steady.takeGoodLine b _ _ _).tied hs]

theorem State.Tied.takeFrameEnd (k : Head) : (s.takeFrameEnd k).Tied := by
  unfold State.takeFrameEnd
  split <;> [exact hs.closeFrame k _ _; exact (((State.Steady.refl s).modHead k _).headSink k).tied hs]

theorem State.Tied.takeReelEnd (k : Head) : (s.takeReelEnd k).Tied := by
  have ended := hs.endAssembly k
  unfold State.takeReelEnd
  dsimp only
  split
  · rename_i r hr
    exact ended.enterDraining (State.boundSlot_some hr).2 .reelEnd
  · exact ((State.Steady.refl _).headSink k).tied ended

theorem State.Tied.onFrameHead (k : Head) (c : RxCell) : (s.onFrameHead k c).Tied := by
  unfold State.onFrameHead
  split <;> [exact hs.takeFrameHead k _; exact ((State.Steady.refl s).headCheckFailure k 0).tied hs]

theorem State.Tied.onLine (k : Head) (c : RxCell) : (s.onLine k c).Tied := by
  unfold State.onLine
  split <;> [exact hs.takeLine k _ _ _ _; exact ((State.Steady.refl s).strayLine k _).tied hs]

theorem State.Tied.onFrameEnd (k : Head) (c : RxCell) : (s.onFrameEnd k c).Tied := by
  unfold State.onFrameEnd
  split <;> [exact hs.takeFrameEnd k; exact ((State.Steady.refl s).headCheckFailure k 0).tied hs]

theorem State.Tied.onReelEnd (k : Head) (c : RxCell) : (s.onReelEnd k c).Tied := by
  unfold State.onReelEnd
  split <;> [exact hs.takeReelEnd k; exact ((State.Steady.refl s).headCheckFailure k 0).tied hs]

theorem State.Tied.onCell (p : Port) (k : Byte) (c : RxCell) : (s.onCell p k c).Tied := by
  have steady := State.Steady.refl s
  unfold State.onCell
  split
  · exact (steady.onOrder p c).tied hs
  · split
    · split <;> [exact hs.onFrameHead _ c; skip]
      split <;> [exact hs.onLine _ c; skip]
      split <;> [exact hs.onFrameEnd _ c; skip]
      split <;> [exact hs.onReelEnd _ c; exact (steady.onOtherKind p k c).tied hs]
    · split <;> [exact (steady.onStoreAck c).tied hs; skip]
      split <;> [exact (steady.onCredit c).tied hs; exact (steady.onOtherKind p k c).tied hs]

/-- The loss of a head's link: the frame in hand ends, and a RUNNING reel is held (R13, R43). -/
theorem State.Tied.loseHeadLink (k : Head) : (s.loseHeadLink k).Tied := by
  have ended := State.Tied.endAssembly
    ((((State.Steady.refl s).modPort (headPort k) fun q => { q with link := .down }).raise .portDown k.val none 0).tied hs) k
  have held : ∀ u : State, u.Steady (match u.boundSlot k with
      | some r => if u.reels[r].state = .running then u.takeHold r 3 else u
      | none => u) := by
    intro u
    split
    · split <;> [exact (State.Steady.refl u).takeHold _ 3; exact .refl u]
    · exact .refl u
  exact ((held _).emptyPort (headPort k)).tied ended

omit hs in
theorem State.Tied.powerOn (s : State) : s.powerOn.Tied := State.reset_tied.of_same (fun _ => rfl) rfl rfl

omit hs in
theorem Record.softReset_position (x : Record) : x.softReset.position = x.position := by
  unfold Record.softReset
  split <;> rfl

omit hs in
theorem Record.softReset_state (x : Record) : x.softReset.state = if x.state = .onHead then .out else x.state := by
  unfold Record.softReset
  split <;> rfl

/-- SOFT-RESET frees every slot, and every record ON_HEAD is OUT (R3, R152); the shelf map keeps its tickets (R159, R164). -/
theorem State.Tied.softReset : s.softReset.Tied := by
  obtain ⟨homed, empty, queued, placed⟩ := hs.stocked
  have shelf : s.softReset.shelf = { s.shelf with waitList := [] } := by
    unfold State.softReset
    rw [State.abandonRepair_eq]
  have record : ∀ i : RecordNo, s.softReset.catalogue[i] = s.catalogue[i].softReset := by
    intro i
    unfold State.softReset
    rw [State.abandonRepair_eq]
    exact mapEntries_get _ _ _ _
  have free : ∀ r : Slot, s.softReset.reels[r] = {} := by
    intro r
    unfold State.softReset
    simp
  have state : ∀ i : RecordNo, s.softReset.catalogue[i].state =
      if s.catalogue[i].state = .onHead then .out else s.catalogue[i].state := by
    intro i
    rw [record, Record.softReset_state]
  have position : ∀ i : RecordNo, s.softReset.catalogue[i].position = s.catalogue[i].position := by
    intro i
    rw [record, Record.softReset_position]
  refine State.tied_iff.2 ⟨⟨?homed, ?empty, ?queued, ?placed⟩, ?slotted⟩
  case homed => exact shelf ▸ homed.congr position (fun _ => rfl) fun _ => rfl
  case empty =>
    intro i hi
    rw [state] at hi
    rw [position]
    split at hi <;> [cases hi; exact empty i hi]
  case queued =>
    rw [shelf]
    refine queued.congr fun i => ?_
    rw [state]
    split
    · rename_i h
      rw [h]
      simp
    · rfl
  case placed =>
    rw [shelf]
    intro t ht ho
    obtain ⟨issued, waiting⟩ := placed t ht ho
    exact ⟨fun hn => by rw [position]; exact issued hn, waiting⟩
  case slotted =>
    constructor <;> simp [free, shelf]

end

end Sys2Proof.Machine
end

section
/-! PROOFS. The ties under the orders, and every step (O6). -/

namespace Sys2Proof.Machine

/-! ### A record and its position changed together -/

section

variable {s t : State}

/-- A record that has no ticket before or after is replaced, with what the positions say of it. -/
theorem State.Stocked.replace (hs : s.Stocked none) {i : RecordNo} (hi : s.catalogue[i].state ≠ .pendingShelf)
    (hi' : t.catalogue[i].state ≠ .pendingShelf) (hother : ∀ j : RecordNo, i ≠ j → t.catalogue[j] = s.catalogue[j])
    (hempty : t.catalogue[i].state = .empty → t.catalogue[i].position = none) (htickets : t.shelf.tickets = s.shelf.tickets)
    (hhomed : Homed t.catalogue t.shelf.positions) : t.Stocked none := by
  refine ⟨hhomed, fun j hj => ?empty, htickets ▸ hs.queued.congr fun j => ?pending, htickets ▸ fun x hx ho => ?placed⟩
  case empty =>
    by_cases h : i = j
    · subst h
      exact hempty hj
    · rw [hother j h] at hj ⊢
      exact hs.empty j hj
  case pending =>
    by_cases h : i = j
    · subst h
      exact iff_of_false hi' hi
    · rw [hother j h]
  case placed =>
    rw [hother x.record fun h => hi ((congrArg (fun k : RecordNo => s.catalogue[k].state) h).trans (hs.queued.pending x hx))]
    exact hs.placed x hx ho

theorem State.Slotted.replace (hs : s.Slotted) {i : RecordNo} (hi : s.catalogue[i].state ≠ .onHead)
    (hother : ∀ j : RecordNo, i ≠ j → t.catalogue[j] = s.catalogue[j]) (hreels : t.reels = s.reels)
    (hwait : t.shelf.waitList = s.shelf.waitList) : t.Slotted := by
  refine hs.congr (fun r => by rw [hreels]) (fun j hj => ?_) hwait
  rw [hother j fun h => hi ((congrArg (fun k : RecordNo => s.catalogue[k].state) h).trans hj)]
  exact hj

/-- A record of no slot goes ON_HEAD with a FREE slot bound to it (R6, R151). -/
theorem State.Slotted.mount (hs : s.Slotted) {r : Slot} (hr : s.reels[r].state = .free) {x : Reel} (hx : x.state.bound = true)
    (hreels : t.reels = modEntry s.reels r fun _ => x) (hi : s.catalogue[x.record].state ≠ .onHead)
    (hi' : t.catalogue[x.record].state = .onHead) (hother : ∀ j : RecordNo, x.record ≠ j → t.catalogue[j] = s.catalogue[j])
    (hwait : t.shelf.waitList = s.shelf.waitList) : t.Slotted := by
  have reel : ∀ k : Slot, t.reels[k] = if r = k then x else s.reels[k] := by
    intro k
    rw [hreels, modEntry_get]
  have new : t.reels[r] = x := (reel r).trans (if_pos rfl)
  have old : ∀ k : Slot, r ≠ k → t.reels[k] = s.reels[k] := fun k hk => (reel k).trans (if_neg hk)
  have apart : ∀ k : Slot, s.reels[k].state ≠ .free → x.record ≠ s.reels[k].record := fun k hk h =>
    hi ((congrArg (fun j : RecordNo => s.catalogue[j].state) h).trans (hs.onHead k hk))
  refine ⟨fun k hk => ?onHead, fun k k' hk hk' h => ?slots, fun k hk => ?waitClosed, hwait ▸ hs.waitOnce, fun k hk => ?deferred⟩
  case onHead =>
    by_cases hr' : r = k
    · subst hr'
      exact (congrArg (fun y : Reel => t.catalogue[y.record].state) new).trans hi'
    · rw [old k hr'] at hk
      refine (congrArg (fun y : Reel => t.catalogue[y.record].state) (old k hr')).trans ?_
      rw [hother _ (apart k hk)]
      exact hs.onHead k hk
  case slots =>
    by_cases hr' : r = k <;> by_cases hr'' : r = k'
    · exact hr'.symm.trans hr''
    · subst hr'
      rw [old k' hr''] at hk' h
      rw [new] at h
      exact absurd h (apart k' hk')
    · subst hr''
      rw [old k hr'] at hk h
      rw [new] at h
      exact absurd h.symm (apart k hk)
    · rw [old k hr'] at hk h
      rw [old k' hr''] at hk' h
      exact hs.slots k k' hk hk' h
  case waitClosed =>
    rw [hwait] at hk
    have closed := hs.waitClosed k hk
    rwa [old k fun h => nomatch (h ▸ hr).symm.trans closed]
  case deferred =>
    by_cases hr' : r = k
    · subst hr'
      rwa [new]
    · rw [old k hr'] at hk ⊢
      exact hs.deferredBound k hk

end

/-! ### A position and a record changed in one event -/

section

variable (s : State) (o : Option PositionNo) (f : Position → Position) (i : RecordNo) (g : Record → Record)

/-- A position changed, if one is given. -/
def State.modHome : State :=
  match o with
  | some q => s.modPosition q f
  | none => s

/-- A record changed, and with it a position, if one is given. -/
def State.rehome : State := (s.modHome o f).modRecord i g

/-- Such a change concerns the one record and the positions only. -/
theorem State.rehome_eq : ∃ ps, s.rehome o f i g =
      { s with catalogue := modEntry s.catalogue i g, shelf := { s.shelf with positions := ps } } ∧
    ∀ k : PositionNo, ps[k] = if o = some k then f s.shelf.positions[k] else s.shelf.positions[k] := by
  cases o with
  | none => exact ⟨_, rfl, fun k => (if_neg (by simp)).symm⟩
  | some q =>
    refine ⟨modEntry s.shelf.positions q f, rfl, fun k => ?_⟩
    rw [modEntry_get]
    simp only [Option.some.injEq]

theorem State.rehome_record (j : RecordNo) :
    (s.rehome o f i g).catalogue[j] = if i = j then g s.catalogue[j] else s.catalogue[j] := by
  obtain ⟨ps, hps, -⟩ := s.rehome_eq o f i g
  rw [hps]
  exact modEntry_get _ _ _ _

theorem State.rehome_record_self : (s.rehome o f i g).catalogue[i] = g s.catalogue[i] :=
  (s.rehome_record o f i g i).trans (if_pos rfl)

theorem State.rehome_record_ne {j : RecordNo} (h : i ≠ j) : (s.rehome o f i g).catalogue[j] = s.catalogue[j] :=
  (s.rehome_record o f i g j).trans (if_neg h)

theorem State.rehome_position (k : PositionNo) : (s.rehome o f i g).shelf.positions[k] =
    if o = some k then f s.shelf.positions[k] else s.shelf.positions[k] := by
  obtain ⟨ps, hps, hk⟩ := s.rehome_eq o f i g
  rw [hps]
  exact hk k

theorem State.rehome_reels : (s.rehome o f i g).reels = s.reels := by
  obtain ⟨ps, hps, -⟩ := s.rehome_eq o f i g
  rw [hps]

theorem State.rehome_tickets : (s.rehome o f i g).shelf.tickets = s.shelf.tickets := by
  obtain ⟨ps, hps, -⟩ := s.rehome_eq o f i g
  rw [hps]

theorem State.rehome_waitList : (s.rehome o f i g).shelf.waitList = s.shelf.waitList := by
  obtain ⟨ps, hps, -⟩ := s.rehome_eq o f i g
  rw [hps]

variable {s o f i g}

/-- A record that takes a position of its own or with no owner, or none, and names no other. -/
theorem Homed.settle (h : Homed s.catalogue s.shelf.positions)
    (hold : s.catalogue[i].position = none ∨ s.catalogue[i].position = o) (hnew : (g s.catalogue[i]).position = o)
    (hopen : ∀ q, o = some q → s.shelf.positions[q].owner = none ∨ s.shelf.positions[q].owner = some i)
    (hf : ∀ q, o = some q → (f s.shelf.positions[q]).owner = some i ∧ (f s.shelf.positions[q]).state.taken = true) :
    Homed (s.rehome o f i g).catalogue (s.rehome o f i g).shelf.positions := by
  refine h.move hopen (by rw [State.rehome_record_self, hnew]) (fun j hj => by rw [State.rehome_record_ne _ _ _ _ _ hj]) ?_ ?_
  · intro q
    rw [State.rehome_position]
    split
    · rename_i hq
      exact (hf q hq).1
    · rename_i hq
      rw [if_neg fun hi => ?_]
      obtain hn | ho := hold
      · exact nomatch hn.symm.trans hi
      · exact hq (ho.symm.trans hi)
  · intro q
    rw [State.rehome_position]
    split
    · rename_i hq
      obtain ⟨howner, htaken⟩ := hf q hq
      rw [howner, htaken]
      rfl
    · exact h.taken q

/-- A record on a shelf or out of the vault has no slot and no ticket. -/
theorem RecordState.unplaced {x : RecordState} (h : x = .shelved ∨ x = .out) : x ≠ .onHead ∧ x ≠ .pendingShelf := by
  rcases h with rfl | rfl <;> decide

/-- A record that leaves the position it names. -/
theorem Homed.vacate (h : Homed s.catalogue s.shelf.positions) (hold : s.catalogue[i].position = o)
    (hnew : (g s.catalogue[i]).position = none)
    (hf : ∀ q, o = some q → (f s.shelf.positions[q]).owner = none ∧ (f s.shelf.positions[q]).state.taken = false) :
    Homed (s.rehome o f i g).catalogue (s.rehome o f i g).shelf.positions := by
  refine h.move (new := none) nofun (by rw [State.rehome_record_self, hnew])
    (fun j hj => by rw [State.rehome_record_ne _ _ _ _ _ hj]) ?_ ?_
  · intro q
    rw [State.rehome_position, hold]
    split
    · rename_i hq
      simpa using (hf q hq).1
    · simp
  · intro q
    rw [State.rehome_position]
    split
    · rename_i hq
      obtain ⟨howner, htaken⟩ := hf q hq
      rw [howner, htaken]
      rfl
    · exact h.taken q

/-- A record with no ticket and no slot that is changed to such a one. -/
theorem State.Tied.rehome (hs : s.Tied) (hhead : s.catalogue[i].state ≠ .onHead) (hpend : s.catalogue[i].state ≠ .pendingShelf)
    (hpend' : (g s.catalogue[i]).state ≠ .pendingShelf)
    (hempty : (g s.catalogue[i]).state = .empty → (g s.catalogue[i]).position = none)
    (hhomed : Homed (s.rehome o f i g).catalogue (s.rehome o f i g).shelf.positions) : (s.rehome o f i g).Tied :=
  State.tied_iff.2
    ⟨hs.stocked.replace hpend (by rwa [State.rehome_record_self]) (fun _ => State.rehome_record_ne _ _ _ _ _)
      (by rwa [State.rehome_record_self]) (State.rehome_tickets _ _ _ _ _) hhomed,
    hs.slotted.replace hhead (fun _ => State.rehome_record_ne _ _ _ _ _) (State.rehome_reels _ _ _ _ _)
      (State.rehome_waitList _ _ _ _ _)⟩

end

/-! ### Orders on reels (R5 to R18, R105 to R108) -/

section

variable {s : State} (hs : s.Tied)
include hs

theorem State.Tied.withArgs {α : Type} {a : Args α} {k : α → OrderEffect} (hk : ∀ x, (k x).1.Tied) : (s.withArgs a k).1.Tied := by
  unfold State.withArgs
  split <;> [exact hs; exact hs; exact hk _]

omit hs in
theorem State.takeFromShelf_rehome (s : State) (i : RecordNo) : s.takeFromShelf i =
    s.rehome s.catalogue[i].position (fun x => { x with state := .reserved, owner := some i }) i fun x =>
      { x with state := .onHead } := rfl

theorem State.Tied.mount {a : MountArgs} {r : Slot} (hr : s.reels[r].state = .free)
    (hi : s.catalogue[a.record].state = .shelved ∨ s.catalogue[a.record].state = .out) : (s.mount a r).Tied := by
  obtain ⟨hhead, hpend⟩ := RecordState.unplaced hi
  have homed := Homed.settle (s := s.modReel r fun _ => mountedReel a) hs.stocked.homed
    (o := s.catalogue[a.record].position) (i := a.record)
    (f := fun x => { x with state := .reserved, owner := some a.record }) (g := fun x => { x with state := .onHead })
    (.inr rfl) rfl (fun q hq => .inr (hs.owned _ q hq)) fun _ _ => ⟨rfl, rfl⟩
  have other : ∀ j : RecordNo, a.record ≠ j → ((s.modReel r fun _ => mountedReel a).takeFromShelf a.record).catalogue[j] =
      s.catalogue[j] := fun _ => State.rehome_record_ne _ _ _ _ _
  have state : ((s.modReel r fun _ => mountedReel a).takeFromShelf a.record).catalogue[a.record].state = .onHead :=
    congrArg Record.state (State.rehome_record_self _ _ _ _ _)
  have taken : ((s.modReel r fun _ => mountedReel a).takeFromShelf a.record).Tied :=
    State.tied_iff.2
      ⟨hs.stocked.replace hpend (fun h => nomatch state.symm.trans h) other (fun h => nomatch state.symm.trans h)
        (State.rehome_tickets _ _ _ _ _) homed,
      hs.slotted.mount hr (x := mountedReel a) rfl (State.rehome_reels _ _ _ _ _) hhead state other
        (State.rehome_waitList _ _ _ _ _)⟩
  exact ((State.Steady.refl _).tellPaced a.head).tied taken

theorem State.Tied.applyMountReel (o : Order) : (applyMountReel s o).1.Tied := by
  refine hs.withArgs fun a => ?_
  unfold State.mountOrder
  split <;> [exact hs; skip]
  split <;> [exact hs; skip]
  rename_i r hr
  split <;> [exact hs; skip]
  rename_i hi
  split <;> [exact hs; exact hs.mount (by simpa using (firstEntry_some hr).1) (not_not.1 hi)]

/-- Only a RUNNING reel, which is bound, defers an order (R15). -/
theorem State.Tied.deferOrder {r : Slot} (hm : s.midFrame r = true) (d : Deferred) : (s.deferOrder r d).1.Tied := by
  have bound : s.reels[r].state.bound = true := by rw [(State.midFrame_iff.1 hm).1]; rfl
  unfold State.deferOrder
  split
  · exact ((State.Steady.refl s).rebind bound bound rfl).tied hs
  · exact hs

theorem State.Tied.applyUnmount (o : Order) : (applyUnmount s o).1.Tied := by
  refine hs.withArgs fun a => ?_
  unfold State.unmountOrder State.unmountAbort State.unmountEnd
  split
  · split
    case h_1 | h_2 | h_3 =>
      rename_i hx
      dsimp only
      exact hs.abortReel (r := a.1) (by rw [hx]; rfl)
    all_goals exact hs
  · split
    case h_1 | h_2 | h_3 =>
      rename_i hx
      split
      · rename_i hm
        exact hs.deferOrder hm _
      · exact hs.enterDraining (by rw [hx]; rfl) _
    all_goals exact hs

theorem State.Tied.applyHoldReel (o : Order) : (applyHoldReel s o).1.Tied := by
  refine hs.withArgs fun r => ?_
  unfold State.holdOrder
  split
  case h_1 | h_2 =>
    split
    · rename_i hm
      exact hs.deferOrder hm _
    · exact ((State.Steady.refl s).takeHold r 0).tied hs
  all_goals exact hs

theorem State.Tied.applyResumeReel (o : Order) : (applyResumeReel s o).1.Tied := by
  refine hs.withArgs fun r => ?_
  unfold State.resumeOrder
  split
  · rename_i hx
    have running := (State.Steady.refl s).rebind (r := r)
      (f := fun x => { x with state := .running, settleRemaining := x.policy.settleCount }) (by rw [hx]; rfl) rfl rfl
    exact ((running.formFlow _ _).tellPaced _).tied hs
  · exact hs

theorem State.Tied.applySetReelPolicy (o : Order) : (applySetReelPolicy s o).1.Tied := by
  refine hs.withArgs fun a => ?_
  unfold State.policyOrder
  split
  case h_1 | h_2 | h_3 =>
    split
    · rename_i hm
      exact hs.deferOrder hm _
    · exact ((State.Steady.refl s).applyPolicy a.1 a.2).tied hs
  all_goals exact hs

theorem State.Tied.applySetReelGrade (o : Order) : (applySetReelGrade s o).1.Tied := by
  refine hs.withArgs fun a => ?_
  unfold State.gradeOrder
  split
  case h_1 | h_2 | h_3 => exact ((State.Steady.refl s).modReel a.1 rfl).tied hs
  all_goals exact hs

theorem State.Tied.applySetCue (o : Order) : (applySetCue s o).1.Tied := by
  have placed : ∀ r x, (s.placeCueOn r x).1.Tied := by
    intro r x
    unfold State.placeCueOn
    dsimp only
    split <;> [exact hs; skip]
    split <;> [exact hs; exact ((State.Steady.refl s).modReel r rfl).tied hs]
  refine hs.withArgs fun a => ?_
  unfold State.cueOrder
  split
  case h_1 | h_2 | h_3 => exact placed _ _
  all_goals exact hs

theorem State.Tied.applyClearCues (o : Order) : (applyClearCues s o).1.Tied := by
  refine hs.withArgs fun r => ?_
  unfold State.clearOrder
  split
  case h_1 | h_2 | h_3 => exact ((State.Steady.refl s).modReel r rfl).tied hs
  all_goals exact hs

/-! ### Orders on records (R147 to R149) -/

omit hs in
theorem State.positionOpen_iff {q : PositionNo} : s.positionOpen (some q) = true ↔
    s.shelf.positions[q].state = .free ∧ s.shelf.positions[q].lock = false := by
  simp [State.positionOpen]

omit hs in
theorem State.createRecord_rehome (i : RecordNo) (a : Account) (q : Option PositionNo) : s.createRecord i a q =
    s.rehome q (fun x => { x with state := .occupied, owner := some i }) i fun _ =>
      { ({} : Record).write a with state := if q.isSome then .shelved else .out, position := q } := rfl

theorem State.Tied.createRecord {i : RecordNo} (hi : s.catalogue[i].state = .empty) {q : Option PositionNo}
    (hq : s.positionOpen q = true) (a : Account) : (s.createRecord i a q).Tied := by
  have unowned : ∀ k, q = some k → s.shelf.positions[k].owner = none := by
    rintro k rfl
    exact hs.stocked.homed.owner_none (by rw [(State.positionOpen_iff.1 hq).1]; rfl)
  rw [State.createRecord_rehome]
  refine hs.rehome (by rw [hi]; decide) (by rw [hi]; decide) ?_ ?_
    (hs.stocked.homed.settle (.inl (hs.empty i hi)) rfl (fun k hk => .inl (unowned k hk)) fun _ _ => ⟨rfl, rfl⟩)
  all_goals cases q <;> exact nofun

theorem State.Tied.writeOrder (i : Option RecordNo) (a : Option Account) (q : Option (Option PositionNo)) :
    (s.writeOrder i a q).1.Tied := by
  unfold State.writeOrder
  split
  · exact hs
  · rename_i i a q
    unfold State.writeRecord
    split
    case h_1 hi =>
      split <;> [(rename_i hq; exact hs.createRecord hi hq a); exact hs]
    case h_2 | h_3 => exact hs.modRecord i (f := fun x => x.write a) (fun _ => rfl) fun _ => rfl
    all_goals exact hs
  · exact hs

theorem State.Tied.applyWriteCatalogue (o : Order) : (applyWriteCatalogue s o).1.Tied := by
  unfold Machine.applyWriteCatalogue
  split <;> [exact hs.writeOrder _ _ _; exact hs.writeOrder _ _ _; exact hs]

/-- A record with no ticket and no slot erased, and the position it named FREE (R149), before the retry pass. -/
theorem State.Tied.erased {i : RecordNo} (hi : s.catalogue[i].state = .shelved ∨ s.catalogue[i].state = .out) :
    (s.rehome s.catalogue[i].position Position.freed i fun _ => {}).Tied := by
  obtain ⟨hhead, hpend⟩ := RecordState.unplaced hi
  exact hs.rehome hhead hpend nofun (fun _ => rfl) (hs.stocked.homed.vacate rfl rfl fun _ _ => ⟨rfl, rfl⟩)

theorem State.Tied.eraseRecord {i : RecordNo} (hi : s.catalogue[i].state = .shelved ∨ s.catalogue[i].state = .out) :
    (s.eraseRecord i).Tied := by
  have erased := hs.erased hi
  unfold State.eraseRecord
  split
  · rename_i q hq
    rw [hq] at erased
    dsimp only
    split <;> [exact erased; exact erased.retryPass none]
  · rename_i hq
    rw [hq] at erased
    exact erased

theorem State.Tied.applyEraseCatalogue (o : Order) : (applyEraseCatalogue s o).1.Tied := by
  refine hs.withArgs fun i => ?_
  unfold State.eraseOrder
  split
  case h_1 hi => exact hs.eraseRecord (.inl hi)
  case h_2 hi => exact hs.eraseRecord (.inr hi)
  all_goals exact hs

/-! ### Orders on positions (R160 to R162) -/

/-- Changes of positions that leave the owner of each, and whether it is held for a record. -/
theorem State.Tied.setPositions {ps : Vector Position 1024}
    (howner : ∀ q : PositionNo, ps[q].owner = s.shelf.positions[q].owner)
    (htaken : ∀ q : PositionNo, ps[q].state.taken = s.shelf.positions[q].state.taken) :
    ({ s with shelf := { s.shelf with positions := ps } } : State).Tied :=
  State.tied_iff.2 ⟨{ hs.stocked with homed := hs.stocked.homed.congr (fun _ => rfl) howner htaken },
    hs.slotted.congr (fun _ => rfl) (fun _ => id) rfl⟩

theorem State.Tied.setLock (q : PositionNo) (lock : Bool) : (s.setLock q lock).Tied := by
  refine hs.setPositions (fun k => ?_) fun k => ?_ <;> rw [modEntry_get] <;> split <;> rfl

/-- Positions of which none is held for a record are defined (R160). -/
theorem State.Tied.definePositions {a : ShelfRange} (h : s.takenPosition a = none) (c : Option VaultClass) :
    (s.definePositions a c).Tied := by
  have position : ∀ q : PositionNo, (mapEntries (fun i x => if a.has i then x.define c else x) s.shelf.positions)[q] =
      if a.has q then s.shelf.positions[q].define c else s.shelf.positions[q] := fun q => mapEntries_get _ _ _ _
  have untaken : ∀ q : PositionNo, a.has q = true → s.shelf.positions[q].state.taken = false := by
    intro q hq
    have := firstEntry_none h q
    rw [hq, Bool.true_and, decide_eq_false_iff_not, not_or] at this
    obtain ⟨hoccupied, hreserved⟩ := this
    cases hx : s.shelf.positions[q].state
    case occupied => exact absurd hx hoccupied
    case reserved => exact absurd hx hreserved
    all_goals rfl
  refine hs.setPositions (fun q => ?_) fun q => ?_ <;> rw [position] <;> split
  · rename_i hq
    exact (hs.stocked.homed.owner_none (untaken q hq)).symm
  · rfl
  · rename_i hq
    rw [untaken q hq]
    cases c <;> rfl
  · rfl

theorem State.Tied.applyDefineShelves (o : Order) : (applyDefineShelves s o).1.Tied := by
  refine hs.withArgs fun a => ?_
  unfold State.defineOrder
  split
  · exact hs
  · rename_i ht
    have defined := hs.definePositions ht a.2
    dsimp only
    split <;> [exact defined.retryPass none; exact defined]

theorem State.Tied.applyShelfLock (o : Order) : (applyShelfLock s o).1.Tied := hs.withArgs fun q => hs.setLock q true

theorem State.Tied.applyShelfUnlock (o : Order) : (applyShelfUnlock s o).1.Tied := by
  refine hs.withArgs fun q => ?_
  unfold State.unlockOrder
  dsimp only
  split <;> [exact (hs.setLock q false).retryPass none; exact hs.setLock q false]

/-! ### Orders on tickets (R170 to R172) -/

/-- The taking of an ISSUED ticket (R170). -/
theorem State.Tied.takeTicket {t : Ticket} (ht : t ∈ s.shelf.tickets) (hi : t.state = .issued) :
    (s.modTicket t.number fun x => { x with state := .taken }).Tied := by
  obtain ⟨homed, empty, queued, placed⟩ := hs.stocked
  refine State.tied_iff.2 ⟨⟨homed, empty, ?queued, ?placed⟩, hs.slotted.congr (fun _ => rfl) (fun _ => id) rfl⟩
  case queued => refine queued.map ?_ ?_ <;> intro x <;> split <;> rfl
  case placed =>
    intro y hy _
    obtain ⟨x, hx, rfl⟩ := List.mem_map.1 hy
    split
    · rename_i hn
      obtain rfl := queued.eq_of_number ht hx hn
      exact ⟨fun _ => (placed x hx nofun).issued (by rw [hi]; rfl), fun h => Bool.noConfusion h⟩
    · exact placed x hx nofun

theorem State.Tied.applyNextTicket (o : Order) : (applyNextTicket s o).1.Tied := by
  unfold Machine.applyNextTicket
  split
  · split
    · rename_i t ht
      exact hs.takeTicket (List.mem_of_find?_eq_some ht) (by simpa using List.find?_some ht)
    · exact hs
  · exact hs

/-- A confirmed ticket's record SHELVED on its OCCUPIED position, and the ticket gone (R171 steps 1 to 3). -/
def State.shelve (s : State) (t : Ticket) : State :=
  let u := s.rehome t.position (fun x => { x with state := .occupied }) t.record fun x =>
    { x with state := .shelved, position := t.position }
  { u with shelf := { u.shelf with tickets := u.shelf.tickets.filter fun x => decide (x.number ≠ t.number) } }

omit hs in
theorem State.confirm_eq (s : State) (t : Ticket) : s.confirm t = (s.shelve t).admitWaiting := rfl

omit hs in
theorem State.shelve_tickets (s : State) (t : Ticket) :
    (s.shelve t).shelf.tickets = s.shelf.tickets.filter fun x => decide (x.number ≠ t.number) :=
  congrArg (List.filter _) (State.rehome_tickets _ _ _ _ _)

omit hs in
theorem State.shelve_reels (s : State) (t : Ticket) : (s.shelve t).reels = s.reels := by
  unfold State.shelve
  dsimp only
  exact State.rehome_reels _ _ _ _ _

omit hs in
theorem State.shelve_waitList (s : State) (t : Ticket) : (s.shelve t).shelf.waitList = s.shelf.waitList := by
  unfold State.shelve
  dsimp only
  exact State.rehome_waitList _ _ _ _ _

theorem State.Tied.shelve {t : Ticket} (ht : t ∈ s.shelf.tickets) (hi : t.state = .taken) : (s.shelve t).Tied := by
  obtain ⟨homed, empty, queued, placed⟩ := hs.stocked
  have home : s.catalogue[t.record].position = t.position := ((placed t ht nofun).issued (by rw [hi]; rfl)).2.symm
  have other : ∀ j : RecordNo, t.record ≠ j → (s.shelve t).catalogue[j] = s.catalogue[j] :=
    fun _ => State.rehome_record_ne _ _ _ _ _
  have state : (s.shelve t).catalogue[t.record].state = .shelved := congrArg Record.state (State.rehome_record_self _ _ _ _ _)
  have left : ∀ x, x ∈ (s.shelve t).shelf.tickets ↔ x ∈ s.shelf.tickets ∧ t.record ≠ x.record := by
    intro x
    rw [State.shelve_tickets, List.mem_filter, decide_eq_true_eq]
    refine and_congr_right fun hx => ⟨fun hn h => hn ?_, fun hr h => hr ?_⟩
    · rw [queued.eq_of_record ht hx h.symm]
    · rw [queued.eq_of_number ht hx h]
  refine State.tied_iff.2 ⟨⟨?homed, fun j hj => ?empty, ⟨?few, ?numbers, ?records, fun x hx => ?pending, fun j hj => ?ticketed⟩,
    fun x hx _ => ?placed⟩, ?slotted⟩
  case homed =>
    have owned : ∀ q, t.position = some q → s.shelf.positions[q].owner = some t.record := fun q hq =>
      hs.owned _ q (home.trans hq)
    exact homed.settle (f := fun x => { x with state := .occupied })
      (g := fun x => { x with state := .shelved, position := t.position }) (.inr home) rfl (fun q hq => .inr (owned q hq))
      fun q hq => ⟨owned q hq, rfl⟩
  case empty =>
    have hne : t.record ≠ j := by
      rintro rfl
      exact nomatch state.symm.trans hj
    rw [other j hne] at hj ⊢
    exact empty j hj
  case few => rw [State.shelve_tickets]; exact (List.length_filter_le _ _).trans queued.few
  case numbers => rw [State.shelve_tickets]; exact queued.numbers.filter _
  case records => rw [State.shelve_tickets]; exact queued.records.filter _
  case pending =>
    obtain ⟨hx, hne⟩ := (left x).1 hx
    rw [other _ hne]
    exact queued.pending x hx
  case ticketed =>
    have hne : t.record ≠ j := by
      rintro rfl
      exact nomatch state.symm.trans hj
    rw [other j hne] at hj
    obtain ⟨x, hx, rfl⟩ := queued.ticketed j hj
    exact ⟨x, (left x).2 ⟨hx, hne⟩, rfl⟩
  case placed =>
    obtain ⟨hx, hne⟩ := (left x).1 hx
    rw [other _ hne]
    exact placed x hx nofun
  case slotted =>
    exact hs.slotted.replace (by rw [queued.pending t ht]; decide) other (s.shelve_reels t) (s.shelve_waitList t)

/-- The oldest slot of the wait list takes a free place of the queue (R169). -/
theorem State.Tied.admitWaiting (room : s.shelf.tickets.length < Config.maxTickets) : s.admitWaiting.Tied := by
  unfold State.admitWaiting
  split
  · exact hs
  · rename_i r rest hw
    have once : (r :: rest).Nodup := hw ▸ hs.waitOnce
    have closed : ∀ k ∈ r :: rest, s.reels[k].state = .closed := hw ▸ hs.waitClosed
    have shorter : ({ s with shelf := { s.shelf with waitList := rest } } : State).Tied :=
      { hs with
        waitClosed := fun k hk => closed k (List.mem_cons_of_mem _ hk)
        waitOnce := (List.nodup_cons.1 once).2 }
    exact shorter.formTicket (closed r List.mem_cons_self) (List.nodup_cons.1 once).1 room

theorem State.Tied.confirm {t : Ticket} (ht : t ∈ s.shelf.tickets) (hi : t.state = .taken) : (s.confirm t).Tied := by
  rw [State.confirm_eq]
  refine (hs.shelve ht hi).admitWaiting ?_
  rw [State.shelve_tickets]
  exact Nat.lt_of_lt_of_le (List.length_filter_lt_length_iff_exists.2 ⟨t, ht, by simp⟩) hs.few

theorem State.Tied.applyConfirmTicket (o : Order) : (applyConfirmTicket s o).1.Tied := by
  refine hs.withArgs fun n => ?_
  unfold State.confirmOrder
  split
  · exact hs
  · rename_i t ht
    split <;> [(rename_i hi; exact hs.confirm (List.mem_of_find?_eq_some ht) hi); exact hs]

omit hs in
/-- The refused position given up, before the ticket's new allocation (R172 step 1). -/
theorem State.Stocked.giveUp (hs : s.Stocked none) {t : Ticket} (ht : t ∈ s.shelf.tickets) {q : PositionNo}
    (hq : s.catalogue[t.record].position = some q) (block : Bool) :
    (s.rehome (some q) (fun x => x.refused block) t.record fun x => { x with position := none }).Stocked (some t.number) := by
  have state : ∀ j : RecordNo, (s.rehome (some q) (fun x => x.refused block) t.record fun x =>
      { x with position := none }).catalogue[j].state = s.catalogue[j].state := by
    intro j
    rw [State.rehome_record]
    split <;> rfl
  have unheld : ∀ x : Position, (x.refused block).state.taken = false := by
    intro x
    cases block <;> rfl
  refine ⟨hs.homed.vacate hq rfl fun k _ => ⟨rfl, unheld _⟩, fun j hj => ?empty, ?queued, ?placed⟩
  case empty =>
    rw [state] at hj
    rw [State.rehome_record]
    split <;> [rfl; exact hs.empty j hj]
  case queued =>
    rw [State.rehome_tickets]
    exact hs.queued.congr fun j => by rw [state]
  case placed =>
    rw [State.rehome_tickets]
    intro x hx ho
    rw [State.rehome_record_ne _ _ _ _ _ fun h => ho (by rw [hs.queued.eq_of_record ht hx h.symm])]
    exact hs.placed x hx nofun

omit hs in
/-- The ticket's new allocation after its refusal (R172 steps 2 and 3). -/
theorem State.refusePosition_eq (s : State) (t : Ticket) (q : PositionNo) (block : Bool) :
    s.refusePosition t q block =
      let u := (s.rehome (some q) (fun x => x.refused block) t.record fun x =>
        { x with position := none }).allocateTicket (some (t.number, q)) t
      if block = false ∧ u.shelf.positions[q].lock = false then u.retryPass (some (t.number, q)) else u := rfl

theorem State.Tied.refusePosition {t : Ticket} (ht : t ∈ s.shelf.tickets) {q : PositionNo}
    (hq : s.catalogue[t.record].position = some q) (block : Bool) : (s.refusePosition t q block).Tied := by
  have given := hs.stocked.giveUp ht hq block
  have frame : s.Shelves (s.rehome (some q) (fun x => x.refused block) t.record fun x => { x with position := none }) :=
    ⟨rfl, rfl, fun j => by rw [State.rehome_record]; split <;> rfl⟩
  have allocated := hs.shelves (frame.trans (.allocateTicket _ (some (t.number, q)) t))
    (given.allocateTicket (fun _ h => (Option.some.inj h).symm) ht (some (t.number, q)))
  rw [State.refusePosition_eq]
  dsimp only
  split <;> [exact allocated.retryPass _; exact allocated]

theorem State.Tied.applyRefuseTicket (o : Order) : (applyRefuseTicket s o).1.Tied := by
  refine hs.withArgs fun a => ?_
  unfold State.refuseOrder
  split
  · exact hs
  · rename_i t ht
    have mem := List.mem_of_find?_eq_some ht
    split
    · rename_i hi
      have named : t.state.named = true := by rw [hi]; rfl
      obtain ⟨some_, same⟩ := hs.issued t mem named
      dsimp only
      split
      · rename_i q hq
        exact hs.refusePosition mem (same.symm.trans hq) a.2
      · rename_i hq
        rw [hq] at some_
        cases some_
    · exact hs

/-! ### The other orders -/

theorem State.Tied.applySetGauge (o : Order) : (applySetGauge s o).1.Tied := by
  unfold Machine.applySetGauge State.gaugeOrder
  split
  · split
    · exact hs
    · exact hs
    · split <;> [exact hs; exact hs.of_same (fun _ => rfl) rfl rfl]
  · exact hs

theorem State.Tied.applySetPoolMarks (o : Order) : (applySetPoolMarks s o).1.Tied := by
  have evaluated : ∀ u : State, u.Steady u.evaluatePacing := by
    intro u
    unfold State.evaluatePacing
    split
    · split <;> [exact (State.Steady.refl u).becomePaced; exact .refl u]
    · split <;> [exact (State.Steady.refl u).becomeOpen; exact .refl u]
  exact hs.withArgs fun a =>
    (((State.Steady.refl s).setPool { s.pool with lowMark := a.1, resumeMark := a.2 }).trans (evaluated _)).tied hs

theorem State.Tied.applySetDefectLimits (o : Order) : (applySetDefectLimits s o).1.Tied := by
  unfold Machine.applySetDefectLimits
  split
  · split <;> [exact hs.of_same (fun _ => rfl) rfl rfl; exact hs]
  · exact hs

theorem State.Tied.applySetRepairLimits (o : Order) : (applySetRepairLimits s o).1.Tied := by
  unfold Machine.applySetRepairLimits
  split
  · split <;> [exact hs.of_same (fun _ => rfl) rfl rfl; exact hs]
  · exact hs

theorem State.Tied.applyLoadProfileCurve (o : Order) : (applyLoadProfileCurve s o).1.Tied := by
  refine hs.withArgs fun a => ?_
  unfold State.loadOrder
  split <;> [exact hs; exact hs.of_same (fun _ => rfl) rfl rfl]

theorem State.Tied.applySetProfileLevels (o : Order) : (applySetProfileLevels s o).1.Tied := by
  refine hs.withArgs fun a => ?_
  unfold State.levelsOrder
  split <;> [exact hs; exact hs.of_same (fun _ => rfl) rfl rfl]

theorem State.Tied.applyWriteLaneMap (o : Order) : (applyWriteLaneMap s o).1.Tied :=
  hs.withArgs fun _ => hs.of_same (fun _ => rfl) rfl rfl

theorem State.Tied.applySetAckWait (o : Order) : (applySetAckWait s o).1.Tied := by
  unfold Machine.applySetAckWait
  split
  · split <;> [exact hs.of_same (fun _ => rfl) rfl rfl; exact hs]
  · exact hs

theorem State.Tied.applySetNoticeLevels (o : Order) : (applySetNoticeLevels s o).1.Tied :=
  hs.withArgs fun _ => hs.of_same (fun _ => rfl) rfl rfl

theorem State.Tied.applySetNoticePort (o : Order) : (applySetNoticePort s o).1.Tied :=
  hs.withArgs fun _ => hs.of_same (fun _ => rfl) rfl rfl

/-- An order that only reads keeps the ties. -/
theorem State.Tied.reads {α : Type} (a : Args α) (words : α → List Word) :
    (s.withArgs a fun x => (s, .done, words x)).1.Tied := hs.withArgs fun _ => hs

theorem State.Tied.applyIdentify (o : Order) : (applyIdentify s o).1.Tied := by
  unfold Machine.applyIdentify
  split <;> exact hs

theorem State.Tied.applySoftReset (o : Order) : (applySoftReset s o).1.Tied := by
  unfold Machine.applySoftReset
  split <;> [exact hs.softReset; exact hs]

end

/-! ### Every step -/

/-- The next state of an outcome, if there is one, is tied. -/
def NextTied (x : Host.Outcome State Fault Refusal) : Prop := ∀ t, x = .next t → t.Tied

section

variable {s : State} (hs : s.Tied)
include hs

theorem State.Tied.next : NextTied (.next s) := by
  rintro t ⟨⟩
  exact hs

theorem State.Tied.finish : NextTied s.finish := ((State.Steady.refl s).handOver.tied hs).next

theorem State.Tied.arrival {t : State} (p : Port) (ht : t.Tied) : NextTied (s.arrival p t) := by
  unfold State.arrival
  split <;> [exact ht.finish; exact hs.next]

/-- A steady event ends in the hand-over of a notice. -/
theorem State.Steady.finish {t : State} (h : s.Steady t) : NextTied t.finish := (h.tied hs).finish

omit hs in
theorem State.Tied.replied (p : Port) (o : Order) {e : OrderEffect} (he : e.1.Tied) : (replied p o e).Tied :=
  ((State.Steady.refl e.1).formReply p _ _ _ _).handOver.tied he

theorem State.Tied.takeOrder {mine : Order → Bool} {apply : State → Order → OrderEffect}
    (happly : ∀ (s : State) (o : Order), s.Tied → (apply s o).1.Tied) : NextTied (s.takeOrder mine apply) := by
  intro t ht
  have popped : ∀ p, (s.popOrder p).Tied := fun p => hs.of_same (fun _ => rfl) rfl rfl
  obtain rfl | ⟨p, o, rfl | rfl⟩ := State.takeOrder_cases ht
  · exact hs
  · exact State.Tied.replied p o (popped p)
  · exact State.Tied.replied p o (happly _ o (popped p))

theorem State.Tied.execOutLine : NextTied (execOutLine s) := by
  unfold Machine.execOutLine
  split
  · exact hs.next
  · split <;> [exact ((State.Steady.refl s).sendLine _ _).finish hs; exact hs.next]

theorem State.Tied.execSendCompletion : NextTied (execSendCompletion s) := by
  unfold Machine.execSendCompletion
  split
  · exact hs.next
  · split <;> [exact ((State.Steady.refl s).completeSend _).finish hs; exact hs.next]

theorem State.Tied.execReplySent (p : Port) : NextTied (execReplySent p s) := by
  unfold Machine.execReplySent
  split
  · split <;> [exact ((State.Steady.refl s).sendMgmt p _).finish hs; exact hs.next]
  · exact hs.next

theorem State.Tied.execNoticeSent : NextTied (execNoticeSent s) := by
  unfold Machine.execNoticeSent
  split
  · exact hs.next
  · split
    · split <;> [exact ((State.Steady.refl s).sendNotice _ _).finish hs; exact hs.next]
    · exact hs.next

theorem State.Tied.execFlowCellSent (k : Head) : NextTied (execFlowCellSent k s) := by
  unfold Machine.execFlowCellSent
  split
  · exact hs.next
  · split <;> [exact (((State.Steady.refl s).modPort _ _).sendCell _ _ _).finish hs; exact hs.next]

theorem State.Tied.execRepairWaitTimerExpiry (b : Buf) : NextTied (execRepairWaitTimerExpiry b s) := by
  unfold Machine.execRepairWaitTimerExpiry
  split <;> [exact ((State.Steady.refl s).requestRepair b none).finish hs; exact hs.next]

theorem State.Tied.execAckTimerExpiry (b : Buf) : NextTied (execAckTimerExpiry b s) := by
  unfold Machine.execAckTimerExpiry
  split <;> [exact ((State.Steady.refl s).ackExpiry b).finish hs; exact hs.next]

theorem State.Tied.execRepairCompletion : NextTied (execRepairCompletion s) := by
  unfold Machine.execRepairCompletion
  split <;> [exact hs.next; exact ((State.Steady.refl s).completeRepair _).finish hs]

theorem State.Tied.execHeadLinkLoss (k : Head) : NextTied (execHeadLinkLoss k s) := by
  unfold Machine.execHeadLinkLoss
  split <;> [exact (hs.loseHeadLink k).finish; exact hs.next]

theorem State.Tied.execHeadLinkUp (k : Head) : NextTied (execHeadLinkUp k s) := by
  unfold Machine.execHeadLinkUp
  split <;> [exact hs.next; exact ((State.Steady.refl s).gainHeadLink k).finish hs]

theorem State.Tied.execStoreLinkLoss : NextTied (execStoreLinkLoss s) := by
  unfold Machine.execStoreLinkLoss
  split <;> [exact (State.Steady.refl s).loseStoreLink.finish hs; exact hs.next]

theorem State.Tied.execStoreLinkUp : NextTied (execStoreLinkUp s) := by
  unfold Machine.execStoreLinkUp
  split <;> [exact hs.next; exact (((State.Steady.refl s).modPort portS _).raise _ _ _ _).finish hs]

/-- The ties hold after every command. -/
theorem State.Tied.exec (c : Instr) : NextTied (exec c s) := by
  cases c with
  | powerOn => exact (State.Tied.powerOn s).next
  | headLinkLoss k => exact hs.execHeadLinkLoss k
  | headLinkUp k => exact hs.execHeadLinkUp k
  | storeLinkLoss => exact hs.execStoreLinkLoss
  | storeLinkUp => exact hs.execStoreLinkUp
  | frameHead k c => exact hs.arrival _ (hs.onFrameHead k c)
  | line k c => exact hs.arrival _ (hs.onLine k c)
  | frameEnd k c => exact hs.arrival _ (hs.onFrameEnd k c)
  | reelEnd k c => exact hs.arrival _ (hs.onReelEnd k c)
  | storeAck c => exact hs.arrival _ (((State.Steady.refl s).onStoreAck c).tied hs)
  | credit c => exact hs.arrival _ (((State.Steady.refl s).onCredit c).tied hs)
  | order p c => exact hs.arrival _ (((State.Steady.refl s).onOrder p c).tied hs)
  | otherKindCell p k c => exact hs.arrival _ (hs.onCell p k c)
  | repairWaitTimerExpiry b => exact hs.execRepairWaitTimerExpiry b
  | ackTimerExpiry b => exact hs.execAckTimerExpiry b
  | repairCompletion => exact hs.execRepairCompletion
  | outLine => exact hs.execOutLine
  | sendCompletion => exact hs.execSendCompletion
  | replySent p => exact hs.execReplySent p
  | noticeSent => exact hs.execNoticeSent
  | flowCellSent k => exact hs.execFlowCellSent k
  | mountReel => exact hs.takeOrder fun _ o h => h.applyMountReel o
  | unmountReelEnd => exact hs.takeOrder fun _ o h => h.applyUnmount o
  | unmountReelAbort => exact hs.takeOrder fun _ o h => h.applyUnmount o
  | holdReel => exact hs.takeOrder fun _ o h => h.applyHoldReel o
  | resumeReel => exact hs.takeOrder fun _ o h => h.applyResumeReel o
  | setReelPolicy => exact hs.takeOrder fun _ o h => h.applySetReelPolicy o
  | readReel => exact hs.takeOrder fun _ _ h => h.reads _ _
  | setGauge => exact hs.takeOrder fun _ o h => h.applySetGauge o
  | readHead => exact hs.takeOrder fun _ _ h => h.reads _ _
  | setPoolMarks => exact hs.takeOrder fun _ o h => h.applySetPoolMarks o
  | readPool => exact hs.takeOrder fun _ _ h => h.reads _ _
  | setDefectLimits => exact hs.takeOrder fun _ o h => h.applySetDefectLimits o
  | setRepairLimits => exact hs.takeOrder fun _ o h => h.applySetRepairLimits o
  | loadProfileCurve => exact hs.takeOrder fun _ o h => h.applyLoadProfileCurve o
  | setProfileLevels => exact hs.takeOrder fun _ o h => h.applySetProfileLevels o
  | readProfile => exact hs.takeOrder fun _ _ h => h.reads _ _
  | setReelGrade => exact hs.takeOrder fun _ o h => h.applySetReelGrade o
  | setCue => exact hs.takeOrder fun _ o h => h.applySetCue o
  | clearCues => exact hs.takeOrder fun _ o h => h.applyClearCues o
  | writeLaneMap => exact hs.takeOrder fun _ o h => h.applyWriteLaneMap o
  | setAckWait => exact hs.takeOrder fun _ o h => h.applySetAckWait o
  | readLanes => exact hs.takeOrder fun _ _ h => h.reads _ _
  | writeCatalogue => exact hs.takeOrder fun _ o h => h.applyWriteCatalogue o
  | eraseCatalogue => exact hs.takeOrder fun _ o h => h.applyEraseCatalogue o
  | readCatalogue => exact hs.takeOrder fun _ _ h => h.reads _ _
  | defineShelves => exact hs.takeOrder fun _ o h => h.applyDefineShelves o
  | shelfLock => exact hs.takeOrder fun _ o h => h.applyShelfLock o
  | shelfUnlock => exact hs.takeOrder fun _ o h => h.applyShelfUnlock o
  | readShelf => exact hs.takeOrder fun _ _ h => h.reads _ _
  | nextTicket => exact hs.takeOrder fun _ o h => h.applyNextTicket o
  | confirmTicket => exact hs.takeOrder fun _ o h => h.applyConfirmTicket o
  | refuseTicket => exact hs.takeOrder fun _ o h => h.applyRefuseTicket o
  | identify => exact hs.takeOrder fun _ o h => h.applyIdentify o
  | softReset => exact hs.takeOrder fun _ o h => h.applySoftReset o
  | setNoticeLevels => exact hs.takeOrder fun _ o h => h.applySetNoticeLevels o
  | setNoticePort => exact hs.takeOrder fun _ o h => h.applySetNoticePort o
  | resetInputLow => exact (hs.of_same (t := { s with resetLow := true }) (fun _ => rfl) rfl rfl).next

theorem State.Tied.step : NextTied (step s) := by
  unfold Machine.step
  split
  · exact hs.next
  · rename_i rest _
    exact State.Tied.exec (s := { s with pending := rest }) (hs.of_same (fun _ => rfl) rfl rfl) _

end

/-- Settles O6: every command keeps the ties, and so does the step that takes it. -/
theorem stepKeepsRecordsTied : Obligations.StepKeepsRecordsTied :=
  fun _ t hs h => hs.step t h

end Sys2Proof.Machine
end

section
/-! PROOFS. WRITE-CATALOGUE and ERASE-CATALOGUE (R147 to R149, R168) (O24). -/

namespace Sys2Proof.Machine

/-! ### The words of WRITE-CATALOGUE (R147) -/

theorem argBase_code (x : Base) : argBase (natWord x.code) = some x := by
  cases x <;> rfl

/-- An account is read back from its six words; the archive number's low word stands first. -/
theorem argAccount_words {a : Account} (hid : a.identity < 2 ^ 48) (hv : a.vinegar ≤ 3) (hp : a.priorScore ≤ 1000) :
    argAccount (natWord (a.identity % 2 ^ 32)) (natWord (a.identity / 2 ^ 32)) (natWord a.base.code) (natWord a.gauge.val)
      (natWord a.vinegar) (natWord a.priorScore) = some a := by
  have low : (natWord (a.identity % 2 ^ 32)).toNat = a.identity % 2 ^ 32 := natWord_toNat (Nat.mod_lt _ (by decide))
  rw [argAccount, argRange_natWord (Nat.zero_le _) (by omega) (by omega), argBase_code, argFin_natWord (by decide),
    argRange_natWord (Nat.zero_le _) hv (by omega), argRange_natWord (Nat.zero_le _) hp (by omega), low]
  exact congrArg (fun n => some (Account.mk n a.base a.gauge a.vinegar a.priorScore)) (Nat.mod_add_div a.identity (2 ^ 32))

/-- A WRITE-CATALOGUE whose words are good leads to the record written. -/
theorem State.Takes.writeCatalogue {s : State} {p : Port} {o : Order} {i : RecordNo} {a : Account} {q : Option PositionNo}
    (hid : a.identity < 2 ^ 48) (hv : a.vinegar ≤ 3) (hp : a.priorScore ≤ 1000)
    (h : s.Takes p o 22 ([natWord i.val, natWord (a.identity % 2 ^ 32), natWord (a.identity / 2 ^ 32), natWord a.base.code,
      natWord a.gauge.val, natWord a.vinegar, natWord a.priorScore] ++ (q.map fun q => natWord q.val).toList)) :
    exec .writeCatalogue s = .next (replied p o ((s.popOrder p).writeRecord i a q)) := by
  refine (h.takeOrder (by decide) (by decide) applyWriteCatalogue).trans ?_
  rw [applyWriteCatalogue, h.args]
  cases q with
  | none =>
    dsimp only [List.cons_append, List.nil_append, Option.map_none, Option.toList_none]
    rw [argFin_natWord (by decide), argAccount_words hid hv hp]
    rfl
  | some q =>
    dsimp only [List.cons_append, List.nil_append, Option.map_some, Option.toList_some]
    rw [argFin_natWord (by decide), argFin_natWord (by decide), argAccount_words hid hv hp]
    rfl

/-! ### What WRITE-CATALOGUE does, by the record's state (R147, R148) -/

section

variable {s : State} {i : RecordNo} {a : Account} {q : Option PositionNo}

/-- A record as WRITE-CATALOGUE creates it (R147). -/
def Account.record (a : Account) (state : RecordState) (q : Option PositionNo) : Record :=
  { ({} : Record).write a with state := state, position := q }

/-- The record that a WRITE-CATALOGUE on an EMPTY one reports is the one it creates. -/
theorem State.writeRecord_open (hi : s.catalogue[i].state = .empty) (hq : s.positionOpen q = true) : s.writeRecord i a q =
    (s.createRecord i a q, .done, recordWords i (a.record (if q.isSome then .shelved else .out) q)) := by
  have created : (s.createRecord i a q).catalogue[i] = a.record (if q.isSome then .shelved else .out) q := by
    rw [State.createRecord_rehome]
    exact State.rehome_record_self _ _ _ _ _
  simp only [State.writeRecord, hi, hq, ↓reduceIte, created]

theorem State.writeRecord_out (hi : s.catalogue[i].state = .empty) : s.writeRecord i a none =
    ({ s with catalogue := s.catalogue.set i (a.record .out none) }, .done, recordWords i (a.record .out none)) :=
  State.writeRecord_open hi rfl

theorem State.writeRecord_shelved {k : PositionNo} (hi : s.catalogue[i].state = .empty)
    (hk : s.shelf.positions[k].state = .free) (hl : s.shelf.positions[k].lock = false) : s.writeRecord i a (some k) =
    ({ s with
        catalogue := s.catalogue.set i (a.record .shelved (some k))
        shelf := { s.shelf with
          positions := s.shelf.positions.set k { s.shelf.positions[k] with state := .occupied, owner := some i } } },
      .done, recordWords i (a.record .shelved (some k))) :=
  State.writeRecord_open hi (State.positionOpen_iff.2 ⟨hk, hl⟩)

theorem State.writeRecord_inUse {k : PositionNo} (hi : s.catalogue[i].state = .empty)
    (hk : s.shelf.positions[k].state ≠ .free ∨ s.shelf.positions[k].lock = true) : s.writeRecord i a (some k) =
    (s, .inUse, recordWords i s.catalogue[i] ++ [natWord s.shelf.positions[k].state.place]) := by
  have shut : s.positionOpen (some k) = false := by
    rw [Bool.eq_false_iff]
    intro h
    obtain ⟨hfree, hlock⟩ := State.positionOpen_iff.1 h
    exact hk.elim (absurd hfree) fun hl => nomatch hl.symm.trans hlock
  simp only [State.writeRecord, hi, shut, Bool.false_eq_true, ↓reduceIte]
  rfl

theorem State.writeRecord_again (hi : s.catalogue[i].state ∈ [.shelved, .out]) : s.writeRecord i a q =
    ({ s with catalogue := s.catalogue.set i (s.catalogue[i].write a) }, .done, recordWords i (s.catalogue[i].write a)) := by
  have written : (s.modRecord i fun x => x.write a).catalogue[i] = s.catalogue[i].write a :=
    (modEntry_get _ _ _ _).trans (if_pos rfl)
  unfold State.writeRecord
  split
  case h_2 | h_3 =>
    dsimp only
    rw [written]
    rfl
  all_goals simp_all

theorem State.writeRecord_wrongState (hi : s.catalogue[i].state ∈ [.onHead, .pendingShelf]) :
    s.writeRecord i a q = (s, .wrongState, s.refusedRecordWords i q) := by
  unfold State.writeRecord
  split
  case h_4 | h_5 => rfl
  all_goals simp_all

/-! ### What ERASE-CATALOGUE does, by the record's state (R149) -/

theorem State.eraseOrder_done (hi : s.catalogue[i].state ∈ [.shelved, .out]) : s.eraseOrder i =
    (s.eraseRecord i, .done, optionWords (s.catalogue[i].position.map fun q => natWord q.val)) := by
  unfold State.eraseOrder
  split
  case h_1 | h_2 => rfl
  all_goals simp_all

theorem State.eraseRecord_none (hn : s.catalogue[i].position = none) :
    s.eraseRecord i = { s with catalogue := s.catalogue.set i {} } := by
  simp only [State.eraseRecord, hn]
  rfl

theorem State.eraseRecord_some {q : PositionNo} (hq : s.catalogue[i].position = some q) :
    let t : State := { s with
      catalogue := s.catalogue.set i {}
      shelf := { s.shelf with
        positions := s.shelf.positions.set q { s.shelf.positions[q] with state := .free, owner := none } } }
    s.eraseRecord i = if s.shelf.positions[q].lock then t else t.retryPass none := by
  have lock : ((s.modPosition q Position.freed).modRecord i fun _ => {}).shelf.positions[q].lock = s.shelf.positions[q].lock :=
    congrArg Position.lock (a₂ := s.shelf.positions[q].freed) ((modEntry_get _ _ _ _).trans (if_pos rfl))
  simp only [State.eraseRecord, hq, lock]
  rfl

theorem State.eraseOrder_wrongState (hi : s.catalogue[i].state ∈ [.empty, .onHead, .pendingShelf]) :
    s.eraseOrder i = (s, .wrongState, []) := by
  unfold State.eraseOrder
  split
  case h_3 | h_4 | h_5 => rfl
  all_goals simp_all

end

/-- Settles O24: each order on the record's state and the position it names. -/
theorem catalogueOrdersPairRecordsAndPositions : Obligations.CatalogueOrdersPairRecordsAndPositions := by
  refine ⟨fun s p o i a q hid hv hp ht => ?write, fun s p o i ht => ?erase⟩
  case write =>
    have taken := ht.writeCatalogue hid hv hp
    have answer : ∀ {e}, (s.popOrder p).writeRecord i a q = e → exec .writeCatalogue s = .next (replied p o e) :=
      fun he => he ▸ taken
    refine ⟨fun hi hq => ?out, fun k hi hq hk hl => ?shelved, fun k hi hq hk => ?inUse, fun hi => ?again, fun hi => ?wrongState⟩
    case out =>
      subst hq
      exact answer (State.writeRecord_out (s := s.popOrder p) hi)
    case shelved =>
      subst hq
      exact answer (State.writeRecord_shelved (s := s.popOrder p) hi hk hl)
    case inUse =>
      subst hq
      exact answer (State.writeRecord_inUse (s := s.popOrder p) hi hk)
    case again => exact answer (State.writeRecord_again (s := s.popOrder p) hi)
    case wrongState => exact ⟨_, answer (State.writeRecord_wrongState (s := s.popOrder p) hi)⟩
  case erase =>
    have taken : exec .eraseCatalogue s = .next (replied p o ((s.popOrder p).eraseOrder i)) :=
      ht.withArgs (by decide) (by decide) (recordArgs_word i) fun s _ => s.eraseOrder
    refine ⟨fun hi hn => ?out, fun q hi hq => ?placed, fun hi => ?wrongState⟩
    case out =>
      rw [taken, State.eraseOrder_done (s := s.popOrder p) hi, State.eraseRecord_none (s := s.popOrder p) hn,
        State.popOrder_catalogue, hn]
      rfl
    case placed =>
      rw [taken, State.eraseOrder_done (s := s.popOrder p) hi, State.eraseRecord_some (s := s.popOrder p) hq,
        State.popOrder_catalogue, hq]
      rfl
    case wrongState => rw [taken, State.eraseOrder_wrongState (s := s.popOrder p) hi]

end Sys2Proof.Machine
end

section
/-! PROOFS. The search of an allocation: the home, the class, then the colder classes (R166) (O59). -/

namespace Sys2Proof.Machine

/-! ### What each part of the search takes -/

/-- A home that an allocation for a class reuses (R166 step 1). -/
def HomeFits (ps : Vector Position 1024) (excluded home : Option PositionNo) (c : VaultClass) (h : PositionNo) : Prop :=
  home = some h ∧ ps[h].cls = some c ∧ ps[h].lock = false ∧ excluded ≠ some h

/-- A position that the search of a class may take: of that class, FREE, unlocked and not excluded (R166). -/
def Fits (ps : Vector Position 1024) (excluded : Option PositionNo) (d : VaultClass) (q : PositionNo) : Prop :=
  ps[q].cls = some d ∧ ps[q].state = .free ∧ ps[q].lock = false ∧ excluded ≠ some q

section

variable {ps : Vector Position 1024} {excluded home : Option PositionNo} {c d : VaultClass} {q : PositionNo}

theorem homeFilter_eq_some_iff : home.filter (homeUsable ps excluded c) = some q ↔ HomeFits ps excluded home c q := by
  simp [Option.filter_eq_some_iff, homeUsable, HomeFits]

/-- The test that the search of a class makes of each position, as `Fits`. -/
theorem fits_iff :
    decide (ps[q].cls = some d ∧ ps[q].state = .free ∧ ps[q].lock = false ∧ excluded.map Fin.val ≠ some q.val) = true ↔
      Fits ps excluded d q := by
  have number : excluded.map Fin.val = some q.val ↔ excluded = some q := by
    cases excluded with
    | none => simp
    | some k => simp [Fin.ext_iff]
  rw [decide_eq_true_eq, Fits, ne_eq, number]

theorem firstFreeOfClass_some (h : firstFreeOfClass ps excluded d = some q) : Fits ps excluded d q :=
  fits_iff.1 (firstEntry_some h).1

theorem firstFreeOfClass_eq_some (hq : Fits ps excluded d q) (hl : ∀ k < q, ¬ Fits ps excluded d k) :
    firstFreeOfClass ps excluded d = some q :=
  firstEntry_eq_some (fits_iff.2 hq) fun k hk => Bool.eq_false_iff.2 (mt fits_iff.1 (hl k hk))

theorem firstFreeOfClass_eq_none (h : ∀ k, ¬ Fits ps excluded d k) : firstFreeOfClass ps excluded d = none :=
  Option.eq_none_iff_forall_ne_some.2 fun k hk => h k (firstFreeOfClass_some hk)

/-! ### The search as a whole -/

theorem allocate_of_homeFits (hq : HomeFits ps excluded home c q) : allocate ps excluded c home = some q := by
  rw [allocate, homeFilter_eq_some_iff.2 hq]

theorem allocate_of_not_homeFits (h : ∀ k, ¬ HomeFits ps excluded home c k) :
    allocate ps excluded c home = (c :: c.spill).findSome? (firstFreeOfClass ps excluded) := by
  have away : home.filter (homeUsable ps excluded c) = none :=
    Option.eq_none_iff_forall_ne_some.2 fun k hk => h k (homeFilter_eq_some_iff.1 hk)
  rw [allocate, away]

/-- An allocation finds an unlocked position that is not excluded, of the ticket's class or of one it spills to. -/
theorem allocate_some (hq : allocate ps excluded c home = some q) :
    (∃ d ∈ c :: c.spill, ps[q].cls = some d) ∧ ps[q].lock = false ∧ excluded ≠ some q := by
  unfold allocate at hq
  split at hq
  · rename_i h hh
    cases hq
    obtain ⟨-, hcls, hlock, hexcluded⟩ := homeFilter_eq_some_iff.1 hh
    exact ⟨⟨c, List.mem_cons_self, hcls⟩, hlock, hexcluded⟩
  · obtain ⟨d, hd, hfound⟩ := List.exists_of_findSome?_eq_some hq
    obtain ⟨hcls, -, hlock, hexcluded⟩ := firstFreeOfClass_some hfound
    exact ⟨⟨d, hd, hcls⟩, hlock, hexcluded⟩

/-- No class spills to class D, and class D spills to none. -/
theorem VaultClass.classD_iff_of_mem (h : d ∈ c :: c.spill) : d = .classD ↔ c = .classD := by
  revert h
  cases c <;> cases d <;> decide

end

/-- Settles O59: the home when it fits, and otherwise the first of the class and its colder classes that has a position. -/
theorem allocationSearchesHomeThenColderClasses : Obligations.AllocationSearchesHomeThenColderClasses := by
  intro ps excluded home c homeFits fits lowest found
  have first : ∀ {d q}, lowest d q → firstFreeOfClass ps excluded d = some q := fun h => firstFreeOfClass_eq_some h.1 h.2
  have none_ : ∀ {d}, (∀ q, ¬ fits d q) → firstFreeOfClass ps excluded d = none := firstFreeOfClass_eq_none
  refine ⟨fun h => allocate_of_homeFits, fun away => ?search, fun q hq => ?classD⟩
  case search =>
    have search : found = (c :: c.spill).findSome? (firstFreeOfClass ps excluded) := allocate_of_not_homeFits away
    refine ⟨fun q hq => ?own, fun hc => ⟨?aToB, ?aToC, ?aNone, ?bToC, ?bNone, ?others⟩⟩
    case own => rw [search, List.findSome?_cons, first hq]
    all_goals rw [List.findSome?_cons, none_ hc] at search
    case aToB =>
      rintro rfl q hq
      rw [search, VaultClass.spill, List.findSome?_cons, first hq]
    case aToC =>
      rintro rfl hb q hq
      rw [search, VaultClass.spill, List.findSome?_cons, none_ hb, List.findSome?_cons, first hq]
    case aNone =>
      rintro rfl hb hcold
      rw [search, VaultClass.spill, List.findSome?_cons, none_ hb, List.findSome?_cons, none_ hcold, List.findSome?_nil]
    case bToC =>
      rintro rfl q hq
      rw [search, VaultClass.spill, List.findSome?_cons, first hq]
    case bNone =>
      rintro rfl hcold
      rw [search, VaultClass.spill, List.findSome?_cons, none_ hcold, List.findSome?_nil]
    case others =>
      rintro (rfl | rfl) <;> exact search
  case classD =>
    obtain ⟨⟨d, hd, hcls⟩, -, -⟩ := allocate_some hq
    rw [hcls, Option.some.injEq]
    exact VaultClass.classD_iff_of_mem hd

end Sys2Proof.Machine
end

section
/-! PROOFS. The retry passes of an event: what they keep, whom they serve and where they end (R167, R168) (O60). -/

namespace Sys2Proof.Machine

/-! ### What issues and passes keep -/

/-- What a ticket keeps for as long as it is in the queue (R164). -/
def Ticket.tag (x : Ticket) : BitVec 16 × RecordNo × VaultClass := (x.number, x.record, x.cls)

/-- A ticket ISSUED with a position (R167). -/
def Ticket.issuedAt (x : Ticket) (q : PositionNo) : Ticket := { x with state := .issued, position := some q }

/-- The state `s` with what an allocation's outcome may change taken from `t`. -/
def State.servedAs (s t : State) : State :=
  { s with
    catalogue := t.catalogue
    shelf := { s.shelf with positions := t.shelf.positions, tickets := t.shelf.tickets }
    notices := { s.notices with waiting := t.notices.waiting } }

/-- The outcomes of allocations lead from `s` to `t`: the tickets keep their places, numbers, records and classes, and the
positions their classes and locks (R167). -/
structure State.Reshelves (s t : State) : Prop where
  tags : t.shelf.tickets.map Ticket.tag = s.shelf.tickets.map Ticket.tag
  cls : ∀ k : PositionNo, t.shelf.positions[k].cls = s.shelf.positions[k].cls
  lock : ∀ k : PositionNo, t.shelf.positions[k].lock = s.shelf.positions[k].lock
  rest : t = s.servedAs t

theorem State.Reshelves.refl (s : State) : s.Reshelves s := ⟨rfl, fun _ => rfl, fun _ => rfl, rfl⟩

theorem State.Reshelves.trans {s t u : State} (h : s.Reshelves t) (h' : t.Reshelves u) : s.Reshelves u where
  tags := h'.tags.trans h.tags
  cls k := (h'.cls k).trans (h.cls k)
  lock k := (h'.lock k).trans (h.lock k)
  rest :=
    calc u = t.servedAs u := h'.rest
      _ = (s.servedAs t).servedAs u := congrArg (State.servedAs · u) h.rest
      _ = s.servedAs u := rfl

/-- A change of the ticket of one number that keeps what a ticket keeps. -/
theorem State.modTicket_tags (s : State) (n : BitVec 16) {f : Ticket → Ticket} (hf : ∀ x, (f x).tag = x.tag) :
    (s.modTicket n f).shelf.tickets.map Ticket.tag = s.shelf.tickets.map Ticket.tag := by
  refine List.map_map.trans (List.map_congr_left fun x _ => ?_)
  dsimp only [Function.comp_apply]
  split <;> [exact hf x; rfl]

theorem State.Reshelves.leaveWaiting (s : State) (t : Ticket) : s.Reshelves (s.leaveWaiting t) :=
  ⟨s.modTicket_tags t.number fun _ => rfl, fun _ => rfl, fun _ => rfl, rfl⟩

theorem State.Reshelves.issueTicket (s : State) (t : Ticket) (q : PositionNo) : s.Reshelves (s.issueTicket t q) where
  tags := (congrArg (List.map Ticket.tag) (s.issueTicket_tickets t q)).trans (s.modTicket_tags t.number fun _ => rfl)
  cls k := by
    rw [State.issueTicket_position]
    split <;> [rfl; (split <;> rfl)]
  lock k := by
    rw [State.issueTicket_position]
    split <;> [rfl; (split <;> rfl)]
  rest := by
    obtain ⟨ps, hps, -⟩ := s.leaveHome_eq t q
    rw [State.issueTicket_eq, hps]
    rfl

theorem State.Reshelves.retryPasses (excl : Option (BitVec 16 × PositionNo)) (n : Nat) (s : State) :
    s.Reshelves (retryPasses excl n s) := by
  induction n generalizing s with
  | zero => exact .refl s
  | succ n ih =>
    unfold Machine.retryPasses
    split <;> [exact .refl s; exact (State.Reshelves.issueTicket s _ _).trans (ih _)]

theorem State.Reshelves.retryPass (s : State) (excl : Option (BitVec 16 × PositionNo)) : s.Reshelves (s.retryPass excl) :=
  .retryPasses excl _ s

theorem State.Reshelves.allocateTicket (s : State) (excl : Option (BitVec 16 × PositionNo)) (t : Ticket) :
    s.Reshelves (s.allocateTicket excl t) := by
  unfold State.allocateTicket
  split
  · exact .leaveWaiting s t
  · split
    · exact (State.Reshelves.issueTicket s _ _).trans (.retryPass _ _)
    · exact .issueTicket s _ _

/-! ### Tickets by their numbers (R164) -/

/-- No two tickets of the queue carry one number. -/
def State.Numbered (s : State) : Prop := s.shelf.tickets.Pairwise fun a b => a.number ≠ b.number

section

variable {s t : State}

theorem State.Reshelves.numbered (h : s.Reshelves t) (hs : s.Numbered) : t.Numbered := by
  have tags : ∀ u : State, u.Numbered ↔ (u.shelf.tickets.map Ticket.tag).Pairwise fun a b => a.1 ≠ b.1 := fun u =>
    (List.pairwise_map (f := Ticket.tag) (R := fun a b => a.1 ≠ b.1)).symm
  rw [tags, h.tags]
  exact (tags s).1 hs

theorem State.Numbered.eq_of_number (hs : s.Numbered) {x y : Ticket} (hx : x ∈ s.shelf.tickets) (hy : y ∈ s.shelf.tickets)
    (hn : x.number = y.number) : x = y :=
  List.inj_on_of_nodup_map (List.pairwise_map.2 hs) hx hy hn

/-- An issued ticket stands in the queue with its position. -/
theorem State.issuedAt_mem_issueTicket {x : Ticket} (hx : x ∈ s.shelf.tickets) (q : PositionNo) :
    x.issuedAt q ∈ (s.issueTicket x q).shelf.tickets := by
  rw [State.issueTicket_tickets]
  exact List.mem_map.2 ⟨x, hx, if_pos rfl⟩

/-- The issue of a ticket leaves the tickets of other numbers alone. -/
theorem State.mem_issueTicket_of_ne {x y : Ticket} (hy : y ∈ s.shelf.tickets) (hn : y.number ≠ x.number) (q : PositionNo) :
    y ∈ (s.issueTicket x q).shelf.tickets := by
  rw [State.issueTicket_tickets]
  exact List.mem_map.2 ⟨y, hy, if_neg hn⟩

/-! ### The ticket a pass issues (R168) -/

variable {excl : Option (BitVec 16 × PositionNo)} {x : Ticket} {q : PositionNo}

theorem State.nextIssue_eq_none_iff : s.nextIssue excl = none ↔
    ∀ x ∈ s.shelf.tickets, x.state = .awaitingSpace → s.allocateFor excl x = none := by
  simp [State.nextIssue, List.findSome?_eq_none_iff]

theorem State.nextIssue_waiting (h : s.nextIssue excl = some (x, q)) : x.state = .awaitingSpace := by
  obtain ⟨y, -, hy⟩ := List.exists_of_findSome?_eq_some h
  split at hy
  · rename_i waiting
    obtain ⟨k, -, he⟩ := Option.map_eq_some_iff.1 hy
    cases he
    exact waiting
  · cases hy

/-- The oldest waiting ticket that finds a position is the next one issued. -/
theorem State.nextIssue_oldest {older younger : List Ticket} (hs : s.shelf.tickets = older ++ x :: younger)
    (holder : ∀ y ∈ older, y.state = .awaitingSpace → s.allocateFor excl y = none) (hx : x.state = .awaitingSpace)
    (hq : s.allocateFor excl x = some q) : s.nextIssue excl = some (x, q) := by
  have passed : (older.findSome? fun y =>
      if y.state = .awaitingSpace then (s.allocateFor excl y).map fun k => (y, k) else none) = none := by
    simpa [List.findSome?_eq_none_iff] using holder
  rw [State.nextIssue, hs, List.findSome?_append, passed, Option.none_or, List.findSome?_cons, if_pos hx, hq]
  rfl

theorem retryPasses_of_none (h : s.nextIssue excl = none) (n : Nat) : retryPasses excl n s = s := by
  cases n with
  | zero => rfl
  | succ n => rw [retryPasses, h]

theorem retryPasses_of_some (h : s.nextIssue excl = some (x, q)) (n : Nat) :
    retryPasses excl (n + 1) s = retryPasses excl n (s.issueTicket x q) := by
  rw [retryPasses, h]

/-! ### Where the passes end -/

/-- The number of tickets in AWAITING_SPACE. -/
def State.waitingCount (s : State) : Nat := s.shelf.tickets.countP fun x => decide (x.state = .awaitingSpace)

/-- Each issue leaves fewer tickets that wait. -/
theorem State.waitingCount_issueTicket (hx : x ∈ s.shelf.tickets) (waiting : x.state = .awaitingSpace) (q : PositionNo) :
    (s.issueTicket x q).waitingCount < s.waitingCount := by
  obtain ⟨older, younger, hs⟩ := List.append_of_mem hx
  have fewer : ∀ l : List Ticket, (l.map fun y => if y.number = x.number then y.issuedAt q else y).countP
      (fun y => decide (y.state = .awaitingSpace)) ≤ l.countP fun y => decide (y.state = .awaitingSpace) := by
    intro l
    rw [List.countP_map]
    refine List.countP_mono_left fun y _ hy => ?_
    dsimp only [Function.comp_apply] at hy
    split at hy <;> [cases hy; exact hy]
  have before := fewer older
  have behind := fewer younger
  have issued : (s.issueTicket x q).shelf.tickets =
      s.shelf.tickets.map fun y => if y.number = x.number then y.issuedAt q else y := s.issueTicket_tickets x q
  have self : decide ((x.issuedAt q).state = .awaitingSpace) = false := rfl
  rw [State.waitingCount, State.waitingCount, issued, hs, List.map_append, List.map_cons, if_pos rfl, List.countP_append,
    List.countP_append, List.countP_cons, List.countP_cons, self]
  simp only [waiting, decide_true, if_true, Bool.false_eq_true, if_false]
  omega

/-- With room for every ticket that waits, the passes end when none of them finds a position. -/
theorem nextIssue_retryPasses {n : Nat} (hn : s.waitingCount ≤ n) : (retryPasses excl n s).nextIssue excl = none := by
  induction n generalizing s with
  | zero =>
    rw [retryPasses, State.nextIssue_eq_none_iff]
    intro x hx waiting
    exact absurd (decide_eq_true waiting) (List.countP_eq_zero.1 (Nat.le_zero.1 hn) x hx)
  | succ n ih =>
    cases h : s.nextIssue excl with
    | none => rwa [retryPasses_of_none h]
    | some e =>
      obtain ⟨x, q⟩ := e
      rw [retryPasses_of_some h]
      have := State.waitingCount_issueTicket (State.nextIssue_some h).1 (State.nextIssue_waiting h) q
      exact ih (by omega)

theorem State.nextIssue_retryPass : (s.retryPass excl).nextIssue excl = none :=
  nextIssue_retryPasses List.countP_le_length

/-! ### What becomes of one ticket -/

/-- The position an allocation finds for a ticket is not the one excluded for it. -/
theorem State.allocateFor_not_excluded (h : s.allocateFor excl x = some q) : excludedFor excl x ≠ some q :=
  (allocate_some h).2.2

/-- Passes leave a ticket as it was, or issue it, when it waits, with a position not excluded for it. -/
theorem retryPasses_ticket (n : Nat) (hs : s.Numbered) (hx : x ∈ s.shelf.tickets) :
    x ∈ (retryPasses excl n s).shelf.tickets ∨ x.state = .awaitingSpace ∧
      ∃ k, excludedFor excl x ≠ some k ∧ x.issuedAt k ∈ (retryPasses excl n s).shelf.tickets := by
  induction n generalizing s x with
  | zero => exact .inl hx
  | succ n ih =>
    cases h : s.nextIssue excl with
    | none => exact .inl (by rwa [retryPasses_of_none h])
    | some e =>
      obtain ⟨y, q⟩ := e
      obtain ⟨hy, hq⟩ := State.nextIssue_some h
      have numbered := (State.Reshelves.issueTicket s y q).numbered hs
      rw [retryPasses_of_some h]
      by_cases hn : x.number = y.number
      · obtain rfl := hs.eq_of_number hx hy hn
        refine .inr ⟨State.nextIssue_waiting h, q, State.allocateFor_not_excluded hq, ?_⟩
        exact (ih numbered (State.issuedAt_mem_issueTicket hx q)).resolve_right fun again => nomatch again.1
      · exact ih numbered (State.mem_issueTicket_of_ne hx hn q)

/-- Passes leave a ticket that is not waiting alone. -/
theorem mem_retryPasses (n : Nat) (hs : s.Numbered) (hx : x ∈ s.shelf.tickets) (h : x.state ≠ .awaitingSpace) :
    x ∈ (retryPasses excl n s).shelf.tickets :=
  (retryPasses_ticket n hs hx).resolve_right fun again => h again.1

end

/-- Settles O60: each turn issues the oldest ticket that finds a position, and the turns are no more than the tickets. -/
theorem retryPassesServeTheOldestFirst : Obligations.RetryPassesServeTheOldestFirst := by
  intro s excl hs
  have kept := State.Reshelves.retryPass s excl
  refine ⟨State.nextIssue_eq_none_iff.1 State.nextIssue_retryPass, fun older x younger q hsplit holder hx hq => ?oldest,
    kept.tags, fun x hx h => mem_retryPasses _ hs hx h, fun h => ?idle, kept.rest⟩
  case oldest =>
    have next := State.nextIssue_oldest hsplit holder hx hq
    have mem := (State.nextIssue_some next).1
    obtain ⟨n, hn⟩ := Nat.exists_eq_add_one_of_ne_zero (List.length_pos_of_mem mem).ne'
    rw [State.retryPass, hn, retryPasses_of_some next]
    exact mem_retryPasses n ((State.Reshelves.issueTicket s x q).numbered hs) (State.issuedAt_mem_issueTicket mem q) nofun
  case idle => exact retryPasses_of_none (State.nextIssue_eq_none_iff.2 fun x hx waiting => absurd waiting (h x hx)) _

end Sys2Proof.Machine
end

section
/-! PROOFS. The formation of a ticket: its number, its allocation, and the outcome of an allocation (R164, R165, R167) (O58). -/

namespace Sys2Proof.Machine

/-! ### The number a ticket takes (R164) -/

/-- The search looks past used numbers only. -/
theorem unusedNumber_passes (used : List (BitVec 16)) (m : Nat) (n : BitVec 16) :
    ∃ k ≤ m, unusedNumber used m n = n + BitVec.ofNat 16 k ∧ ∀ j < k, n + BitVec.ofNat 16 j ∈ used := by
  induction m generalizing n with
  | zero => exact ⟨0, le_rfl, by simp [unusedNumber], nofun⟩
  | succ m ih =>
    by_cases hn : n ∈ used
    · obtain ⟨k, hk, hfound, hpassed⟩ := ih (n + 1)
      have next : ∀ j, n + BitVec.ofNat 16 (j + 1) = n + 1 + BitVec.ofNat 16 j := by
        intro j
        rw [Nat.add_comm j 1, ← BitVec.ofNat_add_ofNat, BitVec.add_assoc]
        rfl
      refine ⟨k + 1, Nat.succ_le_succ hk, ?_, fun j hj => ?_⟩
      · rw [unusedNumber, if_pos hn, hfound, next]
      · cases j with
        | zero => simpa using hn
        | succ j => exact next j ▸ hpassed j (Nat.lt_of_succ_lt_succ hj)
    · exact ⟨0, Nat.zero_le _, by simp [unusedNumber, hn], nofun⟩

/-! ### The reel slots in an allocation -/

section

variable {s : State} {r : Slot} {f : Reel → Reel}

theorem State.issueTicket_modReel (t : Ticket) (q : PositionNo) :
    (s.modReel r f).issueTicket t q = (s.issueTicket t q).modReel r f := by
  have home : (s.modReel r f).leaveHome t q = (s.leaveHome t q).modReel r f := by
    unfold State.leaveHome
    cases h : s.catalogue[t.record].position with
    | none => simp only [State.modReel, h]
    | some k =>
      simp only [State.modReel, h]
      split <;> rfl
  rw [State.issueTicket_eq, State.issueTicket_eq, home]
  rfl

theorem retryPasses_modReel (excl : Option (BitVec 16 × PositionNo)) (n : Nat) :
    retryPasses excl n (s.modReel r f) = (retryPasses excl n s).modReel r f := by
  induction n generalizing s with
  | zero => rfl
  | succ n ih =>
    have same : (s.modReel r f).nextIssue excl = s.nextIssue excl := rfl
    cases h : s.nextIssue excl with
    | none => rw [retryPasses_of_none h, retryPasses_of_none (same.trans h)]
    | some e =>
      obtain ⟨x, q⟩ := e
      rw [retryPasses_of_some h, retryPasses_of_some (same.trans h), State.issueTicket_modReel, ih]

theorem State.retryPass_modReel (excl : Option (BitVec 16 × PositionNo)) :
    (s.modReel r f).retryPass excl = (s.retryPass excl).modReel r f := retryPasses_modReel excl _

theorem State.allocateTicket_modReel (excl : Option (BitVec 16 × PositionNo)) (t : Ticket) :
    (s.modReel r f).allocateTicket excl t = (s.allocateTicket excl t).modReel r f := by
  have same : (s.modReel r f).allocateFor excl t = s.allocateFor excl t := rfl
  have home : ∀ q, (s.modReel r f).freesHome t q = s.freesHome t q := fun _ => rfl
  unfold State.allocateTicket
  rw [same]
  cases s.allocateFor excl t with
  | none => rfl
  | some q =>
    dsimp only
    rw [home, State.issueTicket_modReel, State.retryPass_modReel]
    split <;> rfl

end

/-! ### The cases of an allocation (R165) -/

section

variable {s : State} {excl : Option (BitVec 16 × PositionNo)} {t : Ticket} {q : PositionNo}

theorem State.freesHome_iff : s.freesHome t q = true ↔ ∃ k, s.catalogue[t.record].position = some k ∧ k ≠ q := by
  unfold State.freesHome
  cases s.catalogue[t.record].position <;> simp

theorem State.allocateTicket_of_none (h : s.allocateFor excl t = none) : s.allocateTicket excl t = s.leaveWaiting t := by
  rw [State.allocateTicket, h]

theorem State.allocateTicket_frees (h : s.allocateFor excl t = some q)
    (hhome : ∃ k, s.catalogue[t.record].position = some k ∧ k ≠ q) :
    s.allocateTicket excl t = (s.issueTicket t q).retryPass excl := by
  rw [State.allocateTicket, h]
  exact if_pos (State.freesHome_iff.2 hhome)

theorem State.allocateTicket_keeps (h : s.allocateFor excl t = some q)
    (hhome : ∀ k, s.catalogue[t.record].position = some k → k = q) : s.allocateTicket excl t = s.issueTicket t q := by
  rw [State.allocateTicket, h]
  exact if_neg fun hf =>
    let ⟨k, hk, hne⟩ := State.freesHome_iff.1 hf
    hne (hhome k hk)

end

/-- The outcome of an allocation that found a position (R167). -/
theorem State.issueTicket_outcome (s : State) (t : Ticket) (q : PositionNo) : ∃ positions : Vector Position 1024,
    s.issueTicket t q = ({ s with
      catalogue := s.catalogue.set t.record { s.catalogue[t.record] with position := some q }
      shelf := { s.shelf with
        positions := positions
        tickets := s.shelf.tickets.map fun y =>
          if y.number = t.number then { y with state := .issued, position := some q } else y } } : State).raise
          .ticketIssued 0 (some t.record) t.number.toNat ∧
    ∀ k : PositionNo, positions[k] =
      if k = q then { s.shelf.positions[k] with state := .reserved, owner := some t.record }
      else if s.catalogue[t.record].position = some k then { s.shelf.positions[k] with state := .free, owner := none }
      else s.shelf.positions[k] := by
  refine ⟨(s.issueTicket t q).shelf.positions, ?_, fun k => ?_⟩
  · obtain ⟨ps, hps, -⟩ := s.leaveHome_eq t q
    rw [State.issueTicket_eq, hps]
    rfl
  · rw [State.issueTicket_position]
    simp only [eq_comm (a := k) (b := q)]
    rfl

/-! ### The formation as a whole (R164, R165) -/

section

variable {s : State}

/-- The first free number is at most as many steps on as there are tickets (R164). -/
theorem Shelf.takeNumber_first {m : Shelf} (room : m.tickets.length ≤ Config.maxTickets) :
    ∃ k ≤ m.tickets.length, m.takeNumber = m.nextNumber + BitVec.ofNat 16 k ∧
      m.takeNumber ∉ m.tickets.map Ticket.number ∧
      ∀ j < k, m.nextNumber + BitVec.ofNat 16 j ∈ m.tickets.map Ticket.number := by
  obtain ⟨k, hk, hn, passed⟩ := unusedNumber_passes (m.tickets.map Ticket.number) m.tickets.length m.nextNumber
  refine ⟨k, hk, hn, fun used => ?_, passed⟩
  obtain ⟨y, hy, he⟩ := List.mem_map.1 used
  exact Shelf.takeNumber_fresh room y hy he

theorem State.newTicket_eq {r : Slot} {c : VaultClass} (hc : s.catalogue[s.reels[r].record].lastClass = some c) :
    s.newTicket r = ⟨s.shelf.takeNumber, s.reels[r].record, c, none, .awaitingSpace⟩ := by
  rw [State.newTicket, hc]
  rfl

/-- The allocation of a formation may run with the slot FREE already: it does not read the slots. -/
theorem State.formTicket_allocates (r : Slot) :
    s.formTicket r = ((s.joinQueue r).modReel r fun x => { x with state := .free }).allocateTicket none (s.newTicket r) :=
  (State.allocateTicket_modReel none (s.newTicket r)).symm

theorem State.formTicket_reels (r : Slot) :
    (s.formTicket r).reels = s.reels.set r { s.reels[r] with state := .free } := by
  have frame := State.Shelves.allocateTicket (s.joinQueue r) none (s.newTicket r)
  exact congrArg (modEntry · r fun x : Reel => { x with state := .free }) frame.reels

end

/-- Settles O58: the ticket's number, the queue it joins, and the cases of its allocation. -/
theorem formedTicketTakesTheNextFreeNumber : Obligations.FormedTicketTakesTheNextFreeNumber := by
  refine ⟨fun s r c room _ hc => ?formation, fun s x => ⟨rfl, s.issueTicket_outcome x⟩⟩
  case formation =>
    intro t used i
    have few : s.shelf.tickets.length ≤ 15 := Nat.le_of_lt_succ room
    obtain ⟨k, hk, hn, unused, passed⟩ := Shelf.takeNumber_first (m := s.shelf) (few.trans (by decide))
    have ticket := State.newTicket_eq hc
    have kept := State.Reshelves.allocateTicket (s.joinQueue r) none (s.newTicket r)
    have frame := State.Shelves.allocateTicket (s.joinQueue r) none (s.newTicket r)
    have nextNumber := congrArg (·.shelf.nextNumber) kept.rest
    have pending : (s.joinQueue r).catalogue[i].state = .pendingShelf := by rw [State.joinQueue_get, if_pos rfl]
    have reels : t.reels = s.reels.set r { s.reels[r] with state := .free } := State.formTicket_reels r
    refine ⟨s.shelf.takeNumber, k, ?tags, hn, unused, hk.trans few, passed, nextNumber, frame.waitList,
      (frame.states i).trans pending, reels, ?allocation⟩
    case tags =>
      refine kept.tags.trans ?_
      rw [State.joinQueue_tickets, List.map_append, ticket]
      rfl
    case allocation =>
      intro x home u
      have joined : ((s.joinQueue r).modReel r fun y => { y with state := .free }) = u := by
        calc ((s.joinQueue r).modReel r fun y => { y with state := .free })
            = { u with reels := s.reels.set r { s.reels[r] with state := .free } } := by rw [State.joinQueue, ticket]; rfl
          _ = u := congrArg (fun v => { u with reels := v }) reels.symm
      have formed : t = u.allocateTicket none x := by
        rw [← joined, show x = s.newTicket r from ticket.symm]
        exact State.formTicket_allocates r
      have homeOf : u.catalogue[i].position = home := by
        rw [← joined]
        refine (congrArg Record.position (State.joinQueue_get s r i)).trans ?_
        split <;> rfl
      have search : u.allocateFor none x = allocate s.shelf.positions none c home :=
        congrArg (allocate s.shelf.positions none c) homeOf
      refine ⟨fun h => ?waits, fun q h => ⟨fun hhome => ?frees, fun hhome => ?keeps⟩⟩
      case waits => exact formed.trans (State.allocateTicket_of_none (search.trans h))
      case frees => exact formed.trans (State.allocateTicket_frees (search.trans h) (homeOf.symm ▸ hhome))
      case keeps => exact formed.trans (State.allocateTicket_keeps (search.trans h) (homeOf.symm ▸ hhome))

end Sys2Proof.Machine
end

section
/-! PROOFS. DEFINE-SHELVES, SHELF-LOCK and SHELF-UNLOCK (R160 to R162, R168) (O25). -/

namespace Sys2Proof.Machine

/-! ### The argument words -/

theorem argClass_word (c : Option VaultClass) : argClass (natWord (classCode c)) = some c := by
  rcases c with _ | c
  · rfl
  · cases c <;> rfl

theorem defineArgs_words {first count : Nat} (cls : Option VaultClass) (h1 : 1 ≤ count) (h2 : first + count ≤ 1024) :
    defineArgs [natWord first, natWord count, natWord (classCode cls)] = .ok (⟨first, count⟩, cls) := by
  rw [defineArgs, argShelfRange_words h1 (by omega) h2, argClass_word]
  rfl

theorem positionArgs_word (q : PositionNo) : positionArgs [natWord q.val] = .ok q := by
  rw [positionArgs, argFin_natWord (by decide)]
  rfl

/-! ### A range of positions defined (R160) -/

/-- The entries of a table with their numbers are counted by number. -/
theorem countP_zipIdx_toList {α : Type} {n : Nat} (v : Vector α n) (p : α × Nat → Bool) :
    v.toList.zipIdx.countP p = (List.finRange n).countP fun i => p (v[i], i.val) := by
  have numbered : v.toList.zipIdx = (List.finRange n).map fun i => (v[i], i.val) := by
    refine List.ext_getElem (by simp) fun i _ _ => ?_
    simp
  rw [numbered, List.countP_map]
  rfl

section

variable {s : State} {a : ShelfRange}

theorem State.openInRange_eq (s : State) (a : ShelfRange) : s.openInRange a =
    ((List.finRange 1024).filter fun q => decide (a.first ≤ q.val ∧ q.val < a.first + a.count ∧
      s.shelf.positions[q].state = .free ∧ s.shelf.positions[q].lock = false)).length := by
  rw [State.openInRange, countP_zipIdx_toList, List.countP_eq_length_filter]
  refine congrArg List.length (List.filter_congr fun q _ => ?_)
  rw [ShelfRange.has, ← Bool.decide_and]
  exact decide_eq_decide.2 and_assoc

/-- The test of DEFINE-SHELVES on a position: one of the range that is OCCUPIED or RESERVED. -/
theorem ShelfRange.holds_iff {q : PositionNo} {x : Position} :
    (a.has q.val && decide (x.state = .occupied ∨ x.state = .reserved)) = true ↔
      (a.first ≤ q.val ∧ q.val < a.first + a.count) ∧ (x.state = .occupied ∨ x.state = .reserved) := by
  rw [Bool.and_eq_true, ShelfRange.has, decide_eq_true_eq, decide_eq_true_eq]

theorem State.takenPosition_eq_some {q : PositionNo} (hq : a.first ≤ q.val ∧ q.val < a.first + a.count)
    (ht : s.shelf.positions[q].state = .occupied ∨ s.shelf.positions[q].state = .reserved)
    (hl : ∀ k : PositionNo, a.first ≤ k.val ∧ k.val < a.first + a.count → k < q →
      s.shelf.positions[k].state ≠ .occupied ∧ s.shelf.positions[k].state ≠ .reserved) : s.takenPosition a = some q := by
  refine firstEntry_eq_some (ShelfRange.holds_iff.2 ⟨hq, ht⟩) fun k hk => Bool.eq_false_iff.2 fun hold => ?_
  obtain ⟨hin, hheld⟩ := ShelfRange.holds_iff.1 hold
  exact not_or.2 (hl k hin hk) hheld

theorem State.takenPosition_eq_none (h : ∀ q : PositionNo, a.first ≤ q.val ∧ q.val < a.first + a.count →
    s.shelf.positions[q].state ≠ .occupied ∧ s.shelf.positions[q].state ≠ .reserved) : s.takenPosition a = none := by
  refine Option.eq_none_iff_forall_ne_some.2 fun q hq => ?_
  obtain ⟨hin, hheld⟩ := ShelfRange.holds_iff.1 (firstEntry_some hq).1
  exact not_or.2 (h q hin) hheld

theorem State.definePositions_get (c : Option VaultClass) (q : PositionNo) : (s.definePositions a c).shelf.positions[q] =
    if a.has q.val then s.shelf.positions[q].define c else s.shelf.positions[q] := mapEntries_get _ _ _ _

theorem Position.define_eq (x : Position) (c : Option VaultClass) :
    x.define c = ⟨c, if c = none then .undefined else .free, none, x.lock⟩ := by
  cases c <;> rfl

theorem State.defineOrder_inUse {c : Option VaultClass} {q : PositionNo} (h : s.takenPosition a = some q) :
    s.defineOrder (a, c) = (s, .inUse, [natWord q.val]) := by
  rw [State.defineOrder, h]

theorem State.defineOrder_done {c : Option VaultClass} (h : s.takenPosition a = none) :
    s.defineOrder (a, c) = (if 0 < (s.definePositions a c).openInRange a then (s.definePositions a c).retryPass none
      else s.definePositions a c, .done, [natWord ((s.definePositions a c).openInRange a)]) := by
  rw [State.defineOrder, h]

end

theorem State.Takes.defineShelves {s : State} {p : Port} {o : Order} {first count : Nat} {cls : Option VaultClass}
    (h1 : 1 ≤ count) (h2 : first + count ≤ 1024)
    (h : s.Takes p o 25 [natWord first, natWord count, natWord (classCode cls)]) :
    exec .defineShelves s = .next (replied p o ((s.popOrder p).defineOrder (⟨first, count⟩, cls))) :=
  h.withArgs (by decide) (by decide) (defineArgs_words cls h1 h2) fun s _ => s.defineOrder

/-! ### The lock of a position (R161, R162) -/

section

variable {s : State} {p : Port} {o : Order} {q : PositionNo}

theorem State.Takes.shelfLock (h : s.Takes p o 26 [natWord q.val]) :
    exec .shelfLock s = .next (replied p o ((s.popOrder p).lockOrder q)) :=
  h.withArgs (by decide) (by decide) (positionArgs_word q) fun s _ => s.lockOrder

theorem State.Takes.shelfUnlock (h : s.Takes p o 27 [natWord q.val]) :
    exec .shelfUnlock s = .next (replied p o ((s.popOrder p).unlockOrder q)) :=
  h.withArgs (by decide) (by decide) (positionArgs_word q) fun s _ => s.unlockOrder

/-- A position that an unlock makes usable: FREE, or RESERVED as the home of a record whose ticket waits (R162). -/
def State.UsableOnUnlock (s : State) (q : PositionNo) : Prop :=
  s.shelf.positions[q].state = .free ∨ s.shelf.positions[q].state = .reserved ∧
    ∃ t ∈ s.shelf.tickets, t.state = .awaitingSpace ∧ s.catalogue[t.record].position = some q

/-- The test that an unlock makes does not read the lock. -/
theorem State.usableOnUnlock_iff (lock : Bool) : (decide ((s.setLock q lock).shelf.positions[q].state = .free) ||
    (s.setLock q lock).isWaitingHome q) = true ↔ s.UsableOnUnlock q := by
  have entry : (s.setLock q lock).shelf.positions[q] = { s.shelf.positions[q] with lock := lock } :=
    (modEntry_get _ _ _ _).trans (if_pos rfl)
  rw [State.isWaitingHome, entry, State.UsableOnUnlock, Bool.or_eq_true, Bool.and_eq_true, decide_eq_true_eq, decide_eq_true_eq,
    List.any_eq_true]
  simp only [decide_eq_true_eq]
  rfl

theorem State.unlockOrder_clear (h : s.shelf.positions[q].lock = false) :
    s.unlockOrder q = (s.setLock q false, .done, [0]) := by
  rw [State.unlockOrder, h]
  rfl

theorem State.unlockOrder_usable (h : s.shelf.positions[q].lock = true) (hu : s.UsableOnUnlock q) :
    s.unlockOrder q = ((s.setLock q false).retryPass none, .done, [1]) := by
  rw [State.unlockOrder, h, (State.usableOnUnlock_iff false).2 hu]
  rfl

theorem State.unlockOrder_useless (h : s.shelf.positions[q].lock = true) (hu : ¬ s.UsableOnUnlock q) :
    s.unlockOrder q = (s.setLock q false, .done, [1]) := by
  rw [State.unlockOrder, h, Bool.eq_false_iff.2 (mt (State.usableOnUnlock_iff false).1 hu)]
  rfl

end

/-- Settles O25: the range defined or refused, and the lock set or cleared. -/
theorem shelfOrdersDefineAndLockPositions : Obligations.ShelfOrdersDefineAndLockPositions := by
  refine ⟨fun s p o first count cls h1 h2 ht => ?define, fun s p o q => ?locks⟩
  case define =>
    intro inRange
    have taken := ht.defineShelves h1 h2
    refine ⟨fun vacant => ?done, fun q hq hheld hlow => ?inUse⟩
    case done =>
      have none_ : (s.popOrder p).takenPosition ⟨first, count⟩ = none := State.takenPosition_eq_none vacant
      let t := (s.popOrder p).definePositions ⟨first, count⟩ cls
      have position : ∀ q : PositionNo, t.shelf.positions[q] =
          if inRange q then s.shelf.positions[q].define cls else s.shelf.positions[q] := by
        intro q
        refine (State.definePositions_get cls q).trans ?_
        simp only [ShelfRange.has, decide_eq_true_eq]
        rfl
      refine ⟨t.shelf.positions, t.openInRange ⟨first, count⟩, ?effect, fun q => ⟨fun hq => ?own, fun hq => ?other⟩,
        t.openInRange_eq _⟩
      case effect => rw [taken, State.defineOrder_done none_]; rfl
      case own => rw [position, if_pos hq, Position.define_eq]
      case other => rw [position, if_neg hq]
    case inUse => rw [taken, State.defineOrder_inUse (State.takenPosition_eq_some (s := s.popOrder p) hq hheld hlow)]
  case locks =>
    intro put was usable
    refine ⟨fun ht => ?lock, fun ht hw hu => ?usable, fun ht hw hu => ?useless, fun ht hw => ?clear⟩
    case lock => exact ht.shelfLock
    all_goals rw [ht.shelfUnlock]
    case usable => rw [State.unlockOrder_usable (s := s.popOrder p) hw hu]; rfl
    case useless => rw [State.unlockOrder_useless (s := s.popOrder p) hw hu]; rfl
    case clear => rw [State.unlockOrder_clear (s := s.popOrder p) hw]; rfl

end Sys2Proof.Machine
end

section
/-! PROOFS. NEXT-TICKET and CONFIRM-TICKET (R169 to R171) (O26). -/

namespace Sys2Proof.Machine

/-! ### Tickets found in the queue -/

theorem argTicket_word (n : BitVec 16) : argTicket (natWord n.toNat) = some n := by
  have := n.isLt
  rw [argTicket, argRange_natWord (Nat.zero_le _) (by omega) (by omega), Option.map_some, BitVec.ofNat_toNat,
    BitVec.setWidth_eq]

section

variable {s : State} {t : Ticket} {n : BitVec 16}

theorem State.ticketNumbered_eq_some (hs : s.Numbered) (ht : t ∈ s.shelf.tickets) : s.ticketNumbered t.number = some t := by
  cases h : s.ticketNumbered t.number with
  | none => exact absurd (decide_eq_true rfl) (List.find?_eq_none.1 h t ht)
  | some x => rw [hs.eq_of_number (List.mem_of_find?_eq_some h) ht (of_decide_eq_true (List.find?_some h :))]

theorem State.ticketNumbered_eq_none (h : ∀ t ∈ s.shelf.tickets, t.number ≠ n) : s.ticketNumbered n = none :=
  List.find?_eq_none.2 fun t ht => by simpa using h t ht

/-- A change of the ticket of one number is a change of one place of the queue. -/
theorem State.modTicket_split (hs : s.Numbered) {older younger : List Ticket} (hq : s.shelf.tickets = older ++ t :: younger)
    (f : Ticket → Ticket) :
    s.modTicket t.number f = { s with shelf := { s.shelf with tickets := older ++ f t :: younger } } := by
  have distinct : (older ++ t :: younger).Pairwise fun a b => a.number ≠ b.number := hq ▸ hs
  obtain ⟨-, behind, before⟩ := List.pairwise_append.1 distinct
  have others : ∀ l : List Ticket, (∀ x ∈ l, x.number ≠ t.number) →
      (l.map fun x => if x.number = t.number then f x else x) = l := fun l hl =>
    (List.map_congr_left fun x hx => if_neg (hl x hx)).trans (List.map_id' l)
  rw [State.modTicket, hq, List.map_append, List.map_cons, if_pos rfl,
    others older fun x hx => before x hx t List.mem_cons_self,
    others younger fun x hx => ((List.pairwise_cons.1 behind).1 x hx).symm]

/-! ### NEXT-TICKET (R170) -/

theorem State.oldestIssued_split {older younger : List Ticket} (hq : s.shelf.tickets = older ++ t :: younger)
    (ho : ∀ x ∈ older, x.state ≠ .issued) (ht : t.state = .issued) : s.oldestIssued = some t := by
  have passed : older.find? (fun x => decide (x.state = .issued)) = none :=
    List.find?_eq_none.2 fun x hx => by simpa using ho x hx
  rw [State.oldestIssued, hq, List.find?_append, passed, Option.none_or]
  exact List.find?_cons_of_pos (p := fun x : Ticket => decide (x.state = .issued)) (decide_eq_true ht)

theorem State.oldestIssued_eq_none (h : ∀ t ∈ s.shelf.tickets, t.state ≠ .issued) : s.oldestIssued = none :=
  List.find?_eq_none.2 fun t ht => by simpa using h t ht

theorem applyNextTicket_some {o : Order} (ho : o.args = []) (h : s.oldestIssued = some t) : applyNextTicket s o =
    (s.modTicket t.number fun x => { x with state := .taken }, .done, s.takenWords t) := by
  rw [applyNextTicket, ho]
  dsimp only
  rw [h]

theorem applyNextTicket_none {o : Order} (ho : o.args = []) (h : s.oldestIssued = none) :
    applyNextTicket s o = (s, .notFound, []) := by
  rw [applyNextTicket, ho]
  dsimp only
  rw [h]
  rfl

/-! ### CONFIRM-TICKET (R171) -/

theorem State.Takes.confirmTicket {p : Port} {o : Order} (h : s.Takes p o 30 [natWord n.toNat]) :
    exec .confirmTicket s = .next (replied p o ((s.popOrder p).confirmOrder n)) :=
  h.withArgs (by decide) (by decide) (show confirmArgs [natWord n.toNat] = .ok n by rw [confirmArgs, argTicket_word]; rfl)
    fun s _ => s.confirmOrder

theorem State.confirmOrder_done (h : s.ticketNumbered n = some t) (ht : t.state = .taken) : s.confirmOrder n =
    (s.confirm t, .done, [natWord t.number.toNat, natWord t.record.val] ++ (t.position.map fun q => natWord q.val).toList) := by
  rw [State.confirmOrder, h]
  exact if_pos ht

theorem State.confirmOrder_wrongState (h : s.ticketNumbered n = some t) (ht : t.state ≠ .taken) :
    s.confirmOrder n = (s, .wrongState, []) := by
  rw [State.confirmOrder, h]
  exact if_neg ht

theorem State.confirmOrder_notFound (h : s.ticketNumbered n = none) : s.confirmOrder n = (s, .notFound, []) := by
  rw [State.confirmOrder, h]
  rfl

/-- The reel of a ticket that names a position is shelved there, and the ticket leaves the queue (R171 steps 1 to 3). -/
theorem State.shelve_eq {q : PositionNo} (hq : t.position = some q) : s.shelve t = { s with
    catalogue := s.catalogue.set t.record { s.catalogue[t.record] with state := .shelved, position := some q }
    shelf := { s.shelf with
      positions := s.shelf.positions.set q { s.shelf.positions[q] with state := .occupied }
      tickets := s.shelf.tickets.filter fun x => decide (x.number ≠ t.number) } } := by
  simp only [State.shelve, hq]
  rfl

end

/-- Settles O26: the oldest ISSUED ticket taken, and a TAKEN one confirmed. -/
theorem ticketsAreTakenAndConfirmed : Obligations.TicketsAreTakenAndConfirmed := by
  refine ⟨fun s p o ht hs => ?next, fun s p o n ht hs => ?confirm⟩
  case next =>
    have taken := ht.takeOrder (by decide) (by decide) applyNextTicket
    refine ⟨fun older younger t q hq holder hi hpos => ?some_, fun h => ?none_⟩
    case some_ =>
      have oldest := State.oldestIssued_split (s := s.popOrder p) hq holder hi
      refine taken.trans ?_
      rw [applyNextTicket_some ht.args oldest, State.modTicket_split (s := s.popOrder p) hs hq, State.takenWords, hpos]
      rfl
    case none_ =>
      refine taken.trans ?_
      rw [applyNextTicket_none ht.args (State.oldestIssued_eq_none (s := s.popOrder p) h)]
  case confirm =>
    have taken := ht.confirmTicket
    have find : ∀ t ∈ s.shelf.tickets, (s.popOrder p).ticketNumbered t.number = some t := fun t =>
      State.ticketNumbered_eq_some (s := s.popOrder p) hs
    refine ⟨fun t q hmem hn hstate hq => ?done, fun t hmem hn hstate => ?wrongState, fun h => ?notFound⟩
    case done =>
      subst hn
      rw [taken, State.confirmOrder_done (find t hmem) hstate, State.confirm_eq, State.shelve_eq hq, hq]
      rfl
    case wrongState =>
      subst hn
      rw [taken, State.confirmOrder_wrongState (find t hmem) hstate]
    case notFound => rw [taken, State.confirmOrder_notFound (State.ticketNumbered_eq_none (s := s.popOrder p) h)]

end Sys2Proof.Machine
end

section
/-! PROOFS. REFUSE-TICKET: the position given up, the new allocation, the retry pass and the reply (R168, R172) (O27). -/

namespace Sys2Proof.Machine

/-! ### The position given up and the new allocation (R172 steps 1 to 3) -/

/-- The refused position without its owner, and the record without a position (R172 step 1). -/
def State.giveUp (s : State) (t : Ticket) (q : PositionNo) (block : Bool) : State :=
  s.rehome (some q) (fun x => x.refused block) t.record fun x => { x with position := none }

section

variable {s : State} {t : Ticket} {q k : PositionNo} {block : Bool}

theorem State.giveUp_tickets : (s.giveUp t q block).shelf.tickets = s.shelf.tickets := State.rehome_tickets _ _ _ _ _

theorem State.giveUp_home : (s.giveUp t q block).catalogue[t.record].position = none :=
  congrArg Record.position (State.rehome_record_self _ _ _ _ _)

theorem State.giveUp_cls (j : PositionNo) : (s.giveUp t q block).shelf.positions[j].cls = s.shelf.positions[j].cls := by
  rw [State.giveUp, State.rehome_position]
  split <;> rfl

theorem State.giveUp_lock (j : PositionNo) : (s.giveUp t q block).shelf.positions[j].lock = s.shelf.positions[j].lock := by
  rw [State.giveUp, State.rehome_position]
  split <;> rfl

/-- The new allocation passes over the refused position and knows no home. -/
theorem State.giveUp_allocateFor : (s.giveUp t q block).allocateFor (some (t.number, q)) t =
    allocate (s.giveUp t q block).shelf.positions (some q) t.cls none := by
  rw [State.allocateFor, State.giveUp_home, excludedFor, if_pos rfl]

/-- The refusal with the outcome `u` of the new allocation: the position makes a pass when it is left FREE and unlocked. -/
theorem State.refusePosition_of {u : State} (hu : (s.giveUp t q block).allocateTicket (some (t.number, q)) t = u) :
    s.refusePosition t q block =
      if block = false ∧ s.shelf.positions[q].lock = false then u.retryPass (some (t.number, q)) else u := by
  have lock : u.shelf.positions[q].lock = s.shelf.positions[q].lock := by
    rw [← hu, (State.Reshelves.allocateTicket _ _ _).lock, State.giveUp_lock]
  rw [← lock, ← hu]
  exact State.refusePosition_eq s t q block

theorem State.refusePosition_issues
    (h : allocate (s.giveUp t q block).shelf.positions (some q) t.cls none = some k) : s.refusePosition t q block =
      if block = false ∧ s.shelf.positions[q].lock = false then
        ((s.giveUp t q block).issueTicket t k).retryPass (some (t.number, q))
      else (s.giveUp t q block).issueTicket t k :=
  State.refusePosition_of <| State.allocateTicket_keeps (State.giveUp_allocateFor.trans h) fun _ hk =>
    nomatch State.giveUp_home.symm.trans hk

theorem State.refusePosition_waits
    (h : allocate (s.giveUp t q block).shelf.positions (some q) t.cls none = none) : s.refusePosition t q block =
      if block = false ∧ s.shelf.positions[q].lock = false then
        ((s.giveUp t q block).leaveWaiting t).retryPass (some (t.number, q))
      else (s.giveUp t q block).leaveWaiting t :=
  State.refusePosition_of <| State.allocateTicket_of_none (State.giveUp_allocateFor.trans h)

end

/-! ### The reply (R172) -/

/-- A ticket in AWAITING_SPACE, which names no position. -/
def Ticket.waits (x : Ticket) : Ticket := { x with state := .awaitingSpace, position := none }

section

variable {s v : State} {t : Ticket} {n : BitVec 16} {k q : PositionNo} {block : Bool}

theorem State.waits_mem_leaveWaiting (ht : t ∈ s.shelf.tickets) : t.waits ∈ (s.leaveWaiting t).shelf.tickets :=
  List.mem_map.2 ⟨t, ht, if_pos rfl⟩

theorem State.refusedWords_issued (hv : v.Numbered) (ht : t.issuedAt k ∈ v.shelf.tickets) :
    v.refusedWords t.number = [0, natWord k.val, natWord (classCode v.shelf.positions[k].cls)] := by
  rw [State.refusedWords, show v.ticketNumbered t.number = some (t.issuedAt k) from State.ticketNumbered_eq_some hv ht]
  rfl

theorem State.refusedWords_waiting (hv : v.Numbered) (ht : t.waits ∈ v.shelf.tickets) : v.refusedWords t.number = [1] := by
  rw [State.refusedWords, show v.ticketNumbered t.number = some t.waits from State.ticketNumbered_eq_some hv ht]
  rfl

/-! ### The order (R172) -/

theorem State.Takes.refuseTicket {p : Port} {o : Order} (h : s.Takes p o 31 [natWord n.toNat, if block then 1 else 0]) :
    exec .refuseTicket s = .next (replied p o ((s.popOrder p).refuseOrder (n, block))) := by
  have words : refuseArgs [natWord n.toNat, flagWord block] = .ok (n, block) := by
    rw [refuseArgs, argTicket_word, argFlag_flagWord]
    rfl
  exact h.withArgs (by decide) (by decide) words fun s _ => s.refuseOrder

theorem State.refuseOrder_done (h : s.ticketNumbered n = some t) (ht : t.state = .taken) (hq : t.position = some q) :
    s.refuseOrder (n, block) = (s.refusePosition t q block, .done, (s.refusePosition t q block).refusedWords n) := by
  rw [State.refuseOrder, h]
  dsimp only
  rw [if_pos ht, hq]

theorem State.refuseOrder_wrongState (h : s.ticketNumbered n = some t) (ht : t.state ≠ .taken) :
    s.refuseOrder (n, block) = (s, .wrongState, []) := by
  rw [State.refuseOrder, h]
  exact if_neg ht

theorem State.refuseOrder_notFound (h : s.ticketNumbered n = none) : s.refuseOrder (n, block) = (s, .notFound, []) := by
  rw [State.refuseOrder, h]
  rfl

end

section

variable {s v : State} {t : Ticket} {k q : PositionNo} {block : Bool}

/-- The refusal keeps the classes of the positions and the numbers of the tickets, whatever the allocations find. -/
theorem State.giveUp_reshelves (hs : s.Numbered) (h : (s.giveUp t q block).Reshelves v) :
    v.Numbered ∧ ∀ j : PositionNo, v.shelf.positions[j].cls = s.shelf.positions[j].cls := by
  refine ⟨h.numbered ?_, fun j => (h.cls j).trans (State.giveUp_cls j)⟩
  rw [State.Numbered, State.giveUp_tickets]
  exact hs

theorem State.refuseOrder_issued (hs : s.Numbered) (hmem : t ∈ s.shelf.tickets) (ht : t.state = .taken)
    (hq : t.position = some q) (hv : s.refusePosition t q block = v) (kept : (s.giveUp t q block).Reshelves v)
    (issued : t.issuedAt k ∈ v.shelf.tickets) : s.refuseOrder (t.number, block) =
      (v, .done, [0, natWord k.val, natWord (classCode s.shelf.positions[k].cls)]) := by
  obtain ⟨numbered, cls⟩ := State.giveUp_reshelves hs kept
  rw [State.refuseOrder_done (State.ticketNumbered_eq_some hs hmem) ht hq, hv, State.refusedWords_issued numbered issued, cls]

theorem State.refuseOrder_waiting (hs : s.Numbered) (hmem : t ∈ s.shelf.tickets) (ht : t.state = .taken)
    (hq : t.position = some q) (hv : s.refusePosition t q block = v) (kept : (s.giveUp t q block).Reshelves v)
    (waits : t.waits ∈ v.shelf.tickets) : s.refuseOrder (t.number, block) = (v, .done, [1]) := by
  obtain ⟨numbered, -⟩ := State.giveUp_reshelves hs kept
  rw [State.refuseOrder_done (State.ticketNumbered_eq_some hs hmem) ht hq, hv, State.refusedWords_waiting numbered waits]

end

/-- Settles O27: the refused position given up, and the ticket as the new allocation and the pass leave it. -/
theorem refuseTicketAllocatesAgain : Obligations.RefuseTicketAllocatesAgain := by
  intro s p o n block ht hs
  have taken := ht.refuseTicket
  have numbered : (s.popOrder p).Numbered := hs
  refine ⟨fun t q hmem hn hstate hq => ?done, fun t hmem hn hstate => ?wrongState, fun h => ?notFound⟩
  case done =>
    subst hn
    intro u passes found issuedAt
    have mem : t ∈ u.shelf.tickets := hmem
    have uNumbered : u.Numbered := hs
    refine ⟨fun k hk => ?issues, fun hnone hpass => ?waits, fun hnone hpass => ?passed⟩
    case issues =>
      have kept : u.Reshelves (u.issueTicket t k) := .issueTicket u t k
      have issued := State.issuedAt_mem_issueTicket mem k
      rw [taken]
      have effect := State.refusePosition_issues (s := s.popOrder p) hk
      split
      case isTrue hp =>
        rw [State.refuseOrder_issued numbered hmem hstate hq (effect.trans (if_pos hp)) (kept.trans (.retryPass _ _))
          (mem_retryPasses _ (kept.numbered uNumbered) issued nofun)]
        rfl
      case isFalse hp =>
        rw [State.refuseOrder_issued numbered hmem hstate hq (effect.trans (if_neg hp)) kept issued]
        rfl
    case waits =>
      have effect := State.refusePosition_waits (s := s.popOrder p) hnone
      rw [taken, State.refuseOrder_waiting numbered hmem hstate hq (effect.trans (if_neg hpass)) (.leaveWaiting u t)
        (State.waits_mem_leaveWaiting mem)]
      rfl
    case passed =>
      intro v
      have waiting : u.Reshelves (u.leaveWaiting t) := .leaveWaiting u t
      have kept : u.Reshelves v := waiting.trans (.retryPass _ _)
      have effect := (State.refusePosition_waits (s := s.popOrder p) hnone).trans (if_pos hpass)
      obtain still | ⟨-, k, hk, issued⟩ := retryPasses_ticket (excl := some (t.number, q)) _ (waiting.numbered uNumbered)
        (State.waits_mem_leaveWaiting mem)
      · refine ⟨t.waits, still, rfl, rfl, .inl ⟨rfl, rfl, ?_⟩⟩
        rw [taken, State.refuseOrder_waiting numbered hmem hstate hq effect kept still]
        rfl
      · have other : k ≠ q := by
          rintro rfl
          exact hk (if_pos rfl)
        refine ⟨t.issuedAt k, issued, rfl, rfl, .inr ⟨k, other, rfl, rfl, ?_⟩⟩
        rw [taken, State.refuseOrder_issued numbered hmem hstate hq effect kept issued]
        rfl
  case wrongState =>
    subst hn
    rw [taken, State.refuseOrder_wrongState (State.ticketNumbered_eq_some numbered hmem) hstate]
  case notFound => rw [taken, State.refuseOrder_notFound (State.ticketNumbered_eq_none (s := s.popOrder p) h)]

end Sys2Proof.Machine
end

section
/-! PROOFS. What the part has sent, and what a send on port S depends on, under every operation that sends nothing: one lemma for
each, in the order of the definitions (R133, R177, R178). -/

namespace Sys2Proof.Machine

/-- The cells sent, the link and the sequence counter of port S, and the transmitter. -/
structure Outlet where
  wire : List SentCell
  link : Link
  seqOut : BitVec 8
  transmitter : Transmitter

/-- The outlet of a state: what a send of a frame changes, and what it depends on. -/
def State.outlet (s : State) : Outlet :=
  { wire := s.wire
    link := s.links.ports[portS].link
    seqOut := s.links.ports[portS].seqOut
    transmitter := s.delivery.transmitter }

variable (s : State)

@[simp] theorem State.modReel_outlet (r : Slot) (f : Reel → Reel) : (s.modReel r f).outlet = s.outlet := rfl

@[simp] theorem State.countReel_outlet (r : Slot) (f : ReelCounters → ReelCounters) : (s.countReel r f).outlet = s.outlet := rfl

@[simp] theorem State.modHead_outlet (h : Head) (f : HeadIntake → HeadIntake) : (s.modHead h f).outlet = s.outlet := rfl

@[simp] theorem State.modBuffer_outlet (b : Buf) (f : Buffer → Buffer) : (s.modBuffer b f).outlet = s.outlet := rfl

@[simp] theorem State.modMemory_outlet (b : Buf) (f : Memory → Memory) : (s.modMemory b f).outlet = s.outlet := rfl

@[simp] theorem State.modRecord_outlet (i : RecordNo) (f : Record → Record) : (s.modRecord i f).outlet = s.outlet := rfl

@[simp] theorem State.modPosition_outlet (q : PositionNo) (f : Position → Position) :
    (s.modPosition q f).outlet = s.outlet := rfl

@[simp] theorem State.modTicket_outlet (n : BitVec 16) (f : Ticket → Ticket) : (s.modTicket n f).outlet = s.outlet := rfl

@[simp] theorem State.modQueue_outlet (l : Lane) (f : List Buf → List Buf) : (s.modQueue l f).outlet = s.outlet := rfl

@[simp] theorem State.raise_outlet (k : NoticeKind) (i : Nat) (c : Option RecordNo) (d : Nat) :
    (s.raise k i c d).outlet = s.outlet := rfl

@[simp] theorem State.leaveLanes_outlet (b : Buf) : (s.leaveLanes b).outlet = s.outlet := rfl

/-- A change of a port that keeps its link and its sequence counter. -/
@[simp] theorem State.modPort_outlet (p : Port) {f : PortState → PortState}
    (hf : ∀ q, (f q).link = q.link ∧ (f q).seqOut = q.seqOut) : (s.modPort p f).outlet = s.outlet := by
  simp only [State.outlet, State.modPort_links, modEntry_get]
  split
  · simp only [(hf _).1, (hf _).2]
    rfl
  · rfl

/-- A change of a head port leaves port S alone. -/
@[simp] theorem State.modHeadPort_outlet (h : Head) (f : PortState → PortState) :
    (s.modPort (headPort h) f).outlet = s.outlet := by
  have other : headPort h ≠ portS := by revert h; decide
  simp only [State.outlet, State.modPort_links, modEntry_of_ne _ other]
  rfl

@[simp] theorem State.giveNotice_outlet (n : Notice) : (s.giveNotice n).outlet = s.outlet :=
  s.modPort_outlet s.notices.port fun _ => ⟨rfl, rfl⟩

/-! ### Cells, notices and tickets -/

@[simp] theorem State.formFlow_outlet (h : Head) (c : FlowCell) : (s.formFlow h c).outlet = s.outlet := by
  unfold State.formFlow; split <;> simp

@[simp] theorem State.formReply_outlet (p : Port) (g : BitVec 16) (c : Byte) (x : Status) (ws : List Word) :
    (s.formReply p g c x ws).outlet = s.outlet := by
  unfold State.formReply; split <;> simp

@[simp] theorem State.handOver_outlet : s.handOver.outlet = s.outlet := by
  unfold State.handOver; split <;> [split <;> simp; rfl]

@[simp] theorem State.returnNotice_outlet (p : Port) : (s.returnNotice p).outlet = s.outlet := by
  unfold State.returnNotice; split <;> [rfl; split <;> rfl]

@[simp] theorem State.emptyPort_outlet (p : Port) : (s.emptyPort p).outlet = s.outlet := by
  simp [State.emptyPort]

@[simp] theorem State.issueTicket_outlet (t : Ticket) (q : PositionNo) : (s.issueTicket t q).outlet = s.outlet := by
  unfold State.issueTicket; split <;> [(split <;> simp); simp]

@[simp] theorem State.leaveWaiting_outlet (t : Ticket) : (s.leaveWaiting t).outlet = s.outlet := by
  simp [State.leaveWaiting]

@[simp] theorem retryPasses_outlet (x : Option (BitVec 16 × PositionNo)) (n : Nat) (s : State) :
    (retryPasses x n s).outlet = s.outlet := by
  induction n generalizing s with
  | zero => rfl
  | succ n ih => unfold retryPasses; split <;> simp [ih]

@[simp] theorem State.retryPass_outlet (x : Option (BitVec 16 × PositionNo)) : (s.retryPass x).outlet = s.outlet := by
  simp [State.retryPass]

@[simp] theorem State.allocateTicket_outlet (x : Option (BitVec 16 × PositionNo)) (t : Ticket) :
    (s.allocateTicket x t).outlet = s.outlet := by
  unfold State.allocateTicket; split <;> [simp; split <;> simp]

@[simp] theorem State.formTicket_outlet (r : Slot) : (s.formTicket r).outlet = s.outlet := by
  simp only [State.formTicket, State.modReel_outlet, State.allocateTicket_outlet, State.modRecord_outlet]; rfl

@[simp] theorem State.closeReel_outlet (r : Slot) : (s.closeReel r).outlet = s.outlet := by
  unfold State.closeReel; dsimp only; split <;> [simp; (simp only [State.outlet]; rfl)]

@[simp] theorem State.closeIfEmpty_outlet (r : Slot) : (s.closeIfEmpty r).outlet = s.outlet := by
  unfold State.closeIfEmpty; split <;> simp

/-! ### The pool -/

/-- A loop of one operation that leaves the outlet alone does so as well. -/
theorem foldl_outlet {α : Type} {f : State → α → State} (h : ∀ s a, (f s a).outlet = s.outlet) (l : List α) (s : State) :
    (l.foldl f s).outlet = s.outlet := by
  induction l generalizing s with
  | nil => rfl
  | cons a l ih => simp [ih, h]

@[simp] theorem State.flowToHeads_outlet (c : FlowCell) (p : Head → Bool) : (s.flowToHeads c p).outlet = s.outlet := by
  unfold State.flowToHeads; exact foldl_outlet (by simp) _ _

@[simp] theorem State.becomePaced_outlet : s.becomePaced.outlet = s.outlet := by
  simp only [State.becomePaced, State.raise_outlet, State.flowToHeads_outlet]; rfl

@[simp] theorem State.becomeOpen_outlet : s.becomeOpen.outlet = s.outlet := by
  simp only [State.becomeOpen, State.raise_outlet, State.flowToHeads_outlet]; rfl

@[simp] theorem State.paceFall_outlet : s.paceFall.outlet = s.outlet := by
  unfold State.paceFall; split <;> simp

@[simp] theorem State.paceRise_outlet : s.paceRise.outlet = s.outlet := by
  unfold State.paceRise; split <;> simp

@[simp] theorem State.tellPaced_outlet (h : Head) : (s.tellPaced h).outlet = s.outlet := by
  unfold State.tellPaced; split <;> simp

@[simp] theorem State.forgetLatest_outlet (b : Buf) : (s.forgetLatest b).outlet = s.outlet := by
  unfold State.forgetLatest; dsimp only; split <;> simp

@[simp] theorem State.release_outlet (b : Buf) : (s.release b).outlet = s.outlet := by simp [State.release]

@[simp] theorem State.releaseTest_outlet (b : Buf) : (s.releaseTest b).outlet = s.outlet := by
  unfold State.releaseTest; split <;> [rfl; (split <;> simp)]

@[simp] theorem State.clearSuccessor_outlet (b : Buf) : (s.clearSuccessor b).outlet = s.outlet := by
  unfold State.clearSuccessor; split <;> simp

@[simp] theorem State.clearLatestHold_outlet (r : Slot) : (s.clearLatestHold r).outlet = s.outlet := by
  unfold State.clearLatestHold; split <;> simp

@[simp] theorem State.releaseNeighbour_outlet (b : Buf) : (s.releaseNeighbour b).outlet = s.outlet := by
  unfold State.releaseNeighbour; dsimp only; split <;> simp

@[simp] theorem State.releaseNeighbours_outlet (q : RepairRequest) : (s.releaseNeighbours q).outlet = s.outlet := by
  unfold State.releaseNeighbours; dsimp only; split <;> split <;> simp

/-! ### Repair -/

@[simp] theorem State.engineTake_outlet : s.engineTake.outlet = s.outlet := by
  unfold State.engineTake; split <;> rfl

@[simp] theorem State.addNeighbour_outlet (b : Buf) : (s.addNeighbour b).outlet = s.outlet := by simp [State.addNeighbour]

@[simp] theorem State.requestRepair_outlet (b : Buf) (n : Option Buf) : (s.requestRepair b n).outlet = s.outlet := by
  unfold State.requestRepair
  dsimp only
  rw [State.engineTake_outlet]
  split <;> split <;> rfl

@[simp] theorem State.requestPending_outlet (r : Slot) : (s.requestPending r).outlet = s.outlet := by
  unfold State.requestPending; split <;> simp

@[simp] theorem State.discardedNext_outlet (r : Slot) : (s.discardedNext r).outlet = s.outlet := by
  simp [State.discardedNext]

@[simp] theorem State.withdrawRequests_outlet (b : Buf) : (s.withdrawRequests b).outlet = s.outlet := by
  unfold State.withdrawRequests
  exact (foldl_outlet (by simp) _ _).trans rfl

@[simp] theorem State.discard_outlet (b : Buf) : (s.discard b).outlet = s.outlet := by simp [State.discard]

@[simp] theorem State.writeRepair_outlet (j : RepairJob) : (s.writeRepair j).outlet = s.outlet := by
  simp [State.writeRepair]

/-! ### Reels and frame gaps -/

@[simp] theorem State.takeGoodLine_outlet (b : Buf) (t l : Nat) (xs : List Sample) :
    (s.takeGoodLine b t l xs).outlet = s.outlet := by
  simp [State.takeGoodLine]

@[simp] theorem State.takeBadLine_outlet (b : Buf) (l : Nat) : (s.takeBadLine b l).outlet = s.outlet := by
  simp [State.takeBadLine]

@[simp] theorem State.takeHold_outlet (r : Slot) (c : Nat) : (s.takeHold r c).outlet = s.outlet := by
  unfold State.takeHold; dsimp only; split <;> simp

@[simp] theorem State.enterDraining_outlet (r : Slot) (c : CloseReason) : (s.enterDraining r c).outlet = s.outlet := by
  simp [State.enterDraining]

@[simp] theorem State.applyPolicy_outlet (r : Slot) (p : Policy) : (s.applyPolicy r p).outlet = s.outlet := by
  simp [State.applyPolicy]

@[simp] theorem applyDeferred_outlet (r : Slot) (l : List Deferred) (s : State) :
    (applyDeferred r l s).outlet = s.outlet := by
  induction l generalizing s with
  | nil => rfl
  | cons d l ih => cases d <;> simp [applyDeferred, ih]

@[simp] theorem State.applyDeferredOrders_outlet (r : Slot) : (s.applyDeferredOrders r).outlet = s.outlet := by
  simp [State.applyDeferredOrders]

@[simp] theorem State.internalHolds_outlet (r : Slot) (x y : Bool) : (s.internalHolds r x y).outlet = s.outlet := by
  unfold State.internalHolds; dsimp only; split <;> [(split <;> [(split <;> simp); rfl]); rfl]

@[simp] theorem State.perfUpdate_outlet (r : Slot) (c : List Cause) : (s.perfUpdate r c).outlet = s.outlet := by
  unfold State.perfUpdate; dsimp only; split <;> simp

@[simp] theorem State.becomePending_outlet (b : Buf) : (s.becomePending b).outlet = s.outlet := by
  simp [State.becomePending]

@[simp] theorem State.predecessorAtEnd_outlet (b p : Buf) (x : Bool) : (s.predecessorAtEnd b p x).outlet = s.outlet := by
  unfold State.predecessorAtEnd
  dsimp only
  split
  all_goals split <;> simp

@[simp] theorem State.takeMissing_outlet (b : Buf) : (s.takeMissing b).outlet = s.outlet := by
  unfold State.takeMissing; exact foldl_outlet (by simp) _ _

@[simp] theorem State.assembleFrame_outlet (b : Buf) (r : Slot) : (s.assembleFrame b r).outlet = s.outlet := by
  simp [State.assembleFrame]

@[simp] theorem State.abortFrame_outlet (r : Slot) (b : Buf) : (s.abortFrame r b).outlet = s.outlet := by
  simp [State.abortFrame]

@[simp] theorem State.abortBuffer_outlet (r : Slot) (b : Buf) : (s.abortBuffer r b).outlet = s.outlet := by
  unfold State.abortBuffer
  dsimp only
  split
  · rfl
  · split
    iterate 3 simp
    · split
      · split
        · rfl
        · simp
      · simp
    all_goals rfl

@[simp] theorem State.clearAllHolds_outlet (r : Slot) : (s.clearAllHolds r).outlet = s.outlet := by
  unfold State.clearAllHolds; exact foldl_outlet (fun s b => by split <;> simp) _ _

@[simp] theorem State.abortReel_outlet (r : Slot) : (s.abortReel r).outlet = s.outlet := by
  unfold State.abortReel
  dsimp only
  rw [State.closeIfEmpty_outlet, State.modReel_outlet, foldl_outlet (fun s b => s.abortBuffer_outlet r b),
    State.clearAllHolds_outlet]
  split <;> simp

/-! ### Received cells -/

@[simp] theorem State.headCheckFailure_outlet (h : Head) (d : Nat) : (s.headCheckFailure h d).outlet = s.outlet := by
  simp [State.headCheckFailure]

@[simp] theorem State.headSink_outlet (h : Head) : (s.headSink h).outlet = s.outlet := by simp [State.headSink]

@[simp] theorem State.storeCheckFailure_outlet : s.storeCheckFailure.outlet = s.outlet := rfl

@[simp] theorem State.storeSink_outlet : s.storeSink.outlet = s.outlet := rfl

@[simp] theorem State.sinkFrame_outlet (h : Head) : (s.sinkFrame h).outlet = s.outlet := by simp [State.sinkFrame]

@[simp] theorem State.bufferFrame_outlet (h : Head) (r : Slot) (b : Buf) (f : FrameHeadFields) :
    (s.bufferFrame h r b f).outlet = s.outlet := by
  unfold State.bufferFrame; dsimp only; split <;> [(split <;> simp); simp]

@[simp] theorem State.openedFrame_outlet (h : Head) (r : Slot) (f : FrameHeadFields) :
    (s.openedFrame h r f).outlet = s.outlet := by
  unfold State.openedFrame; dsimp only; split <;> [simp; (split <;> [simp; (split <;> simp)])]

@[simp] theorem State.openingTests_outlet (h : Head) (f : FrameHeadFields) : (s.openingTests h f).outlet = s.outlet := by
  unfold State.openingTests; split <;> [simp; (split <;> [simp; (split <;> simp)])]

@[simp] theorem State.oversizeDiscard_outlet (h : Head) (b : Buf) (d : FrameDesc) :
    (s.oversizeDiscard h b d).outlet = s.outlet := by
  simp [State.oversizeDiscard]

@[simp] theorem State.takeLine_outlet (h : Head) (b : Buf) (d : FrameDesc) (x : Bool) (p : List Byte) :
    (s.takeLine h b d x p).outlet = s.outlet := by
  unfold State.takeLine
  dsimp only
  split
  · split <;> simp
  · split
    · split <;> simp
    · split
      · simp
      · split <;> simp

@[simp] theorem State.strayLine_outlet (h : Head) (x : Bool) : (s.strayLine h x).outlet = s.outlet := by
  unfold State.strayLine; dsimp only; split <;> simp

@[simp] theorem State.onLine_outlet (h : Head) (c : RxCell) : (s.onLine h c).outlet = s.outlet := by
  unfold State.onLine; split <;> simp

@[simp] theorem State.resolve_outlet (b : Buf) (x : Resolution) : (s.resolve b x).outlet = s.outlet := by
  simp [State.resolve]

@[simp] theorem State.onStoreAck_outlet (c : RxCell) : (s.onStoreAck c).outlet = s.outlet := by
  unfold State.onStoreAck State.takeStoreAck; split <;> [(split <;> [rfl; simp]); simp]

@[simp] theorem State.onCheckFailure_outlet (p : Port) : (s.onCheckFailure p).outlet = s.outlet := by
  unfold State.onCheckFailure; split <;> simp

@[simp] theorem State.onSunk_outlet (p : Port) : (s.onSunk p).outlet = s.outlet := by
  unfold State.onSunk; split <;> simp

@[simp] theorem State.queueOrder_outlet (p : Port) (o : Order) : (s.queueOrder p o).outlet = s.outlet := by
  unfold State.queueOrder; dsimp only; split <;> simp

@[simp] theorem State.onOrder_outlet (p : Port) (c : RxCell) : (s.onOrder p c).outlet = s.outlet := by
  unfold State.onOrder; split <;> simp

@[simp] theorem State.onOtherKind_outlet (p : Port) (k : Byte) (c : RxCell) : (s.onOtherKind p k c).outlet = s.outlet := by
  unfold State.onOtherKind; split <;> simp

@[simp] theorem State.ackExpiry_outlet (b : Buf) : (s.ackExpiry b).outlet = s.outlet := by simp [State.ackExpiry]

@[simp] theorem State.gainHeadLink_outlet (h : Head) : (s.gainHeadLink h).outlet = s.outlet := by
  unfold State.gainHeadLink; dsimp only; split <;> simp

/-! ### Orders -/

@[simp] theorem State.takeFromShelf_outlet (i : RecordNo) : (s.takeFromShelf i).outlet = s.outlet := by
  unfold State.takeFromShelf; dsimp only; split <;> simp

@[simp] theorem State.mount_outlet (a : MountArgs) (r : Slot) : (s.mount a r).outlet = s.outlet := by simp [State.mount]

@[simp] theorem State.resume_outlet (r : Slot) : (s.resume r).outlet = s.outlet := by simp [State.resume]

@[simp] theorem State.createRecord_outlet (i : RecordNo) (a : Account) (q : Option PositionNo) :
    (s.createRecord i a q).outlet = s.outlet := by
  unfold State.createRecord; dsimp only; split <;> simp

@[simp] theorem State.eraseRecord_outlet (i : RecordNo) : (s.eraseRecord i).outlet = s.outlet := by
  unfold State.eraseRecord; split <;> [(dsimp only; split <;> simp); simp]

@[simp] theorem State.admitWaiting_outlet : s.admitWaiting.outlet = s.outlet := by
  unfold State.admitWaiting; split <;> [rfl; exact (State.formTicket_outlet _ _).trans rfl]

@[simp] theorem State.confirm_outlet (t : Ticket) : (s.confirm t).outlet = s.outlet := by
  unfold State.confirm
  dsimp only
  rw [State.admitWaiting_outlet]
  split <;> rfl

@[simp] theorem State.refusePosition_outlet (t : Ticket) (q : PositionNo) (x : Bool) :
    (s.refusePosition t q x).outlet = s.outlet := by
  unfold State.refusePosition; dsimp only; split <;> simp

end Sys2Proof.Machine
end

section
/-! PROOFS. The orders by their codes: the effects of each code, the rows that take it, and what no order's effects touch (R180,
R181). -/

namespace Sys2Proof.Machine

/-! ### The effects and the rows of a code (section 11.7) -/

/-- The effects of an order of a code, the tests of R181 with them. -/
def applyOf : Nat → State → Order → OrderEffect
  | 1 => applyMountReel
  | 2 => applyUnmount
  | 3 => applyHoldReel
  | 4 => applyResumeReel
  | 5 => applySetReelPolicy
  | 6 => applyReadReel
  | 7 => applySetGauge
  | 8 => applyReadHead
  | 9 => applySetPoolMarks
  | 10 => applyReadPool
  | 11 => applySetDefectLimits
  | 12 => applySetRepairLimits
  | 13 => applyLoadProfileCurve
  | 14 => applySetProfileLevels
  | 15 => applyReadProfile
  | 16 => applySetReelGrade
  | 17 => applySetCue
  | 18 => applyClearCues
  | 19 => applyWriteLaneMap
  | 20 => applySetAckWait
  | 21 => applyReadLanes
  | 22 => applyWriteCatalogue
  | 23 => applyEraseCatalogue
  | 24 => applyReadCatalogue
  | 25 => applyDefineShelves
  | 26 => applyShelfLock
  | 27 => applyShelfUnlock
  | 28 => applyReadShelf
  | 29 => applyNextTicket
  | 30 => applyConfirmTicket
  | 31 => applyRefuseTicket
  | 32 => applyIdentify
  | 33 => applySoftReset
  | 34 => applySetNoticeLevels
  | 35 => applySetNoticePort
  | _ => fun s _ => s.refuse .badOrder

/-- Whether an order is one that a command of its code takes: the two rows of UNMOUNT-REEL look at the form as well. -/
def rowTakes (c : Instr) (o : Order) : Bool :=
  match c with
  | .unmountReelEnd => decide (unmountForm o ≠ some true)
  | .unmountReelAbort => decide (unmountForm o ≠ some false)
  | _ => true

/-- A command that takes orders, by the code of its row. -/
theorem exec_of_mem_orderCommands {n : Nat} {c : Instr} (hc : c ∈ orderCommands n) (s : State) :
    exec c s = s.takeOrder (fun o => hasCode n o && rowTakes c o) (applyOf n) := by
  have onCode : ∀ k, (fun o => hasCode k o && true) = hasCode k := fun k => funext fun o => Bool.and_true _
  unfold orderCommands at hc
  split at hc
  case h_2 =>
    obtain rfl | hc := List.mem_cons.1 hc
    · rfl
    · rw [List.mem_singleton.1 hc]
      rfl
  case h_36 => cases hc
  all_goals
    rw [List.mem_singleton.1 hc]
    simp only [rowTakes, onCode]
    rfl

theorem codeKnown_iff {code : Byte} : codeKnown code = true ↔ code.toNat ∈ orderCodes := by
  simp only [codeKnown, decide_eq_true_eq, orderCodes, List.mem_range'_1]
  omega

theorem mem_orderCodes_of_mem_orderCommands {n : Nat} {c : Instr} (hc : c ∈ orderCommands n) : n ∈ orderCodes := by
  unfold orderCommands at hc
  split at hc
  case h_36 => cases hc
  all_goals decide

section

variable {s : State} {p : Port} {o : Order} {c : Instr} {n : Nat}

/-- The next order, taken by a command of its code whose row takes it (R180). -/
theorem exec_order_taken (hn : s.nextOrder = some (p, o)) (hc : c ∈ orderCommands o.code.toNat) (hr : rowTakes c o = true) :
    exec c s = .next (replied p o (applyOf o.code.toNat (s.popOrder p) o)) := by
  rw [exec_of_mem_orderCommands hc]
  exact State.takeOrder_of_next hn (codeKnown_iff.2 (mem_orderCodes_of_mem_orderCommands hc)) (by simp [hasCode, hr]) _

/-- An order of an unknown code, taken by any order command (R181 test 1). -/
theorem exec_order_unknown (hn : s.nextOrder = some (p, o)) (hk : o.code.toNat ∉ orderCodes) (hc : c ∈ orderCommands n) :
    exec c s = .next (replied p o ((s.popOrder p).refuse .badOrder)) := by
  have unknown : codeKnown o.code = false := Bool.eq_false_iff.2 fun h => hk (codeKnown_iff.1 h)
  rw [exec_of_mem_orderCommands hc]
  simp only [State.takeOrder, hn, unknown, ↓reduceIte]
  rfl

/-- A command leaves another row's order where it is. -/
theorem exec_order_other (hn : s.nextOrder = some (p, o)) (hk : o.code.toNat ∈ orderCodes) (hc : c ∈ orderCommands n)
    (hr : o.code.toNat ≠ n ∨ rowTakes c o = false) : exec c s = .next s := by
  have notMine : (hasCode n o && rowTakes c o) = false := by
    rcases hr with h | h <;> simp [hasCode, h]
  rw [exec_of_mem_orderCommands hc]
  simp only [State.takeOrder, hn, codeKnown_iff.2 hk, notMine, ↓reduceIte, Bool.true_eq_false, Bool.false_eq_true]

theorem exec_order_none (hn : s.nextOrder = none) (hc : c ∈ orderCommands n) : exec c s = .next s := by
  rw [exec_of_mem_orderCommands hc]
  simp only [State.takeOrder, hn]

/-- Of the two rows of UNMOUNT-REEL one takes the order, and both an order that names no form. -/
theorem rowTakes_unmount (o : Order) : rowTakes .unmountReelEnd o = true ∨ rowTakes .unmountReelAbort o = true := by
  simp only [rowTakes, decide_eq_true_eq]
  by_cases h : unmountForm o = some true
  · exact .inr (by rw [h]; decide)
  · exact .inl h

theorem rowTakes_of_code (hc : c ∈ orderCommands n) (hn : n ≠ 2) (o : Order) : rowTakes c o = true := by
  unfold orderCommands at hc
  split at hc
  case h_2 => exact absurd rfl hn
  case h_36 => cases hc
  all_goals
    rw [List.mem_singleton.1 hc]
    rfl

theorem rowTakes_of_noForm (h : unmountForm o = none) : rowTakes c o = true := by
  unfold rowTakes
  split <;> simp [h]

/-- What an order command leads to: nothing taken, an unknown code refused, or the effects of its code. -/
theorem exec_order_cases (hc : c ∈ orderCommands n) (s : State) : ∃ t, exec c s = .next t ∧
    (t = s ∨ ∃ p o, t = replied p o ((s.popOrder p).refuse .badOrder) ∨ t = replied p o (applyOf n (s.popOrder p) o)) := by
  have completes : ∃ t, exec c s = .next t := by
    rw [exec_of_mem_orderCommands hc]
    unfold State.takeOrder
    split
    · exact ⟨_, rfl⟩
    · split <;> [exact ⟨_, rfl⟩; (split <;> exact ⟨_, rfl⟩)]
  obtain ⟨t, ht⟩ := completes
  exact ⟨t, ht, State.takeOrder_cases ((exec_of_mem_orderCommands hc s).symm.trans ht)⟩

end

/-! ### What no order's effects touch -/

/-- The cells sent, the waiting commands, the reset input, the last served port and the order queues. -/
structure Desk where
  wire : List SentCell
  pending : List Instr
  resetLow : Bool
  lastPort : Port
  orderQueues : Vector (List Order) 5

/-- The parts of a state that an order's effects leave alone. -/
def State.desk (s : State) : Desk :=
  { wire := s.wire
    pending := s.pending
    resetLow := s.resetLow
    lastPort := s.lastPort
    orderQueues := s.orderQueues }

section

variable (s : State)

theorem State.desk_eq {s t : State} (ho : t.outlet = s.outlet) (hs : t.standing = s.standing)
    (hq : t.orderQueues = s.orderQueues) : t.desk = s.desk := by
  simp only [State.desk, Desk.mk.injEq]
  exact ⟨congrArg Outlet.wire ho, congrArg Standing.pending hs, congrArg Standing.resetLow hs, congrArg Standing.lastPort hs, hq⟩

theorem State.withArgs_desk {α : Type} {a : Args α} {k : α → OrderEffect} (hk : ∀ x, (k x).1.desk = s.desk) :
    (s.withArgs a k).1.desk = s.desk := by
  unfold State.withArgs
  split <;> [rfl; rfl; exact hk _]

theorem replied_desk (p : Port) (o : Order) (e : OrderEffect) : (replied p o e).desk = e.1.desk := by
  apply State.desk_eq <;> simp [replied]

theorem applyMountReel_desk (o : Order) : (applyMountReel s o).1.desk = s.desk := by
  refine s.withArgs_desk fun a => ?_
  unfold State.mountOrder
  split <;> [rfl; skip]
  split <;> [rfl; skip]
  split <;> [rfl; skip]
  split <;> [rfl; (apply State.desk_eq <;> simp)]

theorem State.deferOrder_desk (r : Slot) (d : Deferred) : (s.deferOrder r d).1.desk = s.desk := by
  unfold State.deferOrder
  split <;> rfl

theorem applyUnmount_desk (o : Order) : (applyUnmount s o).1.desk = s.desk := by
  refine s.withArgs_desk fun a => ?_
  unfold State.unmountOrder State.unmountAbort State.unmountEnd
  split
  · split
    case h_1 | h_2 | h_3 => apply State.desk_eq <;> simp
    all_goals rfl
  · split
    case h_1 | h_2 | h_3 => split <;> [exact s.deferOrder_desk _ _; (apply State.desk_eq <;> simp)]
    all_goals rfl

theorem applyHoldReel_desk (o : Order) : (applyHoldReel s o).1.desk = s.desk := by
  refine s.withArgs_desk fun r => ?_
  unfold State.holdOrder
  split
  case h_1 | h_2 => split <;> [exact s.deferOrder_desk _ _; (apply State.desk_eq <;> simp)]
  all_goals rfl

theorem applyResumeReel_desk (o : Order) : (applyResumeReel s o).1.desk = s.desk := by
  refine s.withArgs_desk fun r => ?_
  unfold State.resumeOrder
  split <;> [(apply State.desk_eq <;> simp); rfl]

theorem applySetReelPolicy_desk (o : Order) : (applySetReelPolicy s o).1.desk = s.desk := by
  refine s.withArgs_desk fun a => ?_
  unfold State.policyOrder
  split
  case h_1 | h_2 | h_3 => split <;> [exact s.deferOrder_desk _ _; rfl]
  all_goals rfl

theorem applySetGauge_desk (o : Order) : (applySetGauge s o).1.desk = s.desk := by
  unfold applySetGauge State.gaugeOrder
  split
  · split <;> [rfl; rfl; (split <;> rfl)]
  · rfl

theorem State.evaluatePacing_desk : s.evaluatePacing.desk = s.desk := by
  unfold State.evaluatePacing
  split
  · split <;> [(apply State.desk_eq <;> simp); rfl]
  · split <;> [(apply State.desk_eq <;> simp); rfl]

theorem applySetPoolMarks_desk (o : Order) : (applySetPoolMarks s o).1.desk = s.desk :=
  s.withArgs_desk fun _ => (State.evaluatePacing_desk _).trans rfl

theorem applySetDefectLimits_desk (o : Order) : (applySetDefectLimits s o).1.desk = s.desk := by
  unfold applySetDefectLimits
  split <;> [(split <;> rfl); rfl]

theorem applySetRepairLimits_desk (o : Order) : (applySetRepairLimits s o).1.desk = s.desk := by
  unfold applySetRepairLimits
  split <;> [(split <;> rfl); rfl]

theorem applyLoadProfileCurve_desk (o : Order) : (applyLoadProfileCurve s o).1.desk = s.desk := by
  refine s.withArgs_desk fun a => ?_
  unfold State.loadOrder
  split <;> rfl

theorem applySetProfileLevels_desk (o : Order) : (applySetProfileLevels s o).1.desk = s.desk := by
  refine s.withArgs_desk fun a => ?_
  unfold State.levelsOrder
  split <;> rfl

theorem applySetReelGrade_desk (o : Order) : (applySetReelGrade s o).1.desk = s.desk := by
  refine s.withArgs_desk fun a => ?_
  unfold State.gradeOrder
  split <;> rfl

theorem applySetCue_desk (o : Order) : (applySetCue s o).1.desk = s.desk := by
  refine s.withArgs_desk fun a => ?_
  unfold State.cueOrder State.placeCueOn
  dsimp only
  split
  case h_1 | h_2 | h_3 => split <;> [rfl; (split <;> rfl)]
  all_goals rfl

theorem applyClearCues_desk (o : Order) : (applyClearCues s o).1.desk = s.desk := by
  refine s.withArgs_desk fun r => ?_
  unfold State.clearOrder
  split <;> rfl

theorem applySetAckWait_desk (o : Order) : (applySetAckWait s o).1.desk = s.desk := by
  unfold applySetAckWait
  split <;> [(split <;> rfl); rfl]

theorem State.writeOrder_desk (i : Option RecordNo) (a : Option Account) (q : Option (Option PositionNo)) :
    (s.writeOrder i a q).1.desk = s.desk := by
  unfold State.writeOrder State.writeRecord
  split
  · rfl
  · split
    case h_1 => split <;> [(apply State.desk_eq <;> simp); rfl]
    all_goals rfl
  · rfl

theorem applyWriteCatalogue_desk (o : Order) : (applyWriteCatalogue s o).1.desk = s.desk := by
  unfold applyWriteCatalogue
  split <;> [exact s.writeOrder_desk _ _ _; exact s.writeOrder_desk _ _ _; rfl]

theorem applyEraseCatalogue_desk (o : Order) : (applyEraseCatalogue s o).1.desk = s.desk := by
  refine s.withArgs_desk fun i => ?_
  unfold State.eraseOrder
  split
  case h_1 | h_2 => apply State.desk_eq <;> simp
  all_goals rfl

theorem State.retryPass_desk (x : Option (BitVec 16 × PositionNo)) : (s.retryPass x).desk = s.desk := by
  apply State.desk_eq <;> simp

theorem applyDefineShelves_desk (o : Order) : (applyDefineShelves s o).1.desk = s.desk := by
  refine s.withArgs_desk fun a => ?_
  unfold State.defineOrder
  split
  · rfl
  · dsimp only
    split <;> [exact (State.retryPass_desk _ none).trans rfl; rfl]

theorem applyShelfUnlock_desk (o : Order) : (applyShelfUnlock s o).1.desk = s.desk := by
  refine s.withArgs_desk fun q => ?_
  unfold State.unlockOrder
  dsimp only
  split <;> [exact (State.retryPass_desk _ none).trans rfl; rfl]

theorem applyNextTicket_desk (o : Order) : (applyNextTicket s o).1.desk = s.desk := by
  unfold applyNextTicket
  split <;> [(split <;> rfl); rfl]

theorem applyConfirmTicket_desk (o : Order) : (applyConfirmTicket s o).1.desk = s.desk := by
  refine s.withArgs_desk fun n => ?_
  unfold State.confirmOrder
  split
  · rfl
  · split <;> [(apply State.desk_eq <;> simp); rfl]

theorem applyRefuseTicket_desk (o : Order) : (applyRefuseTicket s o).1.desk = s.desk := by
  refine s.withArgs_desk fun a => ?_
  unfold State.refuseOrder
  split
  · rfl
  · split
    · dsimp only
      split <;> (apply State.desk_eq <;> simp)
    · rfl

theorem applyIdentify_desk (o : Order) : (applyIdentify s o).1.desk = s.desk := by
  unfold applyIdentify
  split <;> rfl

/-- SOFT-RESET makes S the last served port, and leaves the rest of the desk alone (R183). -/
theorem State.softReset_desk : s.softReset.desk = { s.desk with lastPort := portS } := by
  have queues := s.softReset_orderQueues
  unfold State.desk
  rw [queues]
  unfold State.softReset
  rw [State.abandonRepair_eq]

/-- No order but an accepted SOFT-RESET touches the desk. -/
theorem applyOf_desk (n : Nat) (o : Order) :
    (applyOf n s o).1.desk = { s.desk with lastPort := if n = 33 ∧ o.args = [] then portS else s.lastPort } := by
  by_cases h : n = 33
  · subst h
    change (applySoftReset s o).1.desk = _
    unfold applySoftReset
    split
    · rename_i hargs
      rw [if_pos ⟨rfl, hargs⟩]
      exact s.softReset_desk
    · rename_i hargs
      rw [if_neg fun ha => hargs ha.2]
      rfl
  · rw [if_neg fun ha => h ha.1]
    change _ = s.desk
    unfold applyOf
    split
    case h_1 => exact applyMountReel_desk s o
    case h_2 => exact applyUnmount_desk s o
    case h_3 => exact applyHoldReel_desk s o
    case h_4 => exact applyResumeReel_desk s o
    case h_5 => exact applySetReelPolicy_desk s o
    case h_7 => exact applySetGauge_desk s o
    case h_9 => exact applySetPoolMarks_desk s o
    case h_11 => exact applySetDefectLimits_desk s o
    case h_12 => exact applySetRepairLimits_desk s o
    case h_13 => exact applyLoadProfileCurve_desk s o
    case h_14 => exact applySetProfileLevels_desk s o
    case h_16 => exact applySetReelGrade_desk s o
    case h_17 => exact applySetCue_desk s o
    case h_18 => exact applyClearCues_desk s o
    case h_20 => exact applySetAckWait_desk s o
    case h_22 => exact applyWriteCatalogue_desk s o
    case h_23 => exact applyEraseCatalogue_desk s o
    case h_25 => exact applyDefineShelves_desk s o
    case h_27 => exact applyShelfUnlock_desk s o
    case h_29 => exact applyNextTicket_desk s o
    case h_30 => exact applyConfirmTicket_desk s o
    case h_31 => exact applyRefuseTicket_desk s o
    case h_32 => exact applyIdentify_desk s o
    case h_33 => exact absurd rfl h
    case h_36 => rfl
    all_goals exact s.withArgs_desk fun _ => rfl

/-- The taking of an order leaves the cells sent, the waiting commands and the reset input alone. -/
theorem State.popOrder_desk (p : Port) : (s.popOrder p).desk =
    { s.desk with lastPort := p, orderQueues := (s.popOrder p).orderQueues } := rfl

end

end Sys2Proof.Machine
end

section
/-! PROOFS. What an event sends: at most one cell, on an UP port, with the port's sequence number, and nothing while the reset
input is low (section 11.8, R131 to R134, R177, R178) (O2, O10, O11). -/

namespace Sys2Proof.Machine

/-! ### The one cell of an event -/

/-- A state of which nothing was sent, or one cell, numbered by the port's counter (R178). -/
def State.Emits (s t : State) : Prop :=
  t.wire = s.wire ∨
  ∃ (p : Port) (kind : Byte) (payload : List Byte),
    t.wire = s.wire ++ [⟨p, cellBytes kind s.links.ports[p].seqOut payload⟩] ∧
    t.links.ports[p].seqOut = s.links.ports[p].seqOut + 1 ∧ s.links.ports[p].link = .up ∧ s.resetLow = false

theorem State.maySend_iff {s : State} {p : Port} : s.maySend p = true ↔ s.links.ports[p].link = .up ∧ s.resetLow = false := by
  rw [State.maySend, Bool.and_eq_true, State.isUp_iff, Bool.not_eq_true']

theorem State.handOver_seqOut (s : State) (p : Port) : s.handOver.links.ports[p].seqOut = s.links.ports[p].seqOut := by
  unfold State.handOver
  split
  · split
    · rfl
    · refine (congrArg PortState.seqOut (modEntry_get _ _ _ _)).trans ?_
      split <;> rfl
  · rfl

/-- A cell sent where the port may send, with the hand-over behind it. -/
theorem State.Emits.sendCell {s u : State} {p : Port} (hw : u.wire = s.wire)
    (hq : u.links.ports[p].seqOut = s.links.ports[p].seqOut) (hm : s.maySend p = true) (kind : Byte) (payload : List Byte) :
    s.Emits (u.sendCell p kind payload) := by
  obtain ⟨up, high⟩ := State.maySend_iff.1 hm
  refine .inr ⟨p, kind, payload, by rw [State.sendCell_wire, hw, hq], ?_, up, high⟩
  rw [State.sendCell_links, modEntry_get, if_pos rfl, hq]

/-- What keeps the cells and the counters leaves the event's one cell. -/
theorem State.Emits.keeps {s t u : State} (h : s.Emits t) (hw : u.wire = t.wire)
    (hq : ∀ p : Port, u.links.ports[p].seqOut = t.links.ports[p].seqOut) : s.Emits u := by
  obtain quiet | ⟨p, kind, payload, wire, seqOut, sender⟩ := h
  · exact .inl (hw.trans quiet)
  · exact .inr ⟨p, kind, payload, hw.trans wire, (hq p).trans seqOut, sender⟩

/-! ### The start of a send (R131, R133) -/

/-- A send was started on port S: its FRAME-OUT is the one cell sent, and the transmitter is no longer IDLE. -/
structure State.Started (s t : State) : Prop where
  idle : s.delivery.transmitter = .idle
  busy : t.delivery.transmitter ≠ .idle
  sender : s.maySend portS = true
  cell : ∃ payload, t.wire = s.wire ++ [⟨portS, cellBytes kindFrameOut s.links.ports[portS].seqOut payload⟩]
  seqOut : t.links.ports[portS].seqOut = s.links.ports[portS].seqOut + 1

/-- The standing part is the same, and at most one send was started. -/
structure State.MayStart (s t : State) : Prop where
  standing : t.standing = s.standing
  outlet : t.outlet = s.outlet ∨ s.Started t

section

variable {s t u : State}

theorem State.Started.of_outlet (h : t.Started u) (ho : t.outlet = s.outlet) (hs : t.standing = s.standing) : s.Started u := by
  obtain ⟨idle, busy, sender, cell, seqOut⟩ := h
  simp only [State.outlet, Outlet.mk.injEq] at ho
  obtain ⟨wire, link, counter, transmitter⟩ := ho
  have low : t.resetLow = s.resetLow := congrArg Standing.resetLow hs
  rw [State.maySend_iff, link, low, ← State.maySend_iff] at sender
  exact ⟨transmitter ▸ idle, busy, sender, wire ▸ counter ▸ cell, counter ▸ seqOut⟩

theorem State.Started.then_outlet (h : s.Started t) (ho : u.outlet = t.outlet) : s.Started u := by
  obtain ⟨idle, busy, sender, cell, seqOut⟩ := h
  simp only [State.outlet, Outlet.mk.injEq] at ho
  obtain ⟨wire, -, counter, transmitter⟩ := ho
  exact ⟨idle, transmitter ▸ busy, sender, wire ▸ cell, counter.trans seqOut⟩

theorem State.MayStart.quiet (hs : t.standing = s.standing) (ho : t.outlet = s.outlet) : s.MayStart t := ⟨hs, .inl ho⟩

theorem State.MayStart.refl (s : State) : s.MayStart s := .quiet rfl rfl

/-- A started send keeps the transmitter busy, so that the arbiter starts no second one in the event (R131). -/
theorem State.MayStart.trans (h : s.MayStart t) (h' : t.MayStart u) : s.MayStart u := by
  refine ⟨h'.standing.trans h.standing, ?_⟩
  obtain quiet | started := h.outlet <;> obtain quiet' | started' := h'.outlet
  · exact .inl (quiet'.trans quiet)
  · exact .inr (started'.of_outlet quiet h.standing)
  · exact .inr (started.then_outlet quiet')
  · exact absurd started'.idle started.busy

theorem State.MayStart.emits (h : s.MayStart t) : s.Emits t := by
  obtain quiet | ⟨-, -, sender, ⟨payload, wire⟩, seqOut⟩ := h.outlet
  · exact .inl (congrArg Outlet.wire quiet)
  · obtain ⟨up, high⟩ := State.maySend_iff.1 sender
    exact .inr ⟨portS, kindFrameOut, payload, wire, seqOut, up, high⟩

variable (s)

theorem State.MayStart.arbiterSearch : s.MayStart s.arbiterSearch := by
  refine ⟨s.arbiterSearch_standing, ?_⟩
  unfold State.arbiterSearch
  split
  · rename_i h
    obtain ⟨idle, up, high⟩ := h
    split
    · exact .inl rfl
    · split
      · exact .inl rfl
      · refine .inr ⟨idle, nofun, State.maySend_iff.2 ⟨State.isUp_iff.1 up, high⟩, ⟨_, rfl⟩, ?_⟩
        exact (congrArg PortState.seqOut (modEntry_get _ _ _ _)).trans (by rw [if_pos rfl]; rfl)
  · exact .inl rfl

theorem State.MayStart.joinLane (b : Buf) : s.MayStart (s.joinLane b) := by
  unfold State.joinLane
  dsimp only
  refine .trans ?_ (arbiterSearch _)
  exact quiet rfl rfl

theorem State.MayStart.heavyPath (b : Buf) (r : Slot) : s.MayStart (s.heavyPath b r) := by
  have flagged : s.MayStart (s.modBuffer b fun x => { x with heavy := true, successorHold := !x.overflow }) := quiet rfl rfl
  unfold State.heavyPath
  dsimp only
  refine (flagged.trans (joinLane _ b)).trans ?_
  exact quiet rfl rfl

theorem State.MayStart.defectEnd (b : Buf) (r : Slot) (p : Option Buf) (heavy : Bool) :
    s.MayStart (s.defectEnd b r p heavy) := by
  have path : s.MayStart (if heavy then (s.countReel r (countFrameEnd s.pool.buffers[b] heavy)).heavyPath b r
      else (s.countReel r (countFrameEnd s.pool.buffers[b] heavy)).becomePending b) := by
    have counted : s.MayStart (s.countReel r (countFrameEnd s.pool.buffers[b] heavy)) := quiet rfl rfl
    split <;> [exact counted.trans (heavyPath _ b r); exact quiet rfl rfl]
  unfold State.defectEnd
  dsimp only
  split
  · exact path.trans (quiet (State.predecessorAtEnd_standing _ _ _ _) (State.predecessorAtEnd_outlet _ _ _ _))
  · exact path

/-- A frame's end sends at most the FRAME-OUT of a heavy frame (R70). -/
theorem State.MayStart.closeFrame (h : Head) (b : Buf) (d : FrameDesc) : s.MayStart (s.closeFrame h b d) := by
  have counted : s.MayStart ((s.assembleFrame b d.slot).perfUpdate d.slot d.causes) := quiet (by simp) (by simp)
  unfold State.closeFrame
  dsimp only
  generalize heavyDecision _ _ = heavy
  refine (counted.trans (defectEnd _ b d.slot (s.predecessor d.slot b) heavy)).trans ?_
  exact quiet (by simp) (by simp)

theorem State.MayStart.endAssembly (h : Head) : s.MayStart (s.endAssembly h) := by
  unfold State.endAssembly
  split <;> [exact closeFrame s h _ _; exact quiet rfl rfl]

theorem State.MayStart.takeFrameHead (h : Head) (f : FrameHeadFields) : s.MayStart (s.takeFrameHead h f) := by
  unfold State.takeFrameHead
  dsimp only
  split
  · exact (closeFrame s h _ _).trans (quiet (State.openingTests_standing _ _ _) (State.openingTests_outlet _ _ _))
  · exact quiet (s.openingTests_standing h f) (s.openingTests_outlet h f)

theorem State.MayStart.onFrameHead (h : Head) (c : RxCell) : s.MayStart (s.onFrameHead h c) := by
  unfold State.onFrameHead
  split <;> [exact takeFrameHead s h _; exact quiet rfl rfl]

theorem State.MayStart.onLine (h : Head) (c : RxCell) : s.MayStart (s.onLine h c) :=
  quiet (s.onLine_standing h c) (s.onLine_outlet h c)

theorem State.MayStart.onFrameEnd (h : Head) (c : RxCell) : s.MayStart (s.onFrameEnd h c) := by
  unfold State.onFrameEnd State.takeFrameEnd
  split
  · split <;> [exact closeFrame s h _ _; exact quiet rfl rfl]
  · exact quiet rfl rfl

theorem State.MayStart.onReelEnd (h : Head) (c : RxCell) : s.MayStart (s.onReelEnd h c) := by
  unfold State.onReelEnd State.takeReelEnd
  dsimp only
  split
  · split
    · exact (endAssembly s h).trans (quiet (by simp) (by simp))
    · exact (endAssembly s h).trans (quiet rfl rfl)
  · exact quiet rfl rfl

theorem State.MayStart.onStoreAck (c : RxCell) : s.MayStart (s.onStoreAck c) :=
  quiet (s.onStoreAck_standing c) (s.onStoreAck_outlet c)

theorem State.MayStart.onCredit (c : RxCell) : s.MayStart (s.onCredit c) := by
  unfold State.onCredit State.addCredit
  split
  · dsimp only
    refine .trans ?_ (arbiterSearch _)
    exact quiet rfl rfl
  · exact quiet rfl rfl

theorem State.MayStart.onOrder (p : Port) (c : RxCell) : s.MayStart (s.onOrder p c) :=
  quiet (s.onOrder_standing p c) (s.onOrder_outlet p c)

/-- Any cell that arrives, by the table of R176. -/
theorem State.MayStart.onCell (p : Port) (kind : Byte) (c : RxCell) : s.MayStart (s.onCell p kind c) := by
  have other : s.MayStart (s.onOtherKind p kind c) := quiet (s.onOtherKind_standing p kind c) (s.onOtherKind_outlet p kind c)
  unfold State.onCell
  split
  · exact onOrder s p c
  · split
    · split <;> [exact onFrameHead s _ c; skip]
      split <;> [exact onLine s _ c; skip]
      split <;> [exact onFrameEnd s _ c; skip]
      split <;> [exact onReelEnd s _ c; exact other]
    · split <;> [exact onStoreAck s c; skip]
      split <;> [exact onCredit s c; exact other]

theorem State.MayStart.loseHeadLink (h : Head) : s.MayStart (s.loseHeadLink h) := by
  have lost : s.MayStart ((s.setLink (headPort h) .down).raise .portDown h.val none 0) :=
    quiet rfl (s.modHeadPort_outlet h _)
  have ended := lost.trans (endAssembly _ h)
  unfold State.loseHeadLink
  dsimp only
  split
  · split
    · exact ended.trans (quiet (by simp) (by simp))
    · exact ended.trans (quiet (by simp) (by simp))
  · exact ended.trans (quiet (by simp) (by simp))

theorem State.MayStart.completeRepair (j : RepairJob) : s.MayStart (s.completeRepair j) := by
  have written : s.MayStart ((s.writeRepair j).releaseNeighbours j.request) := quiet (by simp) (by simp)
  have idled : ∀ u : State, u.MayStart (State.engineTake { u with repair := { u.repair with engine := none } }) := fun u =>
    quiet ((State.engineTake_standing _).trans rfl) ((State.engineTake_outlet _).trans rfl)
  unfold State.completeRepair
  dsimp only
  refine .trans ?_ (idled _)
  split
  · exact written.trans (quiet (by simp) (by simp))
  · exact written.trans (joinLane _ _)

end

/-! ### Every command -/

/-- A command that has run: the queue and the reset input as they were, and at most one cell sent. -/
structure State.Completes (s t : State) : Prop where
  pending : t.pending = s.pending
  resetLow : t.resetLow = s.resetLow
  emits : s.Emits t

/-- An outcome is a next state, and the command has run. -/
def Completing (s : State) (x : Host.Outcome State Fault Refusal) : Prop := ∃ t, x = .next t ∧ s.Completes t

section

variable {s t u : State}

theorem State.Completes.of_standing (hs : t.standing = s.standing) (h : s.Emits t) : s.Completes t :=
  ⟨congrArg Standing.pending hs, congrArg Standing.resetLow hs, h⟩

theorem State.Completes.handOver (h : s.Completes t) : s.Completes t.handOver := by
  obtain ⟨pending, resetLow, emits⟩ := h
  have standing := t.handOver_standing
  exact ⟨(congrArg Standing.pending standing).trans pending, (congrArg Standing.resetLow standing).trans resetLow,
    emits.keeps t.handOver_wire t.handOver_seqOut⟩

theorem State.Completes.finish (h : s.Completes t) : Completing s t.finish := ⟨_, rfl, h.handOver⟩

theorem State.MayStart.completes (h : s.MayStart t) : s.Completes t := .of_standing h.standing h.emits

theorem State.MayStart.finish (h : s.MayStart t) : Completing s t.finish := h.completes.finish

theorem Completing.next (s : State) : Completing s (.next s) := ⟨s, rfl, (State.MayStart.refl s).completes⟩

theorem State.MayStart.arrival (p : Port) (h : s.MayStart t) : Completing s (s.arrival p t) := by
  unfold State.arrival
  split <;> [exact h.finish; exact .next s]

theorem State.Completes.of_desk (hp : t.pending = s.pending) (hr : t.resetLow = s.resetLow) (hw : t.wire = s.wire) :
    s.Completes t := ⟨hp, hr, .inl hw⟩

variable (s)

/-- No order sends a cell in the event of its taking: its reply waits in the transmit list (R177, R180). -/
theorem Completing.order {c : Instr} {n : Nat} (hc : c ∈ orderCommands n) : Completing s (exec c s) := by
  have replies : ∀ p o e, State.desk e.1 = { (s.popOrder p).desk with lastPort := (State.desk e.1).lastPort } →
      s.Completes (replied p o e) := by
    intro p o e he
    have kept := (replied_desk p o e).trans he
    exact .of_desk (congrArg Desk.pending kept) (congrArg Desk.resetLow kept) (congrArg Desk.wire kept)
  obtain ⟨t, ht, rfl | ⟨p, o, rfl | rfl⟩⟩ := exec_order_cases hc s
  · exact ⟨t, ht, (State.MayStart.refl t).completes⟩
  · exact ⟨_, ht, replies p o _ rfl⟩
  · exact ⟨_, ht, replies p o _ (by rw [applyOf_desk])⟩

/-- The loss of port S's link sends nothing (R136). -/
theorem State.loseStoreLink_wire : s.loseStoreLink.wire = s.wire := by
  have cut : ∀ u : State, u.cutSend.wire = u.wire := by
    intro u
    unfold State.cutSend
    split
    · rfl
    · dsimp only
      split <;> rfl
  unfold State.loseStoreLink
  exact (congrArg Outlet.wire (State.emptyPort_outlet _ _)).trans (cut _)

theorem Completing.storeLinkLoss : Completing s (execStoreLinkLoss s) := by
  unfold execStoreLinkLoss
  split
  · exact (State.Completes.of_standing s.loseStoreLink_standing (.inl s.loseStoreLink_wire)).finish
  · exact .next s

theorem Completing.storeLinkUp : Completing s (execStoreLinkUp s) := by
  unfold execStoreLinkUp
  split
  · exact .next s
  · refine State.Completes.finish ?_
    exact .of_desk rfl rfl rfl

theorem Completing.headLinkLoss (h : Head) : Completing s (execHeadLinkLoss h s) := by
  unfold execHeadLinkLoss
  split <;> [exact (State.MayStart.loseHeadLink s h).finish; exact .next s]

theorem Completing.headLinkUp (h : Head) : Completing s (execHeadLinkUp h s) := by
  unfold execHeadLinkUp
  split <;> [exact .next s; exact (State.MayStart.quiet (s.gainHeadLink_standing h) (s.gainHeadLink_outlet h)).finish]

theorem Completing.repairWaitTimerExpiry (b : Buf) : Completing s (execRepairWaitTimerExpiry b s) := by
  unfold execRepairWaitTimerExpiry
  split <;> [exact (State.MayStart.quiet (s.requestRepair_standing b none) (s.requestRepair_outlet b none)).finish; exact .next s]

theorem Completing.ackTimerExpiry (b : Buf) : Completing s (execAckTimerExpiry b s) := by
  unfold execAckTimerExpiry
  split <;> [exact (State.MayStart.quiet (s.ackExpiry_standing b) (s.ackExpiry_outlet b)).finish; exact .next s]

theorem Completing.repairCompletion : Completing s (execRepairCompletion s) := by
  unfold execRepairCompletion
  split <;> [exact .next s; exact (State.MayStart.completeRepair s _).finish]

/-- The completion of a send makes the transmitter IDLE and may start the next one (R135). -/
theorem State.Completes.completeSend (b : Buf) : s.Completes (s.completeSend b) := by
  unfold State.completeSend
  obtain ⟨pending, resetLow, emits⟩ := (State.MayStart.arbiterSearch _).completes
  exact ⟨pending, resetLow, emits⟩

theorem Completing.sendCompletion : Completing s (execSendCompletion s) := by
  unfold execSendCompletion
  split
  · exact .next s
  · split <;> [exact (State.Completes.completeSend s _).finish; exact .next s]

theorem Completing.outLine : Completing s (execOutLine s) := by
  unfold execOutLine
  split
  · exact .next s
  · rename_i b k _
    split
    · rename_i h
      obtain ⟨-, hm, -⟩ := h
      exact (State.Completes.of_standing (s.sendLine_standing b k) (.sendCell rfl rfl hm _ _)).finish
    · exact .next s

theorem State.mgmtMayGo_maySend {s : State} {p : Port} (h : s.mgmtMayGo p = true) : s.maySend p = true := by
  simp only [State.mgmtMayGo, Bool.and_eq_true] at h
  exact h.1.1

theorem State.Emits.sendMgmt {p : Port} (h : s.mgmtMayGo p = true) (c : MgmtCell) : s.Emits (s.sendMgmt p c) := by
  unfold State.sendMgmt
  dsimp only
  refine .sendCell ?_ ?_ (State.mgmtMayGo_maySend h) _ _
  · rfl
  · exact (congrArg PortState.seqOut (modEntry_get _ _ _ _)).trans (by rw [if_pos rfl])

theorem State.Emits.sendNotice {p : Port} (h : s.mgmtMayGo p = true) (c : MgmtCell) : s.Emits (s.sendNotice p c) :=
  (sendMgmt s h c).keeps rfl fun _ => rfl

theorem Completing.replySent (p : Port) : Completing s (execReplySent p s) := by
  unfold execReplySent
  split
  · split
    · rename_i h
      exact (State.Completes.of_standing (s.sendMgmt_standing p _) (.sendMgmt s h _)).finish
    · exact .next s
  · exact .next s

theorem Completing.noticeSent : Completing s (execNoticeSent s) := by
  unfold execNoticeSent
  split
  · exact .next s
  · split
    · split
      · rename_i h
        exact (State.Completes.of_standing (s.sendNotice_standing _ _) (.sendNotice s h _)).finish
      · exact .next s
    · exact .next s

theorem Completing.flowCellSent (h : Head) : Completing s (execFlowCellSent h s) := by
  unfold execFlowCellSent
  split
  · exact .next s
  · split
    · rename_i hm
      refine State.Completes.finish (.of_standing rfl ?_)
      refine .sendCell ?_ ?_ hm _ _
      · rfl
      · exact (congrArg PortState.seqOut (modEntry_get _ _ _ _)).trans (by rw [if_pos rfl])
    · exact .next s

/-- Every command but those of the reset input itself leaves the input and the queue alone and sends at most one cell. -/
theorem Completing.exec {c : Instr} (hp : c ≠ .powerOn) (hr : c ≠ .resetInputLow) : Completing s (exec c s) := by
  cases c with
  | powerOn => exact absurd rfl hp
  | resetInputLow => exact absurd rfl hr
  | headLinkLoss h => exact headLinkLoss s h
  | headLinkUp h => exact headLinkUp s h
  | storeLinkLoss => exact storeLinkLoss s
  | storeLinkUp => exact storeLinkUp s
  | frameHead h c => exact (State.MayStart.onFrameHead s h c).arrival _
  | line h c => exact (State.MayStart.onLine s h c).arrival _
  | frameEnd h c => exact (State.MayStart.onFrameEnd s h c).arrival _
  | reelEnd h c => exact (State.MayStart.onReelEnd s h c).arrival _
  | storeAck c => exact (State.MayStart.onStoreAck s c).arrival _
  | credit c => exact (State.MayStart.onCredit s c).arrival _
  | order p c => exact (State.MayStart.onOrder s p c).arrival _
  | otherKindCell p k c => exact (State.MayStart.onCell s p k c).arrival _
  | repairWaitTimerExpiry b => exact repairWaitTimerExpiry s b
  | ackTimerExpiry b => exact ackTimerExpiry s b
  | repairCompletion => exact repairCompletion s
  | outLine => exact outLine s
  | sendCompletion => exact sendCompletion s
  | replySent p => exact replySent s p
  | noticeSent => exact noticeSent s
  | flowCellSent h => exact flowCellSent s h
  | mountReel => exact order (n := 1) s (by decide)
  | unmountReelEnd | unmountReelAbort => exact order (n := 2) s (by decide)
  | holdReel => exact order (n := 3) s (by decide)
  | resumeReel => exact order (n := 4) s (by decide)
  | setReelPolicy => exact order (n := 5) s (by decide)
  | readReel => exact order (n := 6) s (by decide)
  | setGauge => exact order (n := 7) s (by decide)
  | readHead => exact order (n := 8) s (by decide)
  | setPoolMarks => exact order (n := 9) s (by decide)
  | readPool => exact order (n := 10) s (by decide)
  | setDefectLimits => exact order (n := 11) s (by decide)
  | setRepairLimits => exact order (n := 12) s (by decide)
  | loadProfileCurve => exact order (n := 13) s (by decide)
  | setProfileLevels => exact order (n := 14) s (by decide)
  | readProfile => exact order (n := 15) s (by decide)
  | setReelGrade => exact order (n := 16) s (by decide)
  | setCue => exact order (n := 17) s (by decide)
  | clearCues => exact order (n := 18) s (by decide)
  | writeLaneMap => exact order (n := 19) s (by decide)
  | setAckWait => exact order (n := 20) s (by decide)
  | readLanes => exact order (n := 21) s (by decide)
  | writeCatalogue => exact order (n := 22) s (by decide)
  | eraseCatalogue => exact order (n := 23) s (by decide)
  | readCatalogue => exact order (n := 24) s (by decide)
  | defineShelves => exact order (n := 25) s (by decide)
  | shelfLock => exact order (n := 26) s (by decide)
  | shelfUnlock => exact order (n := 27) s (by decide)
  | readShelf => exact order (n := 28) s (by decide)
  | nextTicket => exact order (n := 29) s (by decide)
  | confirmTicket => exact order (n := 30) s (by decide)
  | refuseTicket => exact order (n := 31) s (by decide)
  | identify => exact order (n := 32) s (by decide)
  | softReset => exact order (n := 33) s (by decide)
  | setNoticeLevels => exact order (n := 34) s (by decide)
  | setNoticePort => exact order (n := 35) s (by decide)

end

/-- A command's next state is the one it completes in, or that of an event of the reset input. -/
theorem exec_cases {c : Instr} {s t : State} (h : exec c s = .next t) :
    s.Completes t ∨ c = .powerOn ∧ t = s.powerOn ∨ c = .resetInputLow ∧ t = { s with resetLow := true } := by
  by_cases hp : c = .powerOn
  · subst hp
    cases h
    exact .inr (.inl ⟨rfl, rfl⟩)
  by_cases hr : c = .resetInputLow
  · subst hr
    cases h
    exact .inr (.inr ⟨rfl, rfl⟩)
  obtain ⟨u, hu, completes⟩ := Completing.exec s hp hr
  cases hu.symm.trans h
  exact .inl completes

/-- Settles O11: a send that an event starts keeps the transmitter busy for the rest of it, and any other cell is an event's own. -/
theorem eachEventSendsAtMostOneCell : Obligations.EachEventSendsAtMostOneCell := by
  intro c s t h
  obtain completes | ⟨-, rfl⟩ | ⟨-, rfl⟩ := exec_cases h
  · exact completes.emits
  · exact .inl rfl
  · exact .inl rfl

/-- Settles O10: the one cell of an event needs the reset input high, and the release alone raises it. -/
theorem nothingIsSentWhileResetIsLow : Obligations.NothingIsSentWhileResetIsLow := by
  intro c s t low h
  refine ⟨?wire, fun hc => ?input⟩
  case wire =>
    obtain quiet | ⟨_, _, _, _, _, _, high⟩ := eachEventSendsAtMostOneCell c s t h
    · exact quiet
    · exact nomatch low.symm.trans high
  case input =>
    obtain completes | ⟨released, -⟩ | ⟨-, rfl⟩ := exec_cases h
    · exact completes.resetLow.trans low
    · exact absurd released hc
    · rfl

/-- Settles O2: the commands of the reset input, and every other one. -/
theorem everyCommandCompletes : Obligations.EveryCommandCompletes := by
  intro c s
  by_cases hp : c = .powerOn
  · subst hp
    exact ⟨s.powerOn, rfl, rfl⟩
  by_cases hr : c = .resetInputLow
  · subst hr
    exact ⟨_, rfl, rfl⟩
  obtain ⟨t, ht, completes⟩ := Completing.exec s hp hr
  exact ⟨t, ht, completes.pending⟩

end Sys2Proof.Machine
end

section
/-! PROOFS. The notice unit's hand-over, raises and returns, and the cells that wait at a port (R177, R184, R185) (O12, O13, O15,
O55). -/

namespace Sys2Proof.Machine

/-! ### The choice of a notice (R185) -/

/-- A pending notice that no eligible one of a list is to go before: of a lower level, or of its level and later in the table. -/
def NoticeUnit.Leads (u : NoticeUnit) (l : List Notice) (n : Notice) : Prop :=
  ∀ m ∈ l, u.mask ≤ u.levelOf m → u.levelOf m < u.levelOf n ∨ u.levelOf m = u.levelOf n ∧ n.key ≤ m.key

theorem NoticeUnit.eligible_iff {u : NoticeUnit} {n : Notice} : u.eligible n = true ↔ u.mask ≤ u.levelOf n := decide_eq_true_iff

theorem NoticeUnit.choose_eq_none_iff {u : NoticeUnit} {l : List Notice} :
    u.choose l = none ↔ ∀ n ∈ l, u.levelOf n < u.mask := by
  induction l with
  | nil => simp [NoticeUnit.choose]
  | cons n l ih =>
    rw [List.forall_mem_cons, ← ih, NoticeUnit.choose]
    cases u.choose l with
    | none => simp [NoticeUnit.eligible]
    | some m => simp only [reduceCtorEq, and_false, iff_false]; split <;> exact nofun

/-- The chosen notice of a list in table order is eligible and leads the list. -/
theorem NoticeUnit.choose_leads {u : NoticeUnit} {l : List Notice} (hl : l.Pairwise fun a b => a.key < b.key) {n : Notice}
    (h : u.choose l = some n) : u.mask ≤ u.levelOf n ∧ u.Leads l n := by
  induction l generalizing n with
  | nil => cases h
  | cons a l ih =>
    obtain ⟨later, sorted⟩ := List.pairwise_cons.1 hl
    unfold NoticeUnit.choose at h
    split at h
    · rename_i none_
      split at h
      · rename_i ha
        cases h
        refine ⟨NoticeUnit.eligible_iff.1 ha, List.forall_mem_cons.2 ⟨fun _ => .inr ⟨rfl, Nat.le_refl _⟩, fun m hm he => ?_⟩⟩
        exact absurd he (Nat.not_le.2 (NoticeUnit.choose_eq_none_iff.1 none_ m hm))
      · cases h
    · rename_i m hm
      obtain ⟨eligible, leads⟩ := ih sorted hm
      split at h
      · rename_i ha
        cases h
        rw [Bool.and_eq_true, NoticeUnit.eligible_iff, decide_eq_true_eq] at ha
        obtain ⟨ha, hle⟩ := ha
        refine ⟨ha, List.forall_mem_cons.2 ⟨fun _ => .inr ⟨rfl, Nat.le_refl _⟩, fun k hk he => ?_⟩⟩
        have := leads k hk he
        have := later k hk
        omega
      · rename_i ha
        cases h
        rw [Bool.and_eq_true, NoticeUnit.eligible_iff, decide_eq_true_eq, not_and] at ha
        refine ⟨eligible, List.forall_mem_cons.2 ⟨fun he => .inl (Nat.not_le.1 (ha he)), leads⟩⟩

/-- The eligible notice that leads a list in table order is the one chosen. -/
theorem NoticeUnit.choose_eq_some {u : NoticeUnit} {l : List Notice} (hl : l.Pairwise fun a b => a.key < b.key) {n : Notice}
    (hn : n ∈ l) (he : u.mask ≤ u.levelOf n) (hf : u.Leads l n) : u.choose l = some n := by
  cases hc : u.choose l with
  | none => exact absurd he (Nat.not_le.2 (NoticeUnit.choose_eq_none_iff.1 hc n hn))
  | some m =>
    obtain ⟨eligible, leads⟩ := NoticeUnit.choose_leads hl hc
    have hm := NoticeUnit.choose_mem hc
    have below := hf m hm eligible
    have above := leads n hn he
    rw [Notice.eq_of_sorted hl hm hn (by omega)]

section

variable {s : State}

theorem State.handOver_ready {n : Notice} (hi : s.notices.inFlight = none) (hu : s.links.ports[s.notices.port].link = .up)
    (hr : s.links.ports[s.notices.port].transmit.length < 8) (hc : s.notices.choose s.notices.waiting = some n) :
    s.handOver = s.giveNotice n := by
  have room : s.links.ports[s.notices.port].transmit.length < Config.maxTransmit := hr
  rw [State.handOver, hi, State.isUp_iff.2 hu, decide_eq_true room, hc]
  rfl

theorem State.handOver_noneEligible (hc : s.notices.choose s.notices.waiting = none) : s.handOver = s := by
  unfold State.handOver
  rw [hc]
  exact ite_self s

theorem State.handOver_notReady (h : ¬ (s.notices.inFlight = none ∧ s.links.ports[s.notices.port].link = .up ∧
    s.links.ports[s.notices.port].transmit.length < 8)) : s.handOver = s := by
  refine if_neg fun hc => h ?_
  rw [Bool.and_eq_true, Bool.and_eq_true, State.isUp_iff, Option.isNone_iff_eq_none, decide_eq_true_eq] at hc
  exact ⟨hc.1.1, hc.1.2, hc.2⟩

end

/-- Settles O12: the chosen notice is the one that leads the pending ones, and none is chosen when none is eligible. -/
theorem handOverChoosesHighestThenFirst : Obligations.HandOverChoosesHighestThenFirst := by
  intro s hs ready
  refine ⟨fun n hn hready he hlead => ?given, fun hnone => ?noneEligible, fun hnot => State.handOver_notReady hnot⟩
  case given =>
    obtain ⟨hi, hu, hr⟩ := hready
    rw [State.handOver_ready hi hu hr (NoticeUnit.choose_eq_some hs.sorted hn he hlead)]
    rfl
  case noneEligible => exact State.handOver_noneEligible (NoticeUnit.choose_eq_none_iff.2 hnone)

/-! ### The placing of a notice (R184, R185) -/

section

variable {n m : Notice} {join : Notice → Notice} {l : List Notice}

/-- A notice of the list after the placing: the placed one, one joined with it, or one that was there. -/
theorem mem_of_mem_placeNotice (h : m ∈ placeNotice n join l) : m = n ∨ (∃ a ∈ l, a.key = n.key ∧ m = join a) ∨ m ∈ l := by
  induction l with
  | nil => exact .inl (List.mem_singleton.1 h)
  | cons a l ih =>
    unfold placeNotice at h
    split at h
    · rename_i ha
      obtain rfl | hm := List.mem_cons.1 h
      · exact .inr (.inl ⟨a, List.mem_cons_self, ha, rfl⟩)
      · exact .inr (.inr (List.mem_cons_of_mem _ hm))
    · split at h
      · exact (List.mem_cons.1 h).imp_right .inr
      · obtain rfl | hm := List.mem_cons.1 h
        · exact .inr (.inr List.mem_cons_self)
        · obtain placed | ⟨b, hb, joined⟩ | there := ih hm
          · exact .inl placed
          · exact .inr (.inl ⟨b, List.mem_cons_of_mem _ hb, joined⟩)
          · exact .inr (.inr (List.mem_cons_of_mem _ there))

/-- The other entries stand. -/
theorem mem_placeNotice_iff_of_ne (hj : ∀ a, (join a).key = a.key) (hk : m.key ≠ n.key) :
    m ∈ placeNotice n join l ↔ m ∈ l := by
  refine ⟨fun h => ?_, fun h => mem_placeNotice_of_ne h hk⟩
  obtain rfl | ⟨a, -, ha, rfl⟩ | there := mem_of_mem_placeNotice h
  · exact absurd rfl hk
  · exact absurd ((hj a).trans ha) hk
  · exact there

/-- The pending notice of the entry is joined with the placed one. -/
theorem join_mem_placeNotice (hl : l.Pairwise fun a b => a.key < b.key) (hm : m ∈ l) (hk : m.key = n.key) :
    join m ∈ placeNotice n join l := by
  induction l with
  | nil => cases hm
  | cons a l ih =>
    obtain ⟨later, sorted⟩ := List.pairwise_cons.1 hl
    unfold placeNotice
    obtain rfl | hm := List.mem_cons.1 hm
    · rw [if_pos hk]
      exact List.mem_cons_self
    · have := later m hm
      rw [if_neg (by omega), if_neg (by omega)]
      exact List.mem_cons_of_mem _ (ih sorted hm)

/-- With no pending notice of its entry the placed one takes its place. -/
theorem self_mem_placeNotice (hl : ∀ a ∈ l, a.key ≠ n.key) : n ∈ placeNotice n join l := by
  obtain ⟨m, hm, rfl⟩ := exists_mem_placeNotice (P := (· = n)) (join := join) rfl fun a ha hk => absurd hk (hl a ha)
  exact hm

end

/-- An entry is a kind and a number of its own. -/
theorem Notice.key_eq_iff {m n : Notice} (hm : m.inst < 8) (hn : n.inst < 8) : m.key = n.key ↔ m.kind = n.kind ∧ m.inst = n.inst := by
  refine ⟨Notice.eq_of_key hm hn, fun ⟨hk, hi⟩ => ?_⟩
  rw [Notice.key, Notice.key, hk, hi]

theorem Notice.key_ne_iff {m n : Notice} (hm : m.inst < 8) (hn : n.inst < 8) :
    m.key ≠ n.key ↔ m.kind ≠ n.kind ∨ m.inst ≠ n.inst := by
  rw [ne_eq, Notice.key_eq_iff hm hn, not_and_or]

section

variable {u : NoticeUnit} {n : Notice} {join : Notice → Notice} (hu : u.InRange) (hn : n.inst < 8)
include hu hn

/-- Notices of another entry stand, whatever their number. -/
theorem NoticeUnit.InRange.mem_place_iff (hkind : ∀ m, (join m).kind = m.kind) (hinst : ∀ m, (join m).inst = m.inst) {m : Notice}
    (hm : m.kind ≠ n.kind ∨ m.inst ≠ n.inst) : m ∈ placeNotice n join u.waiting ↔ m ∈ u.waiting := by
  have instances : ∀ a ∈ placeNotice n join u.waiting, a.inst < 8 :=
    placeNotice_forall hn (fun a ha => by rwa [hinst]) hu.instances
  have same : m.inst < 8 → (m ∈ placeNotice n join u.waiting ↔ m ∈ u.waiting) := fun h =>
    mem_placeNotice_iff_of_ne (fun a => by rw [Notice.key, Notice.key, hkind, hinst]) ((Notice.key_ne_iff h hn).2 hm)
  exact ⟨fun h => (same (instances m h)).1 h, fun h => (same (hu.instances m h)).2 h⟩

theorem NoticeUnit.InRange.join_mem_place {m : Notice} (hm : m ∈ u.waiting) (hk : m.kind = n.kind) (hi : m.inst = n.inst) :
    join m ∈ placeNotice n join u.waiting :=
  join_mem_placeNotice hu.sorted hm ((Notice.key_eq_iff (hu.instances m hm) hn).2 ⟨hk, hi⟩)

theorem NoticeUnit.InRange.self_mem_place (h : ∀ m ∈ u.waiting, m.kind ≠ n.kind ∨ m.inst ≠ n.inst) :
    n ∈ placeNotice n join u.waiting :=
  self_mem_placeNotice fun m hm => (Notice.key_ne_iff (hu.instances m hm) hn).2 (h m hm)

end

theorem State.returnNotice_here {s : State} {f : InFlight} (hf : s.notices.inFlight = some f) :
    s.returnNotice f.port = { s with notices := { s.notices with
      waiting := placeNotice f.notice (fun m => { m with count := min 255 (m.count + f.notice.count + 1) }) s.notices.waiting
      inFlight := none } } := by
  rw [State.returnNotice, hf]
  exact if_pos rfl

theorem State.returnNotice_elsewhere {s : State} {f : InFlight} {p : Port} (hf : s.notices.inFlight = some f) (hp : f.port ≠ p) :
    s.returnNotice p = s := by
  rw [State.returnNotice, hf]
  exact if_neg hp

/-- Settles O13: a raise and a return each place one notice among the pending ones, which stand in table order. -/
theorem raisesAndReturnsCoalesce : Obligations.RaisesAndReturnsCoalesce := by
  refine ⟨fun s kind inst record detail hinst hs => ?raised, fun s p f hf hs => ?returned⟩
  case raised =>
    dsimp only
    refine ⟨rfl, ?sorted, fun n hn => ?others, fun n hn hk hi => ?joined, fun hnone => ?alone⟩
    case sorted => exact placeNotice_sorted (fun _ => by rfl) hs.sorted
    case others => exact hs.mem_place_iff (n := ⟨kind, inst, record, detail, 0⟩) hinst (fun _ => by rfl) (fun _ => by rfl) hn
    case joined =>
      subst hk hi
      exact hs.join_mem_place (n := ⟨n.kind, n.inst, record, detail, 0⟩) hinst
        (join := fun m => { m with record := record, detail := detail, count := min 255 (m.count + 1) }) hn rfl rfl
    case alone => exact hs.self_mem_place (n := ⟨kind, inst, record, detail, 0⟩) hinst hnone
  case returned =>
    have hinst : f.notice.inst < 8 := (hs.inFlight f hf).2
    dsimp only
    refine ⟨fun hp => ?here, fun hp => State.returnNotice_elsewhere hf hp⟩
    subst hp
    rw [State.returnNotice_here hf]
    refine ⟨rfl, fun n hn => ?others, fun n hn hk hi => ?joined, fun hnone => ?alone⟩
    case others => exact hs.mem_place_iff hinst (fun _ => by rfl) (fun _ => by rfl) hn
    case joined =>
      exact hs.join_mem_place hinst (join := fun m => { m with count := min 255 (m.count + f.notice.count + 1) }) hn hk hi
    case alone => exact hs.self_mem_place hinst hnone

/-! ### Replies (R177) -/

theorem State.formReply_down {t : State} {p : Port} (hd : t.links.ports[p].link = .down) (tag : BitVec 16) (code : Byte)
    (status : Status) (ws : List Word) :
    t.formReply p tag code status ws = t.modPort p fun q => { q with dropped := q.dropped + 1 } :=
  if_neg fun h => nomatch hd.symm.trans (State.isUp_iff.1 (Bool.and_eq_true_iff.1 h).1)

/-- Settles O15: the link and the room in the list decide. -/
theorem replyJoinsTheTransmitList : Obligations.ReplyJoinsTheTransmitList := by
  intro p o t status results
  refine ⟨fun hu hr => ?joins, ?dropped⟩
  case joins =>
    rw [replied, State.formReply_room hu hr]
    rfl
  case dropped =>
    rintro (down | full)
    · rw [replied, State.formReply_down down]
      rfl
    · rw [replied, State.formReply_full full]
      rfl

/-! ### The cells that wait at a port (R177, R178, R185) -/

/-- A boundary between the cells of a frame being sent on port S (R177). -/
def State.AtBoundary (s : State) (p : Port) : Prop :=
  p = portS ∧ ∃ b k, s.delivery.transmitter = .sending b k ∧ k < s.pool.buffers[b].lines

theorem State.midSend_iff {s : State} :
    s.midSend = true ↔ ∃ b k, s.delivery.transmitter = .sending b k ∧ k < s.pool.buffers[b].lines := by
  unfold State.midSend
  split
  · rename_i h
    simp [h]
  · rename_i b k h
    rw [decide_eq_true_eq]
    refine ⟨fun hk => ⟨b, k, h, hk⟩, fun ⟨b', k', h', hk⟩ => ?_⟩
    cases h.symm.trans h'
    exact hk

theorem State.atBoundary_iff {s : State} {p : Port} : s.AtBoundary p ↔ (decide (p = portS) && s.midSend) = true := by
  rw [Bool.and_eq_true, decide_eq_true_eq, State.midSend_iff]
  rfl

section

variable {s : State} {p : Port} {used : Bool}

/-- A management cell may go away from a boundary, or as the first one at it. -/
theorem State.mgmtMayGo_of (hm : s.maySend p = true) (hf : s.links.ports[p].flow = [])
    (hb : ¬ s.AtBoundary p ∨ s.links.boundaryUsed = false) : s.mgmtMayGo p = true := by
  have free : (decide (p = portS) && s.midSend && s.links.boundaryUsed) = false := by
    obtain away | unused := hb
    · rw [State.atBoundary_iff, Bool.not_eq_true] at away
      rw [away, Bool.false_and]
    · rw [unused, Bool.and_false]
  rw [State.mgmtMayGo, hm, hf, free]
  rfl

theorem State.mgmtMayGo_flowDue (hf : s.links.ports[p].flow ≠ []) : s.mgmtMayGo p = false := by
  rw [State.mgmtMayGo, List.isEmpty_eq_false_iff.2 hf, Bool.and_false, Bool.false_and]

/-- The mark of the boundary after a management cell has gone. -/
theorem State.boundaryUsed_of (hb : ¬ s.AtBoundary p ∧ used = s.links.boundaryUsed ∨
    s.AtBoundary p ∧ s.links.boundaryUsed = false ∧ used = true) :
    (s.links.boundaryUsed || (decide (p = portS) && s.midSend)) = used := by
  obtain ⟨away, rfl⟩ | ⟨at_, -, rfl⟩ := hb
  · rw [State.atBoundary_iff, Bool.not_eq_true] at away
    rw [away, Bool.or_false]
  · rw [State.atBoundary_iff.1 at_, Bool.or_true]

/-- A cell put on a port whose lists have changed before. -/
theorem State.sendCell_modPort (s : State) (p : Port) {f : PortState → PortState} (hf : ∀ q, (f q).seqOut = q.seqOut) (kind : Byte)
    (payload : List Byte) : (s.modPort p f).sendCell p kind payload = { s with
      links := { s.links with ports := modEntry s.links.ports p fun q => { f q with seqOut := q.seqOut + 1 } }
      wire := s.wire ++ [⟨p, cellBytes kind s.links.ports[p].seqOut payload⟩] } := by
  have number : (s.modPort p f).links.ports[p].seqOut = s.links.ports[p].seqOut := by
    rw [State.modPort_links, modEntry_get, if_pos rfl, hf]
  unfold State.sendCell
  rw [number, modPort_modPort]
  simp only [hf]
  rfl

/-- The head of the transmit list sent: it leaves the list, and the boundary is marked. -/
theorem State.sendMgmt_eq {c : MgmtCell} {rest : List MgmtCell} (ht : s.links.ports[p].transmit = c :: rest)
    (hb : (s.links.boundaryUsed || (decide (p = portS) && s.midSend)) = used) : s.sendMgmt p c = { s with
      links := { s.links with
        boundaryUsed := used
        ports := modEntry s.links.ports p fun q => { q with transmit := rest, seqOut := q.seqOut + 1 } }
      wire := s.wire ++ [⟨p, cellBytes c.kind s.links.ports[p].seqOut c.payload⟩] } := by
  have left : modEntry s.links.ports p (fun q => { q with transmit := q.transmit.drop 1, seqOut := q.seqOut + 1 }) =
      modEntry s.links.ports p fun q => { q with transmit := rest, seqOut := q.seqOut + 1 } := by
    simp only [modEntry, ht, List.drop_succ_cons, List.drop_zero]
  unfold State.sendMgmt
  dsimp only
  rw [State.sendCell_modPort (f := fun q => { q with transmit := q.transmit.drop 1 }) _ p fun _ => rfl, hb]
  dsimp only
  rw [left]

theorem exec_replySent_due {tag : BitVec 16} {code : Byte} {status : Status} {results : List Word} {rest : List MgmtCell}
    (ht : s.links.ports[p].transmit = .reply tag code status results :: rest) (hm : s.mgmtMayGo p = true) :
    exec (.replySent p) s = .next (s.sendMgmt p (.reply tag code status results)).handOver := by
  change execReplySent p s = _
  rw [execReplySent, ht]
  exact if_pos hm

theorem exec_replySent_barred (hm : s.mgmtMayGo p = false) : exec (.replySent p) s = .next s := by
  change execReplySent p s = _
  unfold execReplySent
  split
  · exact if_neg (by rw [hm]; decide)
  · rfl

theorem exec_noticeSent_due {f : InFlight} {n : Notice} {level : Nat} {rest : List MgmtCell}
    (hf : s.notices.inFlight = some f) (ht : s.links.ports[f.port].transmit = .notice n level :: rest)
    (hm : s.mgmtMayGo f.port = true) : exec .noticeSent s = .next (s.sendNotice f.port (.notice n level)).handOver := by
  change execNoticeSent s = _
  rw [execNoticeSent, hf]
  dsimp only
  rw [ht]
  exact if_pos hm

theorem exec_flowCellSent_due {h : Head} {c : FlowCell} {rest : List FlowCell}
    (hf : s.links.ports[headPort h].flow = c :: rest) (hm : s.maySend (headPort h) = true) :
    exec (.flowCellSent h) s = .next
      ((s.modPort (headPort h) fun q => { q with flow := q.flow.drop 1 }).sendCell (headPort h) c.kind []).handOver := by
  change execFlowCellSent h s = _
  rw [execFlowCellSent, hf]
  exact if_pos hm

end

/-- Settles O55: the head of each list goes with the port's number, and the boundary decides for a management cell on port S. -/
theorem waitingCellsAreSentInOrder : Obligations.WaitingCellsAreSentInOrder := by
  intro s p hu hr boundary sent
  have sender : s.maySend p = true := State.maySend_iff.2 ⟨hu, hr⟩
  have free : ∀ used, (¬ boundary ∧ used = s.links.boundaryUsed ∨ boundary ∧ s.links.boundaryUsed = false ∧ used = true) →
      s.links.ports[p].flow = [] → s.mgmtMayGo p = true := fun used hb hf =>
    State.mgmtMayGo_of sender hf (hb.imp (fun h => h.1) fun h => h.2.1)
  refine ⟨fun tag code status results rest used ht hf hb => ?reply, fun f n level rest used hi hp ht hf hb => ?notice,
    fun h c rest hp hf => ?flow, fun hf => exec_replySent_barred (State.mgmtMayGo_flowDue hf)⟩
  case reply =>
    rw [exec_replySent_due ht (free used hb hf), State.sendMgmt_eq ht (State.boundaryUsed_of hb)]
    rfl
  case notice =>
    subst hp
    rw [exec_noticeSent_due hi ht (free used hb hf), State.sendNotice, State.sendMgmt_eq ht (State.boundaryUsed_of hb)]
    rfl
  case flow =>
    subst hp
    have left : modEntry s.links.ports (headPort h) (fun q => { q with flow := q.flow.drop 1, seqOut := q.seqOut + 1 }) =
        modEntry s.links.ports (headPort h) fun q => { q with flow := rest, seqOut := q.seqOut + 1 } := by
      simp only [modEntry, hf, List.drop_succ_cons, List.drop_zero]
    rw [exec_flowCellSent_due hf sender,
      State.sendCell_modPort (f := fun q => { q with flow := q.flow.drop 1 }) _ _ fun _ => rfl, left]

/-! ### The reset input (section 11.8, R94, R174) -/

/-- Settles O33: the release is the power-on state with the DRAM that the repair it abandons leaves. -/
theorem resetInputGivesThePowerOnState : Obligations.ResetInputGivesThePowerOnState := by
  intro s
  refine ⟨fun idle => ?idle, ⟨s.abandonRepair.pool.dram, s.abandonRepair.abandoned, rfl, fun k hk => ?regions⟩, rfl⟩
  case idle =>
    change Host.Outcome.next s.powerOn = _
    rw [State.powerOn, State.abandonRepair_idle idle]
  case regions =>
    cases he : s.repair.engine with
    | none => rw [State.abandonRepair_idle he]
    | some job => exact State.abandonRepair_dram_of_ne he (hk job he).symm

end Sys2Proof.Machine
end

section
/-! PROOFS. The order unit's search and its takes (R180) (O14). -/

namespace Sys2Proof.Machine

/-! ### The search for an order (R180) -/

theorem portsAfter_eq (p : Port) : portsAfter p = (List.range 5).map fun i => p + 1 + Fin.ofNat 5 i := by
  revert p
  decide

/-- The port a search of the cycle finds: the first one from the port after the last served that passes the test. -/
theorem find_portsAfter_eq_some {test : Port → Bool} {last p : Port} : (portsAfter last).find? test = some p ↔
    ∃ k, k < 5 ∧ p = last + 1 + Fin.ofNat 5 k ∧ test p = true ∧ ∀ i, i < k → ¬ test (last + 1 + Fin.ofNat 5 i) = true := by
  rw [portsAfter_eq, List.find?_map, Option.map_eq_some_iff]
  constructor
  · rintro ⟨k, found, rfl⟩
    obtain ⟨passes, inRange, before⟩ := List.find?_range_eq_some.1 found
    exact ⟨k, List.mem_range.1 inRange, rfl, passes, fun i hi => Bool.eq_false_iff.1 (by simpa using before i hi)⟩
  · rintro ⟨k, hk, rfl, passes, before⟩
    refine ⟨k, List.find?_range_eq_some.2 ⟨passes, List.mem_range.2 hk, fun i hi => ?_⟩, rfl⟩
    simpa using before i hi

section

variable {s : State} {p : Port} {o : Order}

theorem State.portEligible_iff : s.portEligible p = true ↔
    s.links.ports[p].orders ≠ [] ∧ s.links.ports[p].link = .up ∧ s.links.ports[p].transmit.length < 8 := by
  simp only [State.portEligible, Bool.and_eq_true, Bool.not_eq_true', List.isEmpty_eq_false_iff, State.isUp_iff,
    and_assoc]
  exact and_congr_right' (and_congr_right' decide_eq_true_iff)

theorem State.nextOrder_eq_some : s.nextOrder = some (p, o) ↔
    (portsAfter s.lastPort).find? s.portEligible = some p ∧ ∃ rest, s.links.ports[p].orders = o :: rest := by
  unfold State.nextOrder
  cases found : (portsAfter s.lastPort).find? s.portEligible with
  | none => simp
  | some q =>
    dsimp only
    cases queued : s.links.ports[q].orders with
    | nil => exact absurd queued (State.portEligible_iff.1 (List.find?_some found)).1
    | cons a rest =>
      simp only [Option.some.injEq, Prod.mk.injEq]
      constructor
      · rintro ⟨rfl, rfl⟩
        exact ⟨rfl, rest, queued⟩
      · rintro ⟨rfl, rest', queued'⟩
        exact ⟨rfl, (List.cons.inj (queued.symm.trans queued')).1⟩

/-! ### What a take leaves (R180, R183) -/

theorem State.orderQueues_get (p : Port) : s.orderQueues[p] = s.links.ports[p].orders := by
  simp [State.orderQueues]

/-- An order's effects after its take: the order is gone from its queue, and only SOFT-RESET moves the last served port on. -/
theorem replied_took {rest : List Order} {e : OrderEffect} {last : Port} (hq : s.links.ports[p].orders = o :: rest)
    (he : e.1.desk = { (s.popOrder p).desk with lastPort := last }) :
    (replied p o e).lastPort = last ∧ (replied p o e).links.ports[p].orders = rest ∧
      ∀ k : Port, k ≠ p → (replied p o e).links.ports[k].orders = s.links.ports[k].orders := by
  have desk := (replied_desk p o e).trans he
  have queue : ∀ k : Port, (replied p o e).links.ports[k].orders = (s.popOrder p).links.ports[k].orders := fun k => by
    rw [← State.orderQueues_get, ← State.orderQueues_get]
    exact congrArg (fun d => d.orderQueues[k]) desk
  refine ⟨congrArg Desk.lastPort desk, ?_, fun k hk => ?_⟩
  · rw [queue, popOrder_port, if_pos rfl, hq]
    rfl
  · rw [queue, popOrder_port, if_neg hk.symm]

theorem exec_order_took {rest : List Order} {c : Instr} (hn : s.nextOrder = some (p, o))
    (hq : s.links.ports[p].orders = o :: rest) (hc : c ∈ orderCommands o.code.toNat) (hr : rowTakes c o = true) :
    ∃ t, exec c s = .next t ∧ t.lastPort = (if o.code.toNat = 33 ∧ o.args = [] then portS else p) ∧
      t.links.ports[p].orders = rest ∧ ∀ k : Port, k ≠ p → t.links.ports[k].orders = s.links.ports[k].orders :=
  ⟨_, exec_order_taken hn hc hr, replied_took hq (applyOf_desk _ _ _)⟩

end

/-- Settles O14: the search is a search of the cycle, and no order's effects but SOFT-RESET's touch the queues or the last
served port. -/
theorem orderUnitServesPortsInCycle : Obligations.OrderUnitServesPortsInCycle := by
  refine ⟨fun s p o => ?search, fun s p => ⟨(s.popOrder p).links.ports, rfl, fun k => ?popped⟩,
    fun s p o rest c hn hq => ⟨fun hc h2 => ?known, fun h2 => ?unmount, fun hk ⟨n, _, hc⟩ => ?unknown⟩⟩
  case search =>
    dsimp only
    simp only [← State.portEligible_iff]
    rw [State.nextOrder_eq_some, find_portsAfter_eq_some]
    exact and_comm
  case popped =>
    rw [popOrder_port, List.drop_one]
    by_cases h : k = p
    · rw [if_pos h, if_pos h.symm]
    · rw [if_neg h, if_neg (Ne.symm h)]
  case known =>
    exact exec_order_took hn hq hc (rowTakes_of_code hc h2 o)
  case unmount =>
    exact (rowTakes_unmount o).imp (exec_order_took hn hq (by rw [h2]; decide)) (exec_order_took hn hq (by rw [h2]; decide))
  case unknown =>
    refine ⟨_, exec_order_unknown hn hk hc, replied_took hq ?_⟩
    have notReset : ¬ (o.code.toNat = 33 ∧ o.args = []) := fun h => hk (by rw [h.1]; decide)
    rw [if_neg notReset]
    rfl

end Sys2Proof.Machine
end

section
/-! PROOFS. The tests of an order's code, word count and argument ranges (R181 tests 1 to 3) (O16, O17). -/

namespace Sys2Proof.Machine

/-! ### Which words a reading accepts -/

section

variable (w : Word)

theorem any_const {α : Type} (x : Option α) (c : Bool) : (x.any fun _ => c) = (x.isSome && c) := by cases x <;> simp

theorem isSome_ite_some {α : Type} (c : Prop) [Decidable c] (a : α) : (if c then some a else none).isSome = decide c := by
  split <;> simp [*]

theorem argFin_isSome (n : Nat) : (argFin (n + 1) w).isSome = wordAtMost n w := by
  unfold argFin wordAtMost
  split <;> simp <;> omega

theorem argRange_any (lo hi : Nat) (f : Nat → Bool) : (argRange lo hi w).any f = (wordBetween lo hi w && f w.toNat) := by
  unfold argRange wordBetween
  split <;> simp [*]

theorem wordBetween_zero (hi : Nat) : wordBetween 0 hi w = wordAtMost hi w := by simp [wordBetween, wordAtMost]

theorem argRange_isSome (lo hi : Nat) : (argRange lo hi w).isSome = wordBetween lo hi w := isSome_ite_some _ _

theorem argTrim_isSome : (argTrim w).isSome = wordIsTrim w := isSome_ite_some _ _

theorem argFlag_isSome : (argFlag w).isSome = wordAtMost 1 w := by
  rw [Bool.eq_iff_iff]
  unfold argFlag wordAtMost
  split_ifs <;> simp <;> bv_omega

theorem argBase_isSome : (argBase w).isSome = wordAtMost 3 w := by
  rw [Bool.eq_iff_iff]
  unfold argBase wordAtMost
  split_ifs <;> simp <;> bv_omega

theorem argClass_isSome : (argClass w).isSome = wordAtMost 4 w := by
  rw [Bool.eq_iff_iff]
  unfold argClass wordAtMost
  split_ifs <;> simp <;> bv_omega

theorem argDepth_isSome : (argDepth w).isSome = wordIsDepth w := by
  rw [Bool.eq_iff_iff]
  unfold argDepth wordIsDepth
  split_ifs <;> simp <;> bv_omega

theorem argPitch_isSome : (argPitch w).isSome = wordIsPitch w := by
  unfold argPitch wordIsPitch
  split
  · simp [*]
  · have : w.toNat ≠ 0 := by bv_omega
    simp [argRange_isSome, this]

theorem argChannel_isSome : (argChannel w).isSome = wordAtMost 65535 w := by
  rw [argChannel, Option.isSome_map, argRange_isSome, wordBetween_zero]

theorem argTicket_isSome : (argTicket w).isSome = wordAtMost 65535 w := argChannel_isSome w

/-- A list read word by word, then a test that only looks at the number of words. -/
theorem mapM_any {α : Type} {f : Word → Option α} {range : Word → Bool} (hf : ∀ w, (f w).isSome = range w) {c : Bool}
    {g : List α → Bool} {ws : List Word} (hg : ∀ xs, xs.length = ws.length → g xs = c) :
    (ws.mapM f).any g = (ws.all range && c) := by
  induction ws generalizing g with
  | nil => simp [hg [] rfl]
  | cons w ws ih =>
    rw [List.mapM_cons, List.all_cons, ← hf w, Option.bind_eq_bind, Option.any_bind]
    cases f w with
    | none => rfl
    | some x =>
      change ((ws.mapM f).bind fun xs => some (x :: xs)).any g = (true && (ws.all range && c))
      rw [Option.any_bind, Bool.true_and]
      exact ih fun xs hxs => hg (x :: xs) (congrArg (· + 1) hxs)

theorem argGrade_isSome (p r g b : Word) :
    (argGrade p r g b).isSome = (wordAtMost 7 p && wordIsTrim r && wordIsTrim g && wordIsTrim b) := by
  simp [argGrade, Option.isSome_bind, any_const, argFin_isSome, argTrim_isSome, Bool.and_assoc]

theorem argPolicy_isSome (settle ir action limit : Word) : (argPolicy settle ir action limit).isSome =
    (wordAtMost 7 settle && wordAtMost 65535 ir && wordAtMost 1 action && wordAtMost 15 limit) := by
  simp [argPolicy, Option.isSome_bind, any_const, argRange_isSome, wordBetween_zero, argFlag_isSome, Bool.and_assoc]

theorem argAccount_isSome (lo hi base gauge vinegar score : Word) : (argAccount lo hi base gauge vinegar score).isSome =
    (wordAtMost 65535 hi && wordAtMost 3 base && wordAtMost 3 gauge && wordAtMost 3 vinegar && wordAtMost 1000 score) := by
  simp [argAccount, Option.isSome_bind, any_const, argRange_isSome, wordBetween_zero, argBase_isSome, argFin_isSome,
    Bool.and_assoc]

theorem argCurve_isSome (p c first count : Word) : (argCurve p c first count).isSome =
    (wordAtMost 7 p && wordAtMost 2 c && wordAtMost 256 first && wordBetween 1 32 count &&
      decide (first.toNat + count.toNat ≤ 257)) := by
  simp [argCurve, Option.isSome_bind, any_const, argRange_any, wordBetween_zero, argFin_isSome, isSome_ite_some,
    Bool.and_assoc]
  rfl

theorem argShelfRange_isSome (most : Nat) (first count : Word) : (argShelfRange most first count).isSome =
    (wordAtMost 1023 first && wordBetween 1 most count && decide (first.toNat + count.toNat ≤ 1024)) := by
  simp [argShelfRange, Option.isSome_bind, argRange_any, wordBetween_zero, isSome_ite_some, Bool.and_assoc]

theorem argGauge_isSome (pitch anchor range : Word) : (argGauge pitch anchor range).isSome =
    (wordIsPitch pitch && wordAtMost 65535 anchor && wordAtMost 64 range) := by
  simp [argGauge, Option.isSome_bind, any_const, argRange_isSome, wordBetween_zero, argPitch_isSome, Bool.and_assoc]

theorem argDefectLimits_isSome (heavy bad : Word) :
    (argDefectLimits heavy bad).isSome = (wordBetween 1 1000 heavy && wordAtMost 3072 bad) := by
  simp [argDefectLimits, Option.isSome_bind, any_const, argRange_isSome, wordBetween_zero]

theorem argRepairLimits_isSome (wait span : Word) : (argRepairLimits wait span).isSome =
    (wordBetween 100 25500 wait && decide (wait.toNat % 100 = 0) && wordBetween 1 512 span) := by
  simp [argRepairLimits, Option.isSome_bind, argRange_any, isSome_ite_some, Bool.and_assoc, Bool.and_comm (wordBetween 1 512 span)]

end

/-! ### The verdict on an order's words (R181 tests 1 to 3) -/

/-- What a reading makes of the words, without what it reads. -/
def Args.verdict {α : Type} : Args α → Args Unit
  | .badOrder => .badOrder
  | .badArgument => .badArgument
  | .ok _ => .ok ()

/-- What section 11.7 makes of the words of an order of a code. -/
def orderVerdict (n : Nat) (ws : List Word) : Args Unit :=
  if ws.length ∈ acceptedCounts n ∧ listCountRight n ws = true then
    if argumentsInRange n ws = true then .ok () else .badArgument
  else .badOrder

section

variable {n : Nat} {ws : List Word}

theorem orderVerdict_badOrder (h : ws.length ∉ acceptedCounts n ∨ listCountRight n ws = false) :
    orderVerdict n ws = .badOrder :=
  if_neg fun hc => h.elim (· hc.1) fun hf => Bool.false_ne_true (hf.symm.trans hc.2)

theorem orderVerdict_badArgument (hc : ws.length ∈ acceptedCounts n) (hl : listCountRight n ws = true)
    (hr : argumentsInRange n ws = false) : orderVerdict n ws = .badArgument := by
  rw [orderVerdict, if_pos ⟨hc, hl⟩, if_neg (by rw [hr]; decide)]

/-- A reading of words in an accepted number that succeeds exactly in the ranges. -/
theorem ofRange_verdict {α : Type} {x : Option α} (hc : ws.length ∈ acceptedCounts n) (hl : listCountRight n ws = true)
    (hx : x.isSome = argumentsInRange n ws) : (Args.ofRange x).verdict = orderVerdict n ws := by
  rw [orderVerdict, if_pos ⟨hc, hl⟩, ← hx]
  cases x <;> rfl

theorem badOrder_verdict {α : Type} {k : Nat} (hc : acceptedCounts n = [k]) (h : ws.length ≠ k) :
    (Args.badOrder : Args α).verdict = orderVerdict n ws :=
  (orderVerdict_badOrder (.inl (by rwa [hc, List.mem_singleton]))).symm

/-- A reading of one word. -/
def oneWordArgs {α : Type} (read : Word → Option α) : List Word → Args α
  | [w] => .ofRange (read w)
  | _ => .badOrder

theorem oneWordArgs_verdict {α : Type} {read : Word → Option α} (hc : acceptedCounts n = [1])
    (hl : ∀ w, listCountRight n [w] = true) (hr : ∀ w, (read w).isSome = argumentsInRange n [w]) (ws : List Word) :
    (oneWordArgs read ws).verdict = orderVerdict n ws := by
  unfold oneWordArgs
  split
  case h_1 w => exact ofRange_verdict (by simp [hc]) (hl w) (hr w)
  case h_2 other => exact badOrder_verdict hc fun h => match ws, h with | [w], _ => other w rfl

/-- A reading of one word or none. -/
def optionalWordArgs {α : Type} (read : Word → Option α) : List Word → Args (Option α)
  | [] => .ok none
  | [w] => .ofRange ((read w).map some)
  | _ => .badOrder

theorem optionalWordArgs_verdict {α : Type} {read : Word → Option α} (hc : acceptedCounts n = [0, 1])
    (hn : listCountRight n [] = true) (ha : argumentsInRange n [] = true) (hl : ∀ w, listCountRight n [w] = true)
    (hr : ∀ w, (read w).isSome = argumentsInRange n [w]) (ws : List Word) :
    (optionalWordArgs read ws).verdict = orderVerdict n ws := by
  unfold optionalWordArgs
  split
  case h_1 =>
    rw [orderVerdict, if_pos ⟨by simp [hc], hn⟩, if_pos ha]
    rfl
  case h_2 w => exact ofRange_verdict (by simp [hc]) (hl w) (by rw [Option.isSome_map, hr])
  case h_3 none_ one =>
    refine (orderVerdict_badOrder (.inl fun h => ?_)).symm
    obtain h | h : ws.length = 0 ∨ ws.length = 1 := by simpa [hc] using h
    · exact none_ (List.length_eq_zero_iff.1 h)
    · match ws, h with | [w], _ => exact one w rfl

end

/-! ### The readings of the orders' words -/

theorem mountArgs_verdict (ws : List Word) : (mountArgs ws).verdict = orderVerdict 1 ws := by
  unfold mountArgs
  split
  case h_1 h i g p r gr b =>
    refine ofRange_verdict (by simp [acceptedCounts]) rfl ?_
    change _ = (wordAtMost 3 h && wordAtMost 511 i && wordAtMost 3 g && wordAtMost 7 p && wordIsTrim r && wordIsTrim gr &&
      wordIsTrim b)
    simp [Option.isSome_bind, any_const, argFin_isSome, argGrade_isSome, Bool.and_assoc]
  case h_2 h i g p r gr b settle ir action limit =>
    refine ofRange_verdict (by simp [acceptedCounts]) rfl ?_
    change _ = (wordAtMost 3 h && wordAtMost 511 i && wordAtMost 3 g && wordAtMost 7 p && wordIsTrim r && wordIsTrim gr &&
      wordIsTrim b && wordAtMost 7 settle && wordAtMost 65535 ir && wordAtMost 1 action && wordAtMost 15 limit)
    simp [Option.isSome_bind, any_const, argFin_isSome, argGrade_isSome, argPolicy_isSome, Bool.and_assoc]
  case h_3 short long =>
    refine (orderVerdict_badOrder (.inl fun h => ?_)).symm
    obtain h | h : ws.length = 7 ∨ ws.length = 11 := by simpa [acceptedCounts] using h
    · match ws, h with
      | [a, b, c, d, e, f, g], _ => exact short a b c d e f g rfl
    · match ws, h with
      | [a, b, c, d, e, f, g, h, i, j, k], _ => exact long a b c d e f g h i j k rfl

theorem unmountArgs_verdict (ws : List Word) : (unmountArgs ws).verdict = orderVerdict 2 ws := by
  unfold unmountArgs
  split
  case h_1 r form =>
    refine ofRange_verdict (by simp [acceptedCounts]) rfl ?_
    change _ = (wordAtMost 7 r && wordAtMost 1 form)
    simp [Option.isSome_bind, any_const, argFin_isSome, argFlag_isSome]
  case h_2 other => exact badOrder_verdict rfl fun h => match ws, h with | [r, form], _ => other r form rfl

theorem policyArgs_verdict (ws : List Word) : (policyArgs ws).verdict = orderVerdict 5 ws := by
  unfold policyArgs
  split
  case h_1 r settle ir action limit =>
    refine ofRange_verdict (by simp [acceptedCounts]) rfl ?_
    change _ = (wordAtMost 7 r && wordAtMost 7 settle && wordAtMost 65535 ir && wordAtMost 1 action && wordAtMost 15 limit)
    simp [Option.isSome_bind, any_const, argFin_isSome, argPolicy_isSome, Bool.and_assoc]
  case h_2 other => exact badOrder_verdict rfl fun h => match ws, h with | [a, b, c, d, e], _ => other a b c d e rfl

theorem markArgs_verdict (ws : List Word) : (markArgs ws).verdict = orderVerdict 9 ws := by
  unfold markArgs
  split
  case h_1 l m =>
    refine ofRange_verdict (by simp [acceptedCounts]) rfl ?_
    change _ = (wordBetween 1 16 l && wordBetween 2 32 m && decide (l.toNat < m.toNat))
    simp [Option.isSome_bind, argRange_any, isSome_ite_some, Bool.and_assoc]
  case h_2 other => exact badOrder_verdict rfl fun h => match ws, h with | [l, m], _ => other l m rfl

theorem poolArgs_verdict (ws : List Word) : (poolArgs ws).verdict = orderVerdict 10 ws :=
  optionalWordArgs_verdict rfl rfl rfl (fun _ => rfl) (argFin_isSome · 31) ws

theorem laneArgs_verdict (ws : List Word) : (laneArgs ws).verdict = orderVerdict 21 ws :=
  optionalWordArgs_verdict rfl rfl rfl (fun _ => rfl) (argFin_isSome · 3) ws

theorem loadArgs_verdict (ws : List Word) : (loadArgs ws).verdict = orderVerdict 13 ws := by
  unfold loadArgs
  split
  case h_1 p c first count values =>
    have counts : (p :: c :: first :: count :: values).length ∈ acceptedCounts 13 ↔ 1 ≤ values.length ∧ values.length ≤ 32 := by
      simp only [acceptedCounts, List.length_cons, List.mem_range'_1]
      omega
    have right : listCountRight 13 (p :: c :: first :: count :: values) = decide (values.length = count.toNat) := rfl
    split
    case isTrue wrong =>
      refine (orderVerdict_badOrder (wrong.imp (mt counts.1) fun h => ?_)).symm
      rw [right, decide_eq_false h]
    case isFalse good =>
      obtain ⟨inCounts, asTold⟩ := not_or.1 good
      refine ofRange_verdict (counts.2 (not_not.1 inCounts)) (by rw [right, decide_eq_true (not_not.1 asTold)]) ?_
      change _ = (wordAtMost 7 p && wordAtMost 2 c && wordAtMost 256 first && wordBetween 1 32 count &&
        decide (first.toNat + count.toNat ≤ 257) && values.all (wordAtMost 65535))
      rw [← argCurve_isSome]
      simp [Option.isSome_bind, mapM_any argChannel_isSome fun _ _ => rfl, any_const]
  case h_2 other =>
    refine (orderVerdict_badOrder (.inl fun h => ?_)).symm
    have long : 5 ≤ ws.length := (List.mem_range'_1.1 h).1
    match ws, long with | p :: c :: first :: count :: values, _ => exact other p c first count values rfl

theorem levelArgs_verdict (ws : List Word) : (levelArgs ws).verdict = orderVerdict 14 ws := by
  unfold levelArgs
  split
  case h_1 p kr kg kb gr gg gb depth dither =>
    refine ofRange_verdict (by simp [acceptedCounts]) rfl ?_
    change _ = (wordAtMost 7 p && [kr, kg, kb, gr, gg, gb].all (wordAtMost 65535) && wordIsDepth depth && wordAtMost 1 dither)
    simp [Option.isSome_bind, any_const, argFin_isSome, argFlag_isSome, argChannel_isSome, argDepth_isSome, Bool.and_assoc]
  case h_2 other =>
    exact badOrder_verdict rfl fun h => match ws, h with
      | [p, kr, kg, kb, gr, gg, gb, depth, dither], _ => other p kr kg kb gr gg gb depth dither rfl

theorem readProfileArgs_verdict (ws : List Word) : (readProfileArgs ws).verdict = orderVerdict 15 ws := by
  unfold readProfileArgs
  split
  case h_1 p c first count => exact ofRange_verdict (by simp [acceptedCounts]) rfl (argCurve_isSome p c first count)
  case h_2 other => exact badOrder_verdict rfl fun h => match ws, h with | [a, b, c, d], _ => other a b c d rfl

theorem reelGradeArgs_verdict (ws : List Word) : (reelGradeArgs ws).verdict = orderVerdict 16 ws := by
  unfold reelGradeArgs
  split
  case h_1 r p tr tg tb =>
    refine ofRange_verdict (by simp [acceptedCounts]) rfl ?_
    change _ = (wordAtMost 7 r && wordAtMost 7 p && wordIsTrim tr && wordIsTrim tg && wordIsTrim tb)
    simp [Option.isSome_bind, any_const, argFin_isSome, argGrade_isSome, Bool.and_assoc]
  case h_2 other => exact badOrder_verdict rfl fun h => match ws, h with | [a, b, c, d, e], _ => other a b c d e rfl

theorem cueArgs_verdict (ws : List Word) : (cueArgs ws).verdict = orderVerdict 17 ws := by
  unfold cueArgs
  split
  case h_1 r f p tr tg tb =>
    refine ofRange_verdict (by simp [acceptedCounts]) rfl ?_
    change _ = (wordAtMost 7 r && wordAtMost 16777215 f && wordAtMost 7 p && wordIsTrim tr && wordIsTrim tg && wordIsTrim tb)
    simp [Option.isSome_bind, any_const, argFin_isSome, argRange_isSome, wordBetween_zero, argGrade_isSome, Bool.and_assoc]
  case h_2 other => exact badOrder_verdict rfl fun h => match ws, h with | [a, b, c, d, e, f], _ => other a b c d e f rfl

theorem laneMapArgs_verdict (ws : List Word) : (laneMapArgs ws).verdict = orderVerdict 19 ws := by
  unfold laneMapArgs
  split
  case h_1 first count lanes =>
    have counts : (first :: count :: lanes).length ∈ acceptedCounts 19 ↔ 1 ≤ lanes.length ∧ lanes.length ≤ 32 := by
      simp only [acceptedCounts, List.length_cons, List.mem_range'_1]
      omega
    have right : listCountRight 19 (first :: count :: lanes) = decide (lanes.length = count.toNat) := rfl
    split
    case isTrue wrong =>
      refine (orderVerdict_badOrder (wrong.imp (mt counts.1) fun h => ?_)).symm
      rw [right, decide_eq_false h]
    case isFalse good =>
      obtain ⟨inCounts, asTold⟩ := not_or.1 good
      obtain ⟨least, most⟩ := not_not.1 inCounts
      have told : lanes.length = count.toNat := not_not.1 asTold
      refine ofRange_verdict (counts.2 ⟨least, most⟩) (by rw [right, decide_eq_true told]) ?_
      change _ = (wordAtMost 31 first && wordBetween 1 32 count && decide (first.toNat + count.toNat ≤ 32) &&
        lanes.all (wordAtMost 3))
      have count_ : wordBetween 1 32 count = true := decide_eq_true ⟨told ▸ least, told ▸ most⟩
      have read : ∀ xs : List Lane, xs.length = lanes.length →
          (if first.toNat + xs.length ≤ 32 then some (first.toNat, xs) else none).isSome =
            decide (first.toNat + count.toNat ≤ 32) := fun xs hxs => by rw [isSome_ite_some, hxs, told]
      simp only [Option.bind_eq_bind, Option.isSome_bind, argRange_any, wordBetween_zero, mapM_any (argFin_isSome · 3) read,
        count_, Bool.and_true, Bool.and_assoc, Bool.and_comm (lanes.all _)]
  case h_2 other =>
    refine (orderVerdict_badOrder (.inl fun h => ?_)).symm
    have long : 3 ≤ ws.length := (List.mem_range'_1.1 h).1
    match ws, long with | first :: count :: lanes, _ => exact other first count lanes rfl

theorem defineArgs_verdict (ws : List Word) : (defineArgs ws).verdict = orderVerdict 25 ws := by
  unfold defineArgs
  split
  case h_1 first count cls =>
    refine ofRange_verdict (by simp [acceptedCounts]) rfl ?_
    change _ = (wordAtMost 1023 first && wordBetween 1 1024 count && decide (first.toNat + count.toNat ≤ 1024) &&
      wordAtMost 4 cls)
    simp [Option.isSome_bind, any_const, argShelfRange_isSome, argClass_isSome]
  case h_2 other => exact badOrder_verdict rfl fun h => match ws, h with | [a, b, c], _ => other a b c rfl

theorem readShelfArgs_verdict (ws : List Word) : (readShelfArgs ws).verdict = orderVerdict 28 ws := by
  unfold readShelfArgs
  split
  case h_1 first count => exact ofRange_verdict (by simp [acceptedCounts]) rfl (argShelfRange_isSome 64 first count)
  case h_2 other => exact badOrder_verdict rfl fun h => match ws, h with | [a, b], _ => other a b rfl

theorem refuseArgs_verdict (ws : List Word) : (refuseArgs ws).verdict = orderVerdict 31 ws := by
  unfold refuseArgs
  split
  case h_1 n block =>
    refine ofRange_verdict (by simp [acceptedCounts]) rfl ?_
    change _ = (wordAtMost 65535 n && wordAtMost 1 block)
    simp [Option.isSome_bind, any_const, argTicket_isSome, argFlag_isSome]
  case h_2 other => exact badOrder_verdict rfl fun h => match ws, h with | [a, b], _ => other a b rfl

theorem noticeArgs_verdict (ws : List Word) : (noticeArgs ws).verdict = orderVerdict 34 ws := by
  unfold noticeArgs
  split
  case h_1 mask levels =>
    split
    case isTrue hlen =>
      refine ofRange_verdict (by simp [acceptedCounts, hlen]) rfl ?_
      change _ = (wordAtMost 3 mask && levels.all (wordAtMost 3))
      have read : ∀ xs : List Nat, xs.length = levels.length → (levelTable xs).isSome = true := fun xs hxs => by
        rw [levelTable, dif_pos (hxs.trans hlen), Option.isSome_some]
      have level : ∀ w, (argRange 0 3 w).isSome = wordAtMost 3 w := fun w => by rw [argRange_isSome, wordBetween_zero]
      simp [Option.isSome_bind, any_const, argRange_isSome, wordBetween_zero, mapM_any level read]
    case isFalse hlen => exact badOrder_verdict rfl fun h => hlen (Nat.succ.inj h)
  case h_2 other => exact badOrder_verdict rfl fun h => match ws, h with | mask :: levels, _ => other mask levels rfl

/-! The readings of one word. -/

theorem slotArgs_verdict {n : Nat} (hn : n = 3 ∨ n = 4 ∨ n = 6) (ws : List Word) :
    (slotArgs ws).verdict = orderVerdict n ws := by
  obtain rfl | rfl | rfl := hn <;> exact oneWordArgs_verdict rfl (fun _ => rfl) (argFin_isSome · 7) ws

theorem headArgs_verdict (ws : List Word) : (headArgs ws).verdict = orderVerdict 8 ws :=
  oneWordArgs_verdict rfl (fun _ => rfl) (argFin_isSome · 3) ws

theorem clearArgs_verdict (ws : List Word) : (clearArgs ws).verdict = orderVerdict 18 ws :=
  oneWordArgs_verdict rfl (fun _ => rfl) (argFin_isSome · 7) ws

theorem recordArgs_verdict {n : Nat} (hn : n = 23 ∨ n = 24) (ws : List Word) :
    (recordArgs ws).verdict = orderVerdict n ws := by
  obtain rfl | rfl := hn <;> exact oneWordArgs_verdict rfl (fun _ => rfl) (argFin_isSome · 511) ws

theorem positionArgs_verdict {n : Nat} (hn : n = 26 ∨ n = 27) (ws : List Word) :
    (positionArgs ws).verdict = orderVerdict n ws := by
  obtain rfl | rfl := hn <;> exact oneWordArgs_verdict rfl (fun _ => rfl) (argFin_isSome · 1023) ws

theorem confirmArgs_verdict (ws : List Word) : (confirmArgs ws).verdict = orderVerdict 30 ws :=
  oneWordArgs_verdict rfl (fun _ => rfl) (argTicket_isSome) ws

theorem portArgs_verdict (ws : List Word) : (portArgs ws).verdict = orderVerdict 35 ws :=
  oneWordArgs_verdict rfl (fun _ => rfl) (argFin_isSome · 4) ws

/-! ### The refusals (R181 tests 1 to 3) -/

/-- The effects of an order on words that a test of R181 refuses: its answer, and nothing else. -/
def Refused (n : Nat) (s : State) (ws : List Word) (e : OrderEffect) : Prop :=
  (orderVerdict n ws = .badOrder → e = (s, .badOrder, [])) ∧
  (orderVerdict n ws = .badArgument → ∃ results, e = (s, .badArgument, results) ∧ (n ∉ reportsWhenRefused → results = []))

section

variable {n : Nat} {s : State} {ws : List Word} {α : Type}

theorem withArgs_refused {a : Args α} (hv : a.verdict = orderVerdict n ws) (k : α → OrderEffect) :
    Refused n s ws (s.withArgs a k) := by
  unfold Refused
  rw [← hv]
  cases a with
  | badOrder => exact ⟨fun _ => rfl, nofun⟩
  | badArgument => exact ⟨nofun, fun _ => ⟨[], rfl, fun _ => rfl⟩⟩
  | ok a => exact ⟨nofun, nofun⟩

theorem refuse_refused (hv : (Args.badOrder : Args Unit).verdict = orderVerdict n ws) : Refused n s ws (s.refuse .badOrder) := by
  unfold Refused
  rw [← hv]
  exact ⟨fun _ => rfl, nofun⟩

/-- The effects of a reporting order on words in an accepted number, read or not. -/
theorem report_refused {x : Option α} {e : OrderEffect} (hv : (Args.ofRange x).verdict = orderVerdict n ws)
    (hn : n ∈ reportsWhenRefused) (he : x = none → ∃ results, e = (s, .badArgument, results)) : Refused n s ws e := by
  unfold Refused
  rw [← hv]
  cases x with
  | none => exact ⟨nofun, fun _ => (he rfl).imp fun _ h => ⟨h, fun hr => absurd hn hr⟩⟩
  | some a => exact ⟨nofun, nofun⟩

/-- The effects of an order of no words. -/
theorem noWords_refused {e : OrderEffect} (hc : acceptedCounts n = [0]) (hl : listCountRight n [] = true)
    (hr : argumentsInRange n [] = true) : Refused n s ws (match ws with | [] => e | _ => s.refuse .badOrder) := by
  split
  case h_1 =>
    have ok : orderVerdict n [] = .ok () := by rw [orderVerdict, if_pos ⟨by rw [hc]; decide, hl⟩, if_pos hr]
    unfold Refused
    rw [ok]
    exact ⟨nofun, nofun⟩
  case h_2 other => exact refuse_refused (badOrder_verdict hc fun h => other (List.length_eq_zero_iff.1 h))

end

section

variable (s : State) (o : Order)

theorem applySetGauge_refused : Refused 7 s o.args (applySetGauge s o) := by
  unfold applySetGauge
  split
  case h_1 g pitch anchor range hargs =>
    rw [hargs]
    refine report_refused (x := (argFin 4 g).bind fun _ => argGauge pitch anchor range)
      (ofRange_verdict (by simp [acceptedCounts]) rfl ?_) (by decide) fun hx => ?_
    · change _ = (wordAtMost 3 g && wordIsPitch pitch && wordAtMost 65535 anchor && wordAtMost 64 range)
      rw [Option.isSome_bind, any_const, argFin_isSome, argGauge_isSome, Bool.and_assoc, Bool.and_assoc, Bool.and_assoc]
    · unfold State.gaugeOrder
      split
      · exact ⟨_, rfl⟩
      · exact ⟨_, rfl⟩
      · rename_i g e hg he
        rw [hg, he] at hx
        cases hx
  case h_2 other =>
    exact refuse_refused (badOrder_verdict rfl fun h => match hw : o.args, h with | [a, b, c, d], _ => other a b c d hw)

theorem applySetDefectLimits_refused : Refused 11 s o.args (applySetDefectLimits s o) := by
  unfold applySetDefectLimits
  split
  case h_1 heavy bad hargs =>
    rw [hargs]
    refine report_refused (ofRange_verdict (by simp [acceptedCounts]) rfl (argDefectLimits_isSome heavy bad)) (by decide) fun hx => ?_
    rw [hx]
    exact ⟨_, rfl⟩
  case h_2 other => exact refuse_refused (badOrder_verdict rfl fun h => match hw : o.args, h with | [a, b], _ => other a b hw)

theorem applySetRepairLimits_refused : Refused 12 s o.args (applySetRepairLimits s o) := by
  unfold applySetRepairLimits
  split
  case h_1 wait span hargs =>
    rw [hargs]
    refine report_refused (ofRange_verdict (by simp [acceptedCounts]) rfl (argRepairLimits_isSome wait span)) (by decide) fun hx => ?_
    rw [hx]
    exact ⟨_, rfl⟩
  case h_2 other => exact refuse_refused (badOrder_verdict rfl fun h => match hw : o.args, h with | [a, b], _ => other a b hw)

theorem applySetAckWait_refused : Refused 20 s o.args (applySetAckWait s o) := by
  unfold applySetAckWait
  split
  case h_1 w hargs =>
    rw [hargs]
    refine report_refused (ofRange_verdict (by simp [acceptedCounts]) rfl (argRange_isSome w 10 10000)) (by decide) fun hx => ?_
    rw [hx]
    exact ⟨_, rfl⟩
  case h_2 other => exact refuse_refused (badOrder_verdict rfl fun h => match hw : o.args, h with | [w], _ => other w hw)

theorem State.writeOrder_badArgument {i : Option RecordNo} {a : Option Account} {q : Option (Option PositionNo)}
    (h : (i.bind fun _ => a.bind fun _ => q) = none) : ∃ results, s.writeOrder i a q = (s, .badArgument, results) := by
  unfold State.writeOrder
  split
  · exact ⟨_, rfl⟩
  · cases h
  · exact ⟨_, rfl⟩

theorem applyWriteCatalogue_refused : Refused 22 s o.args (applyWriteCatalogue s o) := by
  unfold applyWriteCatalogue
  split
  case h_1 i lo hi base gauge vinegar score hargs =>
    rw [hargs]
    refine report_refused (ofRange_verdict (by simp [acceptedCounts]) rfl ?_) (by decide) (State.writeOrder_badArgument s)
    change _ = (wordAtMost 511 i && wordAtMost 65535 hi && wordAtMost 3 base && wordAtMost 3 gauge && wordAtMost 3 vinegar &&
      wordAtMost 1000 score)
    simp [Option.isSome_bind, any_const, argFin_isSome, argAccount_isSome, Bool.and_assoc]
  case h_2 i lo hi base gauge vinegar score q hargs =>
    rw [hargs]
    refine report_refused (ofRange_verdict (by simp [acceptedCounts]) rfl ?_) (by decide) (State.writeOrder_badArgument s)
    change _ = (wordAtMost 511 i && wordAtMost 65535 hi && wordAtMost 3 base && wordAtMost 3 gauge && wordAtMost 3 vinegar &&
      wordAtMost 1000 score && wordAtMost 1023 q)
    simp [Option.isSome_bind, any_const, argFin_isSome, argAccount_isSome, Bool.and_assoc]
  case h_3 without within =>
    refine refuse_refused (orderVerdict_badOrder (.inl fun h => ?_)).symm
    obtain h | h : o.args.length = 7 ∨ o.args.length = 8 := by simpa [acceptedCounts] using h
    · match hw : o.args, h with
      | [a, b, c, d, e, f, g], _ => exact without a b c d e f g hw
    · match hw : o.args, h with
      | [a, b, c, d, e, f, g, h], _ => exact within a b c d e f g h hw

/-- Every order's effects make the tests of R181. -/
theorem applyOf_refused {n : Nat} (hn : n ∈ orderCodes) : Refused n s o.args (applyOf n s o) := by
  unfold applyOf
  split
  case h_1 => exact withArgs_refused (mountArgs_verdict _) _
  case h_2 => exact withArgs_refused (unmountArgs_verdict _) _
  case h_3 => exact withArgs_refused (slotArgs_verdict (by decide) _) _
  case h_4 => exact withArgs_refused (slotArgs_verdict (by decide) _) _
  case h_5 => exact withArgs_refused (policyArgs_verdict _) _
  case h_6 => exact withArgs_refused (slotArgs_verdict (by decide) _) _
  case h_7 => exact applySetGauge_refused s o
  case h_8 => exact withArgs_refused (headArgs_verdict _) _
  case h_9 => exact withArgs_refused (markArgs_verdict _) _
  case h_10 => exact withArgs_refused (poolArgs_verdict _) _
  case h_11 => exact applySetDefectLimits_refused s o
  case h_12 => exact applySetRepairLimits_refused s o
  case h_13 => exact withArgs_refused (loadArgs_verdict _) _
  case h_14 => exact withArgs_refused (levelArgs_verdict _) _
  case h_15 => exact withArgs_refused (readProfileArgs_verdict _) _
  case h_16 => exact withArgs_refused (reelGradeArgs_verdict _) _
  case h_17 => exact withArgs_refused (cueArgs_verdict _) _
  case h_18 => exact withArgs_refused (clearArgs_verdict _) _
  case h_19 => exact withArgs_refused (laneMapArgs_verdict _) _
  case h_20 => exact applySetAckWait_refused s o
  case h_21 => exact withArgs_refused (laneArgs_verdict _) _
  case h_22 => exact applyWriteCatalogue_refused s o
  case h_23 => exact withArgs_refused (recordArgs_verdict (by decide) _) _
  case h_24 => exact withArgs_refused (recordArgs_verdict (by decide) _) _
  case h_25 => exact withArgs_refused (defineArgs_verdict _) _
  case h_26 => exact withArgs_refused (positionArgs_verdict (by decide) _) _
  case h_27 => exact withArgs_refused (positionArgs_verdict (by decide) _) _
  case h_28 => exact withArgs_refused (readShelfArgs_verdict _) _
  case h_29 => exact noWords_refused rfl rfl rfl
  case h_30 => exact withArgs_refused (confirmArgs_verdict _) _
  case h_31 => exact withArgs_refused (refuseArgs_verdict _) _
  case h_32 => exact noWords_refused rfl rfl rfl
  case h_33 => exact noWords_refused rfl rfl rfl
  case h_34 => exact withArgs_refused (noticeArgs_verdict _) _
  case h_35 => exact withArgs_refused (portArgs_verdict _) _
  case h_36 =>
    rw [orderCodes, List.mem_range'_1] at hn
    grind

variable {s o}

/-- An order whose words a test refuses is taken by any command of its code: a refused UNMOUNT-REEL names no form (log entry 2). -/
theorem rowTakes_of_refused {c : Instr} (hc : c ∈ orderCommands o.code.toNat) (hv : orderVerdict o.code.toNat o.args ≠ .ok ()) :
    rowTakes c o = true := by
  by_cases h2 : o.code.toNat = 2
  · rw [h2, ← unmountArgs_verdict] at hv
    refine rowTakes_of_noForm ?_
    unfold unmountForm
    cases ha : unmountArgs o.args with
    | badOrder => rfl
    | badArgument => rfl
    | ok a => exact absurd (by rw [ha]; rfl) hv
  · exact rowTakes_of_code hc h2 o

end

/-- Settles O16: the readings refuse the wrong numbers of words, and a command takes only an order of its own code or of an
unknown one. -/
theorem wrongCodeOrWordCountIsBadOrder : Obligations.WrongCodeOrWordCountIsBadOrder := by
  refine ⟨fun s p o c hn => ⟨fun hk ⟨n, _, hc⟩ => exec_order_unknown hn hk hc, fun hc hw => ?wrongCount⟩,
    fun s p o n c hc => ⟨fun hn hk hne => exec_order_other hn hk hc (.inl hne), fun hn => exec_order_none hn hc⟩⟩
  case wrongCount =>
    have verdict : orderVerdict o.code.toNat o.args = .badOrder := orderVerdict_badOrder hw
    have taken := rowTakes_of_refused hc (by rw [verdict]; nofun)
    rw [exec_order_taken hn hc taken, (applyOf_refused _ o (mem_orderCodes_of_mem_orderCommands hc)).1 verdict]

/-- Settles O17: the readings refuse the words out of range, and five orders report what stands. -/
theorem argumentOutOfRangeIsBadArgument : Obligations.ArgumentOutOfRangeIsBadArgument := by
  intro s p o c hn hc hcount hlist hrange
  have verdict : orderVerdict o.code.toNat o.args = .badArgument := orderVerdict_badArgument hcount hlist hrange
  have taken := rowTakes_of_refused hc (by rw [verdict]; nofun)
  obtain ⟨results, refused, silent⟩ := (applyOf_refused (s.popOrder p) o (mem_orderCodes_of_mem_orderCommands hc)).2 verdict
  exact ⟨results, by rw [exec_order_taken hn hc taken, refused], silent⟩

end Sys2Proof.Machine
end

section
/-! PROOFS. The step and the queue of commands (O1). -/

namespace Sys2Proof.Machine

/-! ### The two cases of a step -/

/-- With no command waiting, the part idles (log entry 1). -/
theorem step_of_pending_nil {s : State} (h : s.pending = []) : step s = .next s := by
  rw [step, h]

/-- The front command leaves the queue before it has its effect (log entry 1). -/
theorem step_of_pending_cons {s : State} {c : Instr} {rest : List Instr} (h : s.pending = c :: rest) :
    step s = exec c { s with pending := rest } := by
  rw [step, h]

/-- Settles O1: once the front command is taken, the queue that remains is the state's own. -/
theorem stepTakesFrontCommand : Obligations.StepTakesFrontCommand :=
  ⟨fun c s => step_of_pending_cons (s := { s with pending := c :: s.pending }) rfl, fun _ => step_of_pending_nil⟩

end Sys2Proof.Machine
end
